-- ==== Sys2Proof/Word.lean ====
section
/-! DEFINITION. The word types of the model and the plainest arithmetic over them. -/

namespace Sys2Proof

/-- One byte of a payload, a buffer or a cell. -/
abbrev Byte := BitVec 8

/-- A 32-bit register or descriptor word (00_scope R6). -/
abbrev Word := BitVec 32

/-- A 64-bit register (00_scope R8). -/
abbrev DWord := BitVec 64

/-- A domain time or a time difference, in units of 1/65,536 ns (02 Table 2-1). -/
abbrev Ticks := Int

/-- One nanosecond in ticks. -/
abbrev tickNs : Int := 65536

/-- The field high:low of a word as a number (00_scope R6). -/
def Word.field (w : Word) (hi lo : Nat) : Nat := (w.toNat / 2 ^ lo) % 2 ^ (hi + 1 - lo)

/-- Bit `i` of a number. -/
def bitOf (v i : Nat) : Bool := (v / 2 ^ i) % 2 == 1

/-- A Bool as the bit it stands for. -/
def bit01 (b : Bool) : Nat := if b then 1 else 0

end Sys2Proof
end

