-- ==== Sys2Proof/Syntax.lean ====
section
/-! DEFINITION. The commands and events of the HXR-6520: one constructor of `Instr` per row of
spec/opcode_table.json, with the operands the spec gives the row. Every row carries the instant at
which it happens, a value of the free-running counter (02 R29). -/

namespace Sys2Proof

/-- The two time domains (02 R30). -/
inductive Dom | ta | tb
deriving DecidableEq, Repr

/-- The two Onalas ports (09). -/
inductive BusPort | oa | ob
deriving DecidableEq, Repr

/-- The two storage ports (08). -/
inductive StPort | s0 | s1
deriving DecidableEq, Repr

/-- The two keel feeds (19 R432). -/
inductive Feed | a | b
deriving DecidableEq, Repr

/-- A fall-line position F:frame.line+phase (00 R15). -/
structure Pos where
  frame : Nat
  line  : Nat
  phase : Nat
deriving DecidableEq, Repr

/-- The decoded value of one field record (17 R403). -/
inductive RVal
  | num (v : Int)
  | none_
  | list (l : List Nat)
  | time (t : Ticks)
  | pos (p : Pos)
deriving DecidableEq, Repr

/-- One field record of a record command (17 R401). -/
structure Rec where
  id  : Nat
  val : RVal
deriving DecidableEq, Repr

/-- What every mailbox command carries besides its own payload (16 Table 16-9, R379-R382):
the instant at which the engine starts it, the ring it arrived on, its TAG, whether a reserved bit
or field of the request is non-zero (00 R10), and RESULT_BYTES and RESULT_ADDR of an extended request. -/
structure Hdr where
  time   : Nat
  fn     : Nat
  warden : Bool
  tag    : Nat
  rsvd   : Bool
  fence  : Bool
  noInt  : Bool
  room   : Nat
  resAddr : Nat := 0
deriving DecidableEq, Repr

/-- One request entry as the engine reads it from host memory (16 Table 16-9). -/
structure ReqEntry where
  opcode : Nat
  tag    : Nat
  len    : Nat
  ext    : Bool
  fence  : Bool
  noInt  : Bool
  phase  : Bool
  rsvd   : Bool
  readOk : Bool
deriving DecidableEq, Repr

/-- Words 0 to 6 of a queue descriptor, bytes 0-27 (03 Table 3-1). -/
structure QWords where
  config    : Word
  endpoints : Word
  minCells  : Word
  maxCells  : Word
  grant     : Word
  wmHigh    : Word
  wmLow     : Word
deriving DecidableEq, Repr

/-- The payload of QUEUE.RING.SET (17 Table 17-6, 16 R470). -/
structure RingArgs where
  queue    : Nat
  doorbell : Nat
  log2     : Nat
  vector   : Nat
  gather   : Nat
  batch    : Nat
  side     : Nat
  addr     : Nat
deriving DecidableEq, Repr

/-- One submission entry as fetched (16 R389): its 64 bytes, the GATHER data, how many reads of that
data failed, and the reference pictures that the bitstream of a decode job names (04 R91). -/
structure SubEntry where
  bytes     : List Byte
  data      : List Byte
  readFails : Nat
  refs      : List Nat
deriving DecidableEq, Repr

/-- The payload of ASSET.READ (08 Table 8-6). -/
structure ReadArgs where
  container  : Nat
  priority   : Nat
  hostDecomp : Bool
  texHost    : Bool
  session    : Bool
  first      : Nat
  count      : Nat
  dest       : Nat
  destBytes  : Nat
  sessionId  : Nat
  tagAddr    : Nat
  stageAddr  : Nat
  stageBytes : Nat
  userTag    : Nat
deriving DecidableEq, Repr

/-- One decrypted chunk-table entry (08 Table 8-3). -/
structure ChunkEntry where
  offset   : Nat
  stored   : Nat
  outBytes : Nat
  outPos   : Nat
  coding   : Nat
  hostBytes : Nat
deriving DecidableEq, Repr

/-- What the engine finds when it reads a container: the 512 bytes of its header and its decrypted chunk table as the last read
of each gave them (08 Tables 8-2, 8-3, R186), the EXPIRY of the key blob, and the outcome of each check that uses a key. -/
structure HacFacts where
  header    : List Byte
  table     : List Byte
  blobOk    : Bool
  expiry    : Nat
  headerTagOk : Bool
  tableTagOk  : Bool
deriving DecidableEq, Repr

/-- What the key unwrapping unit finds in a blob (15 Table 15-6, R363). -/
structure BlobFacts where
  formOk   : Bool
  kind     : Nat
  wrap     : Nat
  deviceOk : Bool
  tagOk    : Bool
  test     : Bool
  minSvn   : Nat
  expires  : Bool
  expiry   : Nat
  key      : Nat
deriving DecidableEq, Repr

/-- One gate-list entry (13 Table 13-5); `off` is in ticks for a time base and in 1/65,536 lines,
counted from the cycle start, for a fall-line base. -/
structure GateEntry where
  off  : Nat
  frame : Nat
  line : Nat
  phase : Nat
  mask : Nat
deriving DecidableEq, Repr

/-- A gate list (13 Table 13-4). -/
structure GateList where
  base     : Nat
  startT   : Ticks
  startP   : Pos
  cycle    : Nat
  fallback : Nat
  entries  : List GateEntry
deriving DecidableEq, Repr

/-- Parameters of a check-value unit (14 R340, Table 14-3). -/
structure CrcParams where
  width  : Nat
  poly   : Nat
  init   : Nat
  refin  : Bool
  refout : Bool
  xorout : Nat
  big    : Bool
deriving DecidableEq, Repr

/-- A unit context (14 Table 14-5). -/
structure CrcCtx where
  value : Nat
  held  : List Byte
  bytes : Nat
  open_ : Bool
deriving DecidableEq, Repr

/-- A packet of a feed queue goes through a check unit: the unit, and whether its running value kept its parity (14 R346). -/
structure FeedFacts where
  unit     : Nat
  parityOk : Bool
deriving DecidableEq, Repr

/-- The header and payload of a frame on the wire (10 Table 10-2), with what the receiver's units
find in it: the header CRC, the payload CRC-32C and data phase, the tag, and, of a received frame, the FRC and TDC
fraction of its start-of-frame edge (02 R40). -/
structure Frame where
  urg   : Nat
  cls   : Nat
  src   : Nat
  fdf   : Bool
  dkind : Nat
  dst   : Nat
  flow  : Nat
  seq   : Nat
  frag  : Nat
  len   : Nat
  auth  : Bool
  kph   : Bool
  hcrcOk : Bool
  bodyOk : Bool
  tagOk  : Bool
  payload : List Byte
  sofNs  : Nat := 0
  sofTdc : Nat := 0
deriving DecidableEq, Repr

/-- First error a port detects in a frame (11 Table 11-1). -/
inductive WireErr | bit | stuff | hcrc | form | data | txdc | commit | flagSeen
deriving DecidableEq, Repr

/-- What a sender reads in the commit slot (10 Table 10-6): CS0, CS1 and REASON, each as the logic
level read (dominant is 0), or an error that ended the frame before it. -/
inductive SlotRead
  | slot (cs0 cs1 : Bool) (reason : Nat)
  | error (e : WireErr)
deriving DecidableEq, Repr

/-- How an attempt goes on: what the port reads at the end of its frame, the TDC fraction of the frame's start-of-frame
edge (02 R40), and the loop delay that a data phase's first rising transition measures, in 1/64 ns (09 R218). -/
structure AttemptFacts where
  read : SlotRead
  tdc  : Nat
  loop : Nat
deriving DecidableEq, Repr

/-- A fault message (18 Table 18-1). -/
structure FaultMsg where
  source  : Nat
  kind    : Nat
  held    : Bool
  address : Nat
deriving DecidableEq, Repr

/-- A time frame as received (02 Tables 2-7, 2-8); `stamp` is the ingress FRC and its TDC fraction
in 1/64 ns. -/
structure TimeFrame where
  src     : Nat
  domain  : Dom
  twoStep : Bool
  holdover : Bool
  epoch   : Nat
  tseq    : Nat
  stampNs : Nat
  stampTdc : Nat
  origin  : Ticks
  step    : Ticks
  rateHint : Int
  tagOk   : Bool
  capable : Bool
deriving DecidableEq, Repr

/-- A received FL_ANCHOR frame (02 Table 2-8). -/
structure FlAnchor where
  src   : Nat
  fl    : Nat
  flywheel : Bool
  frame : Nat
  time  : Ticks
  lines : Nat
  fpNs  : Nat
  fpNum : Nat
  fpDen : Nat
  tagOk : Bool
deriving DecidableEq, Repr

/-- A received HEARTBEAT (10 Table 10-12a). -/
structure Heartbeat where
  src   : Nat
  flags : Nat
  follows : Nat
  epochTa : Nat
  epochTb : Nat
  hbSeq : Nat
  state : Nat
deriving DecidableEq, Repr

/-- A global operation payload (12 Table 12-7) and the frame's SRC. -/
structure GlobalOp where
  src   : Nat
  msg   : Nat
  dom   : Dom
  skipLate : Bool
  partial_ : Bool
  timeout : Bool
  opId  : Nat
  execNs : Nat
  epoch : Nat
  reqType : Nat
  arg   : Nat
deriving DecidableEq, Repr

/-- A complete enrollment record (15 Table 15-8) with what the verifying units find. -/
structure EnrollRec where
  src     : Nat
  exchange : Nat
  msg     : Nat
  chainOk : Bool
  sigOk   : Bool
  test    : Bool
  macOk   : Bool
  subject : Nat
  node    : Nat
  epoch   : Nat
  key     : Nat
  authKey : Nat
  authEpoch : Nat
  reason  : Nat
deriving DecidableEq, Repr

/-- Lines of samples by line number: luma, and chroma. -/
structure Planes where
  y  : List (Nat × List Nat) := []
  cb : List (Nat × List Nat) := []
  cr : List (Nat × List Nat) := []
deriving DecidableEq, Repr

/-- A vector that a run coded or decoded for a block of 16 x 16 samples, in 1/8 sample, with its reference: its place in the
picture's list for an encode run (05 R122, R125), its picture number for a decode run (07 R171, R174). -/
structure CodedVec where
  bx  : Nat
  by_ : Nat
  mvx : Int
  mvy : Int
  ref : Nat
deriving DecidableEq, Repr

/-- Bytes of host memory as reads over the link find them: `fails` reads of them fail before one succeeds (05 R117, R121). -/
structure HostBlk where
  addr  : Nat
  data  : List Byte
  fails : Nat := 0
deriving DecidableEq, Repr

/-- A dispatch cycle: its instant, and the host memory that the runs it starts read. -/
structure CycleFacts where
  time : Nat
  mem  : List HostBlk
deriving DecidableEq, Repr

/-- A core's rate over 100 ms in pixels per second, and whether it decoded (04 R107). -/
structure RateFacts where
  rate   : Nat
  decode : Bool
deriving DecidableEq, Repr

/-- A comparator, and whether what it guards arrives in the cycle (02 R53). -/
structure FireFacts where
  cmp     : Nat
  arrival : Bool
deriving DecidableEq, Repr

/-- What a core reports at its run's commit (05 R122, R127; 06 R141, R142; 07 R157, R162, R174; 08 R196, R197): the bits
spent after each line group, the vectors, the decoded lines with their depth and chroma_format_idc, and those lines with film
grain where the bitstream asks for it (`grain`). `damage` is what the run finds (Table 7-5), `errLine` the first line with an
error, `lineGroup` the stream's line group, 0 the codec's least; `headerOk` says that a header passed the checks of R156,
`wholeOut` which picture the commit causes to be output whole. -/
structure RunReport where
  hdrBits : Nat
  intraBits : Nat
  interBits : Nat
  groupBits : List Nat := []
  vectors : List CodedVec := []
  lines   : Planes := {}
  damage  : Nat
  dirty   : List Nat
  shown   : Bool
  fastpath : Nat
  outOk   : Bool
  grain   : Bool
  wholeOut : Option Nat
  errLine : Nat := 0
  headerOk : Bool := false
  lineGroup : Nat := 0
  depth   : Nat := 10
  chroma  : Nat := 1
  grained : Planes := {}
deriving DecidableEq, Repr

/-- One cell as its producer writes it (03 R63): for CORE producers `job` names the job sequence
number of the run's staged chain and `core` the core. `mismatch` says that the pointer banks were
found to disagree on this traversal (03 R75). -/
structure CellIn where
  first : Bool
  last  : Bool
  err   : Bool
  data  : List Byte
  job   : Nat
  core  : Option Nat
  bad   : Bool
  mismatch : Bool
  flMismatch : Bool
deriving DecidableEq, Repr

/-- What the start hut finds at boot (15 R357-R362, 20 R452): straps, whether each slot's
signature verifies, its lifecycle mask (bit n for state n of Table 15-2), SVN and measurement, and the configuration block. -/
structure BootFacts where
  rate  : Nat
  termA : Bool
  termB : Bool
  slotAOk : Bool
  slotALc : Nat
  slotASvn : Nat
  slotAMeas : Nat
  slotBOk : Bool
  slotBLc : Nat
  slotBSvn : Nat
  slotBMeas : Nat
  pcbOk  : Bool
  pcbSvn : Nat
deriving DecidableEq, Repr

/-- A new NVMe device found on S0 (08 R179): one controller directly on the port, and its queues. -/
structure DevFacts where
  direct : Bool
  queues : Nat
  mdts   : Nat := 0
deriving DecidableEq, Repr

/-- The properties of a namespace as identified (08 R184, Table 8-1). -/
structure NsFacts where
  present : Bool
  lbaSize : Nat
  meta_   : Bool
  prot    : Bool
  lbas    : Nat
deriving DecidableEq, Repr

/-- One command or event. Constructors stand in the order of spec/opcode_table.json. -/
inductive Instr
  -- DEV
  | devInfo (h : Hdr)
  | devConfig (h : Hdr) (key : Nat) (write : Bool) (value : Option Nat)
  | engineReset (h : Hdr)
  | engineResetDone (t : Nat)
  -- TIME
  | timeRead (h : Hdr)
  | timeSelect (h : Hdr) (sel : Nat)
  | timeAdjust (h : Hdr) (dom : Nat) (offset rate : Bool) (rateAdj : Int) (delta : Ticks)
  | timeServoSet (h : Hdr) (dom : Nat) (recs : List Rec)
  | timePortSet (h : Hdr) (port : Nat) (recs : List Rec)
  | timeFlSet (h : Hdr) (fl : Nat) (recs : List Rec)
  | timeCmpArm (h : Hdr) (cmp : Nat) (recs : List Rec)
  | timeCmpDisarm (h : Hdr) (cmp : Nat)
  | timeTrigSet (h : Hdr) (trig : Nat) (recs : List Rec)
  | timeCapSet (h : Hdr) (fifo edges : Nat) (sources : List Nat)
  | timeCapRead (h : Hdr) (fifo max : Nat)
  -- QUEUE
  | queueCreate (h : Hdr) (q : Option Nat) (d : QWords)
  | queueSet (h : Hdr) (q mask : Nat) (d : QWords)
  | queueQuery (h : Hdr) (q : Nat)
  | queueDestroy (h : Hdr) (q : Nat) (force : Bool)
  | queueAck (h : Hdr) (q mask : Nat)
  | queueQuotaSet (h : Hdr) (fn cells : Nat)
  | queueStatsRead (h : Hdr) (q : Nat) (clear : Bool)
  | queueHistSet (h : Hdr) (q metric : Nat) (edges : List Nat)
  | queueHistRead (h : Hdr) (q : Nat) (clear : Bool)
  | queueRingSet (h : Hdr) (a : RingArgs)
  -- STREAM
  | streamCreate (h : Hdr) (recs : List Rec)
  | streamSet (h : Hdr) (stream : Nat) (restart : Bool) (recs : List Rec)
  | streamDestroy (h : Hdr) (stream : Nat) (force : Bool)
  | streamStatsRead (h : Hdr) (stream : Nat) (clear : Bool)
  | streamRecover (h : Hdr) (stream picture firstLine lineCount : Nat)
  | streamConceal (h : Hdr) (stream verdict damageId : Nat)
  -- ASSET
  | assetVolumeOpen (h : Hdr) (port slot nsid scratchFirst scratchCount : Nat) (ns : NsFacts)
  | assetVolumeClose (h : Hdr) (volume : Nat) (force : Bool)
  | assetContainerOpen (h : Hdr) (volume offset : Nat) (f : HacFacts)
  | assetContainerClose (h : Hdr) (container : Nat) (force : Bool)
  | assetRead (h : Hdr) (a : ReadArgs)
  | assetInstall (h : Hdr) (src dst srcOffset dstLba : Nat) (f : HacFacts) (chunkOk : Bool) (chunkCrc : Bool)
  | assetStatsRead (h : Hdr) (port : Nat) (clear : Bool)
  -- BUS
  | busPortSet (h : Hdr) (port : Nat) (recs : List Rec)
  | busPortQuery (h : Hdr) (port : Nat)
  | busPortRecover (h : Hdr) (port : Nat)
  | busWake (h : Hdr) (port : Nat)
  | busFlowCreate (h : Hdr) (recs : List Rec)
  | busFlowSet (h : Hdr) (port flow : Nat) (recs : List Rec)
  | busFlowResume (h : Hdr) (port : Nat) (dropHead : Bool) (flow : Nat)
  | busFlowDestroy (h : Hdr) (port : Nat) (force : Bool) (flow : Nat)
  | busFlowStats (h : Hdr) (port : Nat) (clear : Bool) (flow : Nat)
  | busMbSet (h : Hdr) (port mb : Nat) (recs : List Rec)
  | busMbSend (h : Hdr) (port mb len : Nat) (payload : List Byte)
  | busMbRead (h : Hdr) (port mb : Nat)
  | busMbRelease (h : Hdr) (port mb : Nat)
  | busFilterSet (h : Hdr) (port entry : Nat) (recs : List Rec)
  | busInspectVerdict (h : Hdr) (port verdict flow : Nat)
  | busStatsRead (h : Hdr) (port : Nat) (clear : Bool)
  | busTraverseSet (h : Hdr) (recs : List Rec)
  | busAnchorSet (h : Hdr) (recs : List Rec)
  | busAnchorQuery (h : Hdr) (port : Nat)
  | busAnchorTakeover (h : Hdr) (port : Nat)
  | busGlobalIssue (h : Hdr) (msg arg : Nat)
  | busBarrierArrive (h : Hdr) (barrier : Nat)
  | busPortStatsClear (h : Hdr) (port : Nat)
  -- SCHED
  | schedHostSet (h : Hdr) (recs : List Rec)
  | schedFnSet (h : Hdr) (fn : Nat) (reset : Bool) (recs : List Rec)
  | schedShaperSet (h : Hdr) (shaper : Option Nat) (recs : List Rec)
  | schedShaperBind (h : Hdr) (shaper : Option Nat) (port kind id : Nat)
  | schedShaperReset (h : Hdr) (shaper : Nat)
  | schedShaperRelease (h : Hdr) (shaper : Nat)
  | schedPolicerSet (h : Hdr) (policer : Option Nat) (recs : List Rec)
  | schedPolicerReset (h : Hdr) (policer : Nat) (force : Bool)
  | schedGateSet (h : Hdr) (port : Nat) (list : GateList)
  | schedGateStart (h : Hdr) (port : Nat)
  | schedGateStop (h : Hdr) (port : Nat)
  | schedGateClass (h : Hdr) (port cls : Nat) (gate : Option Nat)
  | schedStatsRead (h : Hdr) (clear : Bool)
  | schedLatencySet (h : Hdr) (q limit : Nat)
  | schedLatencyRead (h : Hdr) (q : Nat) (clear ack : Bool)
  -- CHECK
  | checkSet (h : Hdr) (unit : Option Nat) (recs : List Rec)
  | checkRun (h : Hdr) (unit : Nat) (start finish noAppend : Bool) (lastBits addr : Nat) (data : List Byte)
      (readOk parityOk : Bool)
  | checkStateRead (h : Hdr) (unit : Nat)
  | checkStateWrite (h : Hdr) (unit : Nat) (ctx : CrcCtx)
  | checkRelease (h : Hdr) (unit : Nat) (force : Bool)
  -- TRUST
  | trustInfo (h : Hdr)
  | trustProvision (h : Hdr) (rootHash : Nat) (blob : BlobFacts) (pcbOk : Bool) (pcbSvn : Nat)
  | trustLifecycleAdvance (h : Hdr) (target oemChal neythChal : Nat) (oemOk neythOk : Bool)
  | trustDebugUnlock (h : Hdr) (chal : Nat) (oemOk neythOk : Bool)
  | trustFwStage (h : Hdr) (sigOk : Bool) (lcMask svn meas : Nat)
  | trustFwActivate (h : Hdr)
  | trustFwCommit (h : Hdr)
  | trustFwRecover (h : Hdr) (sigOk : Bool) (lcMask svn meas : Nat)
  | trustPcbSet (h : Hdr) (ok : Bool) (svn : Nat)
  | trustKeyLoad (h : Hdr) (slot : Option Nat) (blob : BlobFacts)
  | trustKeyGenerate (h : Hdr) (slot : Option Nat)
  | trustKeyErase (h : Hdr) (slot : Nat)
  | trustAuthoritySet (h : Hdr) (port node : Nat)
  | trustNodeRevoke (h : Hdr) (port node subject : Nat)
  | trustSessionChallenge (h : Hdr)
  | trustSessionOpen (h : Hdr) (chal : Nat) (chainOk sigOk : Bool) (key : Nat)
  | trustSessionClose (h : Hdr) (session : Nat)
  | trustAttest (h : Hdr) (nonce reportData : Nat)
  | trustTimeSet (h : Hdr) (chal : Nat) (sigOk : Bool) (time : Ticks)
  -- FAULT
  | faultSet (h : Hdr) (first last severity reaction timeoutMs : Nat)
  | faultThresholdSet (h : Hdr) (faultOk flt : Nat)
  | faultRead (h : Hdr) (which : Nat)
  | faultLogRead (h : Hdr) (start max : Nat)
  | faultAck (h : Hdr) (first last : Nat)
  | faultCountRead (h : Hdr) (first last : Nat) (clear : Bool)
  | faultVerdict (h : Hdr) (logIndex action : Nat)
  | faultXfSet (h : Hdr) (enable : Nat)
  -- POWER
  | powerCapSet (h : Hdr) (capMw : Nat)
  | powerQuery (h : Hdr)
  | powerTelemetrySet (h : Hdr) (index smbusAddr device rail : Nat)
  -- PIN
  | pinClaim (h : Hdr) (kind : Nat) (index : Option Nat)
  | pinRelease (h : Hdr) (kind : Nat) (force : Bool) (index : Nat)
  | pinQuery (h : Hdr) (kind index : Nat)
  | pinGpioSet (h : Hdr) (gpio dir level : Nat)
  | pinGpioRead (h : Hdr) (gpio : Nat) (ballIn : Bool)
  -- DIAG
  | diagCoreStats (h : Hdr) (clear : Bool)
  | diagSelftest (h : Hdr) (laneFail : List (Nat × Nat))
  | diagTempRead (h : Hdr)
  | diagTraceRead (h : Hdr) (maxBytes addr : Nat)
  -- host link and mailbox events
  | mbxDoorbellWrite (t fn : Nat) (warden : Bool) (value : Word) (entries : List ReqEntry)
  | stalePhaseRetry (t fn : Nat) (warden : Bool) (entry : ReqEntry)
  | mbxEnableSet (t fn : Nat) (warden : Bool) (value : Word)
  | mbxEnableClear (t fn : Nat) (warden : Bool)
  | mbxRspHeadWrite (t fn : Nat) (warden : Bool) (value : Word)
  | queueDoorbellWrite (t fn doorbell : Nat) (value : Word)
  | registerWrite (t fn offset width : Nat) (value : DWord)
  | submissionFetch (t q : Nat) (e : SubEntry)
  | packetDelivery (t q bufAddr bufBytes : Nat)
  | hostLinkWrite (t : Nat)
  | msixHoldoffEnd (t fn vector : Nat)
  -- resets, power and bring-up
  | resetNAssert (t : Nat)
  | resetNDeassert (t : Nat) (b : BootFacts)
  | enterSnowplough (t : Nat) (c0Ok late : Bool)
  | enterPiste (t : Nat) (failed : List Nat) (tdcOk late : Bool) (s0 s1 : DevFacts)
  | perstNAssert (t : Nat)
  | perstNDeassert (t : Nat)
  | vfEnable (t numVfs : Nat)
  | vfReturnExpiry (t vf : Nat)
  | functionLevelReset (t fn : Nat)
  | keelFeedOutOfWindow (t : Nat) (feed : Feed)
  | keelFeedRestored (t : Nat) (feed : Feed)
  | keelRevertExpiry (t : Nat)
  | holdUpExpiry (t : Nat)
  | sysrefStop (t : Nat)
  | tamperTrip (t source : Nat)
  -- storage and asset path
  | s0Removal (t : Nat)
  | s0Insertion (t : Nat) (d : DevFacts)
  | s1LinkDown (t : Nat)
  | insertionWindowEnd (t : Nat)
  | nvmeCompletion (t : Nat) (port : StPort) (cmd : Nat) (mediaError : Bool)
  | nvmeCommandTimeout (t : Nat) (port : StPort) (cmd : Nat)
  | assetReadIssue (t : Nat)
  | chunkVerify (t req chunk : Nat) (crcOk tagOk : Bool) (payload : Option (List Byte))
  | decompressionDone (t req chunk : Nat) (formatOk unitFault : Bool)
  | assetRequestComplete (t req : Nat)
  -- queues
  | cellWrite (t q : Nat) (c : CellIn)
  | cellRead (t q : Nat) (mismatch : Bool)
  | dropRest (t q : Nat) (mismatch : Bool)
  | queueRebuildDone (t q : Nat) (lost : List Nat)
  | freeListRebuildDone (t : Nat)
  | histogramSample (t : Nat)
  -- cores
  | dispatchCycle (c : CycleFacts)
  | progressReport (t core pixels : Nat)
  | runCommit (t core : Nat) (r : RunReport)
  | coreFault (t core kind lane : Nat)
  | runWatchdogExpiry (t core : Nat)
  | laneTestDone (t core lane : Nat) (pass : Bool)
  | thermalEvaluation (t core : Nat) (temp : Int)
  | slowCoreCheck (t core : Nat) (r : RateFacts)
  | powerCapTick (t onDie covered : Nat) (readings : List (Option Nat))
  | lookaheadAnalysisDone (t stream picture cost : Nat)
  | laGuardRelease (t stream job : Nat)
  -- decode
  | sliceIntake (t stream height : Nat) (refs : List Nat)
  | displayConcealment (t stream : Nat)
  | lateLimitExpiry (t stream : Nat)
  | concealmentDone (t stream : Nat)
  | recoveryRepeat (t stream : Nat)
  | recoverMessageRx (t queue : Nat)
  -- time unit
  | comparatorFire (t : Nat) (f : FireFacts)
  | flFrameEdge (t fl tdc : Nat)
  | flLineEdge (t fl tdc : Nat)
  | flFlywheelTimeout (t fl : Nat)
  | flChangeApply (t fl : Nat)
  | flAnchorTx (t fl : Nat)
  | flAnchorRx (t : Nat) (port : BusPort) (a : FlAnchor)
  | relayAnchorTimeout (t fl : Nat)
  | capEdge (t cap : Nat) (falling : Bool) (tdc : Nat)
  | syncTx (t : Nat) (port : BusPort) (dom : Dom)
  | syncRx (t : Nat) (port : BusPort) (f : TimeFrame)
  | followUpRx (t : Nat) (port : BusPort) (f : TimeFrame)
  | delayReqRx (t : Nat) (port : BusPort) (f : TimeFrame)
  | delayRspRx (t : Nat) (port : BusPort) (f : TimeFrame) (requester : Nat)
  | syncMissHoldover (t : Nat) (dom : Dom)
  | residualSlewDone (t : Nat)
  -- bus
  | arbitrationAttempt (t : Nat) (port : BusPort) (others : List Nat) (a : AttemptFacts)
  | frameReceive (t : Nat) (port : BusPort) (f : Frame) (err : Option WireErr)
  | creditRx (t : Nat) (port : BusPort) (src flow openId total : Nat)
  | flowOpenRx (t : Nat) (port : BusPort) (src flow startSeq openId : Nat) (auth : Bool)
  | flowOpenRepeat (t : Nat) (port : BusPort) (flow : Nat)
  | creditRefresh (t : Nat) (port : BusPort) (flow : Nat)
  | holdoffExpiry (t : Nat) (port : BusPort) (flow : Nat)
  | dedupAgeExpiry (t : Nat) (port : BusPort) (src flow : Nat)
  | headFrameAged (t : Nat) (port : BusPort) (flow : Nat)
  | openTimeoutExpiry (t : Nat) (port : BusPort) (flow : Nat)
  | hostTimeLaunch (t : Nat) (port : BusPort) (flow : Nat)
  | integrationDone (t : Nat) (port : BusPort)
  | portDisableAtIdle (t : Nat) (port : BusPort)
  | busoffRecoveryDone (t : Nat) (port : BusPort) (sequences : Nat)
  | stuckDominantCutoff (t : Nat) (port : BusPort)
  | lineHeldDominant (t : Nat) (port : BusPort)
  | dataDriverRunaway (t : Nat) (port : BusPort) (own : Bool)
  | busWakeDetect (t : Nat) (port : BusPort) (dominantNs : Nat)
  | heartbeatTx (t : Nat) (port : BusPort)
  | heartbeatRx (t : Nat) (port : BusPort) (hb : Heartbeat)
  | primarySilentSwitch (t : Nat) (port : BusPort)
  | partnerSilent (t : Nat) (port : BusPort)
  | anchorTakeoverCheck (t : Nat) (port : BusPort)
  | gopRequestRx (t : Nat) (port : BusPort) (op : GlobalOp)
  | globalOpRx (t : Nat) (port : BusPort) (op : GlobalOp)
  | globalOpExecute (t : Nat) (src opId : Nat)
  | globalIssueTimeout (t tag : Nat)
  | barrierReportRx (t : Nat) (port : BusPort) (src barrier : Nat) (partial_ : Bool)
  | barrierTimeout (t barrier : Nat)
  | enrollRecordRx (t : Nat) (port : BusPort) (r : EnrollRec)
  | enrollTimeout (t : Nat) (port : BusPort) (node : Nat)
  | gateEntryBoundary (t : Nat) (port : BusPort)
  | checkFeedPacket (t : Nat) (f : FeedFacts)
  -- fault collector and pins
  | faultMessage (t : Nat) (msgs : List FaultMsg)
  | faultVerdictTimeout (t source : Nat)
  | logIntakeDrain (t : Nat)
  | xfPairChange (t pair : Nat) (tRail cRail : Bool)
  | xfBrokenExpiry (t pair : Nat)
  | fltReadbackMismatch (t : Nat)
  | sysrefReturn (t : Nat)
  | mainDomainResetRelease (t : Nat) (b : BootFacts)
  | hbmTrainingDone (t : Nat) (ok : Bool)
  | holdOffLevelReset (t : Nat) (port : BusPort)
  | lineIdleAfterHold (t : Nat) (port : BusPort)
  | memberHeartbeatAgeOut (t : Nat) (port : BusPort) (node : Nat)
  | tjThresholdCrossing (t sensor : Nat) (temp : Int)
  | fltReadbackRestored (t : Nat)
  | hostLinkRetrain (t gen lanes : Nat)
deriving DecidableEq, Repr

end Sys2Proof
end

