-- ==== Sys2Proof/Config.lean ====
section
/-! DEFINITION. What one implementation fixes and what the spec leaves free. An `opaque` constant is
a free value: nothing in Lean can evaluate it, and a theorem holds whatever it is. -/

namespace Sys2Proof.Config

/-- Part number of FN_ID.PART (16 Table 16-3). -/
def part : Nat := 0x6520

/-- SILICON_STEP of stepping A1 (20 "Identification and ordering"). -/
def siliconStep : Nat := 0x01

/-- On-die cells (03 R57). -/
def onDieCells : Nat := 131072

/-- Bytes of the HBM stack and of its engine reserve (01 R19, Table 1-3: 1 GiB, and 11 to 15 GiB beside 0 to 4 GiB of
spill cells). -/
def hbmBytes : Nat := 16 * 2 ^ 30
def engineReserve : Nat := 2 ^ 30

/-- Functions: the PF and 63 VFs (16 Table 16-1). -/
def functions : Nat := 64

/-- Free: which free cell the queue manager takes for its n-th allocation (03 R59 names only the pool
it comes from). DESIGN CHOICE: log 6. -/
opaque cellIndex : Nat → Nat

/-- Free: the slew rate in ppm with which a residual is removed; uses clip it at 500 (02 R34). Log 7. -/
opaque slewPpm : Nat

/-- Free: the n-th output of the trust block's random generator (15, "All random values"). Log 8. -/
opaque random : Nat → Nat

/-- Free: the device certificate and the AK certificate of this part (15 Table 15-5). Log 8. -/
opaque deviceCert : Nat
opaque akCert : Nat → Nat

/-- Free: signatures, sealed blobs and derived keys as numbers, by what they cover. Log 8. -/
opaque sealedVal : List Nat → Nat

/-- Free: the first 8 bytes of the AES-256-GCM tag of an empty plaintext, by key, nonce and additional data (10 R238). Log 8. -/
opaque gmac : Option Nat → List (BitVec 8) → List (BitVec 8) → Nat

/-- Free: the firmware's FW_VERSION for a measurement (15 Table 15-9). Log 8. -/
opaque fwVersion : Nat → Nat

/-- Free: TX_PATH and RX_PATH test values in the fuses, by port (02 R465); uses keep 16 bits. Log 9. -/
opaque testTxPath : BusPort → Nat
opaque testRxPath : BusPort → Nat

/-- Free: a tap of the scaling filters, luma 8 and chroma 4, in 1/64, by source and output size and output sample (05 R133
names no taps). Log 82. -/
opaque scaleTap : Bool → Nat → Nat → Nat → Nat → Int

/-- Free: the target of a picture whose analysed pictures all cost 0, by T and their number (06 R151 divides by the sum of
the costs). Log 90. -/
opaque laEven : Int → Nat → Int

/-- Free: the number that a STATUS field holds for a status, by the status's place in the model's own list (16 Table 16-10:
no table gives the statuses numbers). Log 23. -/
opaque statusNum : Nat → Nat

/-- Free: what a read of the open debug window returns, by FRC and offset (15 Table 15-3 names no contents). Log 11. -/
opaque debugRead : Nat → Nat → Nat

/-- Free: bytes of a diagnostic trace (17 Table 17-16 names no contents). Log 11. -/
opaque traceBytes : Nat → Nat → Nat

/-- Free: the power estimate an estimator gives before the first tick (04 R106). Log 12. -/
opaque freeValue : Nat → Nat

/-- Free: the bytes of an exchange record (02 "Servo": no table lays it out), by its four timestamps. Log 24. -/
opaque exchangeRecord : List Int → List Byte

/-- Free: whether a dominant period between 2 and 4 microseconds wakes (09 R225: it may). Log 25. -/
opaque mayWake : Nat → Bool

end Sys2Proof.Config
end

