-- ==== Sys2Proof/Machine/State.lean ====
section
/-! DEFINITION. The state of the HXR-6520 as plain data, holding everything the spec gives the block,
and the queue of commands that wait. Field defaults are the reset values; `State.reset` is the machine
at keel cold start with RESET_N and PERST_N asserted (19 R433, R436, 20 Table 20-8 t0). -/

namespace Sys2Proof.Machine

/-- A table from numbers to records, keys strictly rising; an absent key is an object not in use, or
one at its default. -/
abbrev Tbl (α : Type) := List (Nat × α)

/-- The states the engine runs in (00, 16 Table 16-4). -/
inductive EngState | startHut | snowplough | piste | halted
deriving DecidableEq, Repr

/-- Statuses of responses (17 R396-R398). -/
inductive Status
  | ok | okLate | badArg | badOp | noPerm | state | busy | noRes | conflict | auth | integrity
  | timeout | cancelled | noCredit | tooLong
deriving DecidableEq, Repr

/-- The statuses, so that each has a place. -/
def statuses : List Status :=
  [.ok, .okLate, .badArg, .badOp, .noPerm, .state, .busy, .noRes, .conflict, .auth, .integrity, .timeout, .cancelled,
   .noCredit, .tooLong]

/-- What a STATUS field holds for a status (16 Table 16-10). The spec gives no numbers: a free value, log 23. -/
def statusCode (st : Status) : Nat := Config.statusNum (statuses.idxOf st) % 65536

/-- Servo states (02 Table 2-4). -/
inductive ServoState | free | acquire | locked | holdover
deriving DecidableEq, Repr

/-- Confinement states (11 Table 11-3, R288). -/
inductive Confine | errorActive | errorPassive | busOff | stuckOff
deriving DecidableEq, Repr

/-- What receives at a bus port: nothing, the wake detector alone, arbitration and squelch, or everything (09 Table 9-8). -/
inductive Receivers | off | wake | lines | all
deriving DecidableEq, Repr

/-- The host link as the host sees it (19 Table 19-7). -/
inductive HostSide | absent | training | present
deriving DecidableEq, Repr

/-- A fault record (18 Table 18-6). `reaction` 255 while a verdict is pending. -/
structure FaultRec where
  source    : Nat
  kind      : Nat
  held      : Bool
  severity  : Nat
  sameCycle : Bool
  transient : Bool
  live      : Bool
  verdictDue : Bool
  acked     : Bool
  reaction  : Nat
  state     : EngState
  address   : Nat
  frc       : Nat
  logIndex  : Nat
  count     : Nat
deriving DecidableEq, Repr

/-! ### Keel domain (19, 02, 15) -/

/-- The parameter set of one time domain (02 Table 2-2), with a change of at most 1 µs that is being slewed into its time
since `slewAt` (Table 2-5). -/
structure DomSet where
  offset  : Ticks := 0
  frcRef  : Nat := 0
  rateAdj : Int := 0
  epoch   : Nat := 0
  valid   : Bool := false
  st      : ServoState := .free
  slew    : Ticks := 0
  slewAt  : Nat := 0
deriving DecidableEq, Repr

/-- A latched change of keel feed (19 R435): its FRC, the feed, the CAUSE of Table 19-2a, and whether it kept
a keel that ran on hold-up. -/
structure KeelChange where
  frc    : Nat
  feed   : Nat
  cause  : Nat
  kept   : Bool
deriving DecidableEq, Repr

/-- One general key slot of the vault (15 R361, R365). -/
structure KeySlot where
  owner : Nat
  kind  : Nat
  key   : Nat
deriving DecidableEq, Repr

/-- A session key of the vault with its owner and its 64-bit nonce counter (15 R371). -/
structure Session where
  owner   : Nat
  key     : Nat
  counter : Nat
deriving DecidableEq, Repr

/-- A node's transmit key for an epoch (15 R368). -/
structure NodeKey where
  port  : BusPort
  src   : Nat
  epoch : Nat
  key   : Nat
deriving DecidableEq, Repr

/-- The volatile key vault (15 R361). -/
structure Vault where
  pk       : Option Nat := none
  slots    : Tbl KeySlot := []
  content  : Tbl Nat := []
  sessions : Tbl Session := []
  nodeKeys : List NodeKey := []
deriving DecidableEq, Repr

/-- The keel domain (19, first paragraph). -/
structure Keel where
  powered    : Bool := true
  aGood      : Bool := true
  bGood      : Bool := true
  onB        : Bool := false
  aGoodSince : Option Nat := none
  holdSince  : Option Nat := none
  sysref     : Bool := true
  sysrefMissed : Bool := false
  stoppedIntervals : Nat := 0
  frc        : Nat := 0
  ta         : DomSet := {}
  tb         : DomSet := {}
  select     : Nat := 2
  followed   : Dom := .ta
  residual   : Ticks := 0
  slewStart  : Nat := 0
  secure     : Ticks := 0
  secureValid : Bool := false
  shadowFw   : Nat := 0
  shadowCfg  : Nat := 0
  changes    : List KeelChange := []
  overflow   : Bool := false
  keelRec    : Option FaultRec := none
  faultOkTh  : Nat := 4
  fltTh      : Nat := 2
  xfEnable   : Nat := 0
  termA      : Bool := false
  termB      : Bool := false
  strapsTaken : Bool := false
  wakeA      : Bool := false
  wakeB      : Bool := false
  busWake    : Bool := false
  gopSeqA    : Nat := 0
  gopSeqB    : Nat := 0
  vault      : Vault := {}
  vaultMeas  : Option Nat := none
deriving DecidableEq, Repr

/-! ### Time and trigger unit (02) -/

/-- An exchange in progress at a follower (02 R42). -/
structure Exch where
  leader : Nat
  epoch  : Nat
  tseq   : Nat
  t1     : Option Ticks
  t2     : Ticks
  t3     : Option Ticks
  sentAt : Nat
deriving DecidableEq, Repr

/-- A two-step SYNC whose FOLLOW_UP is due (02 R41): its sender, EPOCH, TSEQ, ingress time and STEP. -/
structure TwoStep where
  leader : Nat
  epoch  : Nat
  tseq   : Nat
  t2     : Ticks
  step   : Ticks
deriving DecidableEq, Repr

/-- A servo of one domain: its fields of Table 2-3 and its working state. -/
structure Servo where
  f        : Tbl RVal := []
  integ    : Int := 0
  freqEst  : Int := 0
  lockRun  : Nat := 0
  lastSync : Nat := 0
  sinceReq : Nat := 0
  exch     : Option Exch := none
  twoStep  : Option TwoStep := none
  tseq     : Nat := 0
  lastStep : Ticks := 0
  drops    : Nat := 0
deriving DecidableEq, Repr

/-- One recorded edge of a pin fall line (02 R43-R45). `len` of a frame edge is the number of lines of the complete frame
that it ended, 0 where that frame was not complete. -/
structure Edge where
  frame : Nat
  line  : Nat
  time  : Ticks
  synth : Bool
  len   : Nat := 0
deriving DecidableEq, Repr

/-- A fall line: its fields of Table 2-9 by FIELD_ID, a pending change with the frame in which it was asked for (R467;
none: before the first frame of a pin line), and the working state of PIN and RELAY sources. `anchorNext` is an anchor
whose frame has not begun yet (R47). -/
structure FallLine where
  f        : Tbl RVal := []
  pending  : List Rec := []
  pendFrame : Option Int := none
  anchorNext : Option (Nat × List Rec) := none
  fly      : Bool := false
  started  : Bool := false
  frame    : Nat := 0
  line     : Nat := 0
  seen     : Nat := 0
  lines    : List Edge := []
  frames   : List Edge := []
  lastAnchor : Nat := 0
  sentFrame : Option Nat := none
  lastEdge : Option Ticks := none
deriving DecidableEq, Repr

/-- A comparator (02 Table 2-10): owner, or the port whose gate list holds it. -/
structure Cmp where
  owner   : Option Nat := none
  gate    : Option BusPort := none
  armed   : Bool := false
  base    : Nat := 0
  periodic : Bool := false
  target  : Ticks := 0
  targetP : Pos := ⟨0, 0, 0⟩
  period  : Ticks := 0
  periodP : Pos := ⟨0, 0, 0⟩
  action  : Nat := 0
  arg     : Nat := 0
  skip    : Bool := false
  firings : Nat := 0
  lateRec : Option (Bool × Nat) := none
  missed  : Nat := 0
deriving DecidableEq, Repr

/-- A TRIG pin (02 Table 2-12), its time-trigger role owner, the pulse in progress, and the actions it
ignored (R54). -/
structure Trig where
  owner    : Option Nat := none
  width    : Nat := 4
  low      : Bool := false
  highZ    : Bool := false
  pulseEnd : Option Nat := none
  ignored  : Nat := 0
deriving DecidableEq, Repr

/-- A capture FIFO entry (02 Table 2-13). -/
structure CapEntry where
  time   : Ticks
  epoch  : Nat
  seq    : Nat
  source : Nat
  flags  : Nat
deriving DecidableEq, Repr

/-- A capture FIFO: CAP0-CAP3 are 0-3, IC0-IC3 are 4-7 (02 R55, R56). `lastRaw` is the raw timestamp of the input's last
edge that opened an entry, and `lastSeq` the SEQ of that entry, none where it was dropped. -/
structure CapFifo where
  owner    : Option Nat := none
  edges    : Nat := 0
  sources  : List Nat := []
  entries  : List CapEntry := []
  overflow : Nat := 0
  gap      : Bool := false
  seq      : Nat := 0
  lastRaw  : Option Ticks := none
  lastSeq  : Option Nat := none
deriving DecidableEq, Repr

/-- Timestamp terms of a port (02 Table 2-6); none is the stored test value. -/
structure PortTerms where
  tx   : Option Nat := none
  rx   : Option Nat := none
  asym : Int := 0
deriving DecidableEq, Repr

/-- A deferred DMA_LAUNCH or EVENT action (19 R438). -/
structure Deferred where
  cmp    : Nat
  fn     : Nat
  action : Nat
  arg    : Nat
  target : Ticks
  base   : Nat
  skip   : Bool
deriving DecidableEq, Repr

/-- A set of statistics latched by SNAPSHOT (02 Table 2-11, 12 Table 12-8). -/
structure Snapshot where
  set    : Nat
  tag    : Nat
  frc    : Nat
  values : List Int
deriving DecidableEq, Repr

/-- The time and trigger unit. -/
structure TimeUnit where
  servoA   : Servo := {}
  servoB   : Servo := {}
  termsA   : PortTerms := {}
  termsB   : PortTerms := {}
  fls      : Tbl FallLine := []
  cmps     : Tbl Cmp := []
  trigs    : Tbl Trig := []
  caps     : Tbl CapFifo := []
  deferred : List Deferred := []
  snaps    : List Snapshot := []
  dmaLaunched : List Nat := []
  timeDrops : Nat := 0
deriving DecidableEq, Repr

/-! ### Queue manager (03) -/

/-- Bus facts of a received packet (10 R253). -/
structure BusInfo where
  src  : Nat
  flow : Nat
  cls  : Nat
  seq  : Nat
  stamp : Ticks
  port : BusPort
  dkind : Nat
  dst  : Nat
  urg  : Nat
  recvFrc : Nat
  auth : Bool
  frag : Nat := 3
  kph  : Bool := false
  fdf  : Bool := false
deriving DecidableEq, Repr

/-- A slice record (05 Table 5-8); `flags` and `status` as there. -/
structure SliceRec where
  jobSeq  : Nat
  picture : Nat
  slice   : Nat
  flags   : Nat
  bytes   : Nat
  userTag : Nat
  qpAvg   : Int
  status  : Nat
  retries : Nat
  runNs   : Nat
deriving DecidableEq, Repr

/-- A band record (07 Table 7-4). -/
structure BandRec where
  jobSeq  : Nat
  picture : Nat
  slice   : Nat
  flags   : Nat
  first   : Nat
  count   : Nat
  damage  : Nat
  dirty   : Nat
  userTag : Nat
  runNs   : Nat
deriving DecidableEq, Repr

/-- One cell: its index, its bytes, and whether its data has an uncorrectable error (03 R57, R80). -/
structure Cell where
  index : Nat
  data  : List Byte
  bad   : Bool
  onDie : Bool
  acked : Bool
  job   : Nat := 0
deriving DecidableEq, Repr

/-- A packet of a queue (03 R62): its cells in position order with a released count and the count of those read and not
yet released, its visibility, an abort marker behind its last cell, or, with reason 6, in place of its first cell in
error (R72, R80), and what its producer attached. -/
structure Pkt where
  seq      : Nat
  cells    : List Cell
  released : Nat := 0
  readN    : Nat := 0
  bytes    : Nat := 0
  closed   : Bool := false
  visible  : Bool := false
  visFrc   : Nat := 0
  abort    : Option Nat := none
  acked    : Bool := false
  userTag  : Nat := 0
  deadline : Option Pos := none
  launch   : Option Ticks := none
  bus      : Option BusInfo := none
  slice    : Option SliceRec := none
  band     : Option BandRec := none
  jobSeq   : Nat := 0
deriving DecidableEq, Repr

/-- A staged chain of a job run (03 R63), with the slice record it takes at its commit; a linking run's
cells are in its packet, and core 16 stands for the engine's own job-result record (04 R104). `discard` 1 says that a
truncation is discarding the run's further cells (R71); `mode` is what the packet sampled at its first cell (R61), `data` the
bytes that the run has written of its present coding. -/
structure Chain where
  job   : Nat
  core  : Nat
  cells : List Cell
  done  : Bool
  discard : Nat := 0
  mode  : Bool × Bool × Nat × Nat := (false, false, 0, 256)
  data  : List Byte := []
  slice : Option SliceRec := none
  deadline : Option Pos := none
deriving DecidableEq, Repr

/-- The last value that a read of a queue returned: cell index, link information (R57) and read status
(03 R67). `st`: 0 data, 1 PENDING, 2 abort marker, whose reason is `abort`. The defaults are what a read that finds no
packet returns before any other read (DESIGN CHOICE, log 2). -/
structure ReadVal where
  index : Nat := 0
  next  : Option Nat := none
  first : Bool := false
  last  : Bool := false
  bytes : Nat := 0
  seq   : Nat := 0
  st    : Nat := 0
  abort : Nat := 0
  stale : Bool := false
deriving DecidableEq, Repr

/-- A data-plane ring bound to a queue (16 R470, R385). `batchN` entries accepted under NOTIFY BATCH wait for their
response, the last of them with index, sequence number and tag (R389). -/
structure DRing where
  doorbell : Nat
  log2     : Nat
  vector   : Nat
  gather   : Bool
  batch    : Bool
  addr     : Nat
  head     : Nat := 0
  tail     : Nat := 0
  phase    : Bool := true
  stopped  : Bool := false
  batchN   : Nat := 0
  batchAt  : Nat := 0
  batchSeq : Nat := 0
  batchTag : Nat := 0
deriving DecidableEq, Repr

/-- Egress latency statistics of a queue (13 R339). -/
structure Latency where
  pkts  : Nat := 0
  sum   : Nat := 0
  min   : Option Nat := none
  max   : Nat := 0
  slack : Option Int := none
  late  : Nat := 0
  limit : Nat := 0
  flag  : Bool := false
  excess : Nat := 0
  setAt  : Option Nat := none
deriving DecidableEq, Repr

/-- A queue: `flagAt` holds the FRC at which each W1C flag was last set (R12), `endDue` the reason of an end of the open
packet that waits for a rebuild (R77), and `discard` is 0, or 1 where a truncation and 2 where a DROP_REST or a lost packet is
discarding the producer's further cells (R63, R71, R73, R78). Descriptor words 0-6, engine fields, packets oldest first, staged chains, rings, counters
(03 Table 3-1, 17 QUEUE.STATS.READ). -/
structure Queue where
  w        : QWords
  mode     : Option (Bool × Bool × Nat × Nat) := none
  pkts     : List Pkt := []
  chains   : List Chain := []
  credit   : Nat := 0
  creditSpill : Nat := 0
  status   : Nat := 0
  flagAt   : Tbl Nat := []
  blocked  : Bool := false
  endDue   : Option Nat := none
  blockDepth : Nat := 0
  awaitDrop : Bool := false
  wmHighN  : Nat := 0
  wmLowN   : Nat := 0
  loss     : Nat := 0
  lossBase : Nat := 0
  seq      : Nat := 0
  discard  : Nat := 0
  stopped  : Bool := false
  lastRead : ReadVal := {}
  overrunCells : Nat := 0
  rewound  : Nat := 0
  aborted  : Nat := 0
  droppedCells : Nat := 0
  consumerDrops : Nat := 0
  orphans  : Nat := 0
  secondDiscards : Nat := 0
  cancelled : Nat := 0
  peakDepth : Nat := 0
  peakAge  : Nat := 0
  sub      : Option DRing := none
  del      : Option DRing := none
  lat      : Latency := {}
  histSlot : Option Nat := none
deriving DecidableEq, Repr

/-- A histogram slot (03 R85). -/
structure Hist where
  queue  : Nat
  age    : Bool
  edges  : List Nat
  bins   : List Nat
deriving DecidableEq, Repr

/-- A pointer bank's copy of a queue: HEAD, TAIL and every cell's next index (03 R75). -/
structure Bank where
  head : Nat
  tail : Nat
  next : List (Nat × Nat)
deriving DecidableEq, Repr

/-- A journal entry (03 R76): 8 bytes. Queue numbers from 32,768 stand for message buffers (10 R260, log 20). -/
structure JEntry where
  cell  : Nat
  queue : Nat
  seq   : Nat
  pos   : Nat
  released : Bool := false
deriving DecidableEq, Repr

/-- The queue manager. `spillCells` are the pool's cells beyond the on-die ones, `mbIdx` the cells of message buffers by
buffer, `bankA` and `bankB` the pointer banks (R75), `journal` and `mirror` the acceptance journal and its copy in HBM,
and `readPos` the consumers' read positions that the journal keeps (R76). -/
structure Qm where
  queues     : Tbl Queue := []
  onDieFree  : Nat := 131072
  spillFree  : Nat := 0
  spillCells : Nat := 0
  serial     : Nat := 0
  quotas     : Tbl Nat := []
  mbCells    : Tbl Nat := []
  mbIdx      : Tbl Nat := []
  bankA      : Tbl Bank := []
  bankB      : Tbl Bank := []
  journal    : List JEntry := []
  mirror     : List JEntry := []
  readPos    : Tbl Nat := []
  waiters    : List Nat := []
  flBlocked  : Bool := false
  hists      : Tbl Hist := []
  sampleAt   : Nat := 0
deriving DecidableEq, Repr

/-! ### Streams, jobs and cores (04-07) -/

/-- States of a job (04 Table 4-5). -/
inductive JobState | held | waiting | eligible | running | running2
deriving DecidableEq, Repr

/-- Where an encode job's source lines and hints lie in host memory (05 Table 5-5), or a decode job's bitstream with the
CRC-32C that it is checked against (07 Table 7-4a). -/
structure SrcRef where
  addr   : Nat := 0
  pitch  : Nat := 0
  chroma : Nat := 0
  hint   : Nat := 0
  crc    : Option Nat := none
deriving DecidableEq, Repr

/-- A job (04 R90, 06 R137). `f` holds the fields of class "next job" as it took them (01 R17), none of an engine-owned
stream; `born` is the FRC of its acceptance. `cap` is the further cap of LINE_BUDGET (R148), and `byBudget` says that a
HOST entry of kind BUDGET decided it (R150). -/
structure Job where
  seq      : Nat
  st       : JobState
  picture  : Nat
  first    : Nat
  count    : Nat
  slice    : Nat
  eop      : Bool
  noReissue : Bool := false
  userTag  : Nat := 0
  sub      : Nat := 0
  picFlags : Nat := 0
  refs     : List Nat := []
  deadline : Option Pos := none
  key      : Nat := 0
  requeued : Bool := false
  faults   : List Nat := []
  banned   : Option Nat := none
  qp       : Option Int := none
  budget   : Nat := 0
  byBudget : Bool := false
  cap      : Option Nat := none
  lateDispatch : Bool := false
  bsBytes  : Nat := 0
  host     : Bool := true
  laWait   : Bool := false
  ended    : Bool := false
  noOutput : Bool := false
  asset    : Option (Nat × Nat) := none
  damage   : Nat := 0
  whole    : Bool := false
  f        : Option (Tbl RVal) := none
  born     : Nat := 0
  src      : SrcRef := {}
deriving DecidableEq, Repr

/-- The picture being submitted to a stream (05 R118, 07 R159): its last slice and the line after that (07 R169). -/
structure SubState where
  any      : Bool := false
  picture  : Nat := 0
  slice    : Nat := 0
  next     : Nat := 0
  eop      : Bool := true
  srcAddr  : Nat := 0
  pitch    : Nat := 0
  chroma   : Nat := 0
  hint     : Nat := 0
  flags    : Nat := 0
deriving DecidableEq, Repr

/-- The model of one slice index (06 R140). -/
structure RcModel where
  h  : Nat
  xp : Nat
  xi : Nat
deriving DecidableEq, Repr

/-- Rate-control state of a stream (06 R140-R147): the virtual buffer V, the account A, the models by slice index, and the
QPs decided last. -/
structure RcState where
  v       : Nat := 0
  a       : Int := 0
  models  : Tbl RcModel := []
  refKey  : Tbl Int := []
  refInter : Tbl Int := []
  lastQp  : Option Int := none
deriving DecidableEq, Repr

/-- A damage that waits for a verdict, or an area to conceal, with the deadline of its band on fall line `fl` (07
R168-R173). -/
structure Area where
  id      : Nat
  picture : Nat
  slice   : Nat
  first   : Nat
  count   : Nat
  job     : Nat
  kind    : Nat
  mode    : Nat
  display : Bool
  deadline : Option Pos
  fl      : Nat
  waiting : Bool
  userTag : Nat
deriving DecidableEq, Repr

/-- A pending recovery request of a decode stream (07 R176). -/
structure RecReq where
  seq     : Nat
  picture : Nat
  first   : Nat
  count   : Nat
  reason  : Nat
  sentAt  : Nat
deriving DecidableEq, Repr

/-- Decode state of a stream (07). -/
structure DecState where
  running  : Bool := false
  expPic   : Nat := 0
  expSlice : Nat := 0
  expFirst : Nat := 0
  expCount : Nat := 0
  lastSeq  : Option Nat := none
  height   : Nat := 0
  bsUsed   : Nat := 0
  areas    : List Area := []
  nextDmg  : Nat := 1
  dirty    : Tbl (List Nat) := []
  wasDirty : Bool := false
  reqs     : List RecReq := []
  reqSeq   : Nat := 0
  unsupported : Bool := false
  gaveUp   : List (Nat × Nat) := []
  concealed : List (Nat × Nat) := []
  intake   : Nat := 0
  recs     : List BandRec := []
  lastBand : Option (Nat × Nat) := none
deriving DecidableEq, Repr

/-- The buffer model that a bitstream signals (06 R153): bit_rate, cpb_size, cbr_flag, and the initial removal delay as
bits over bit/s. -/
structure Hrd where
  rate  : Nat
  size  : Nat
  cbr   : Bool
  delay : Nat × Nat
deriving DecidableEq, Repr

/-- How a picture is coded (05 R112, R125): key or not, whether a refresh sweep covers it, its place in the sweep and the
sweep's length, its reference lists (the second of HEVC's low-delay B slices), the payload types of its SEI messages, the
buffer model that it signals, and its target T and committed bits (06 R145). -/
structure PicInfo where
  key   : Bool
  sweep : Bool := false
  pos   : Nat
  len   : Nat
  recovered : Bool
  l0    : List Nat := []
  l1    : List Nat := []
  sei   : List Nat := []
  hrd   : Option Hrd := none
  t     : Int := 0
  c     : Nat := 0
deriving DecidableEq, Repr

/-- Encode picture state (05 R125, R126, R134): `order` holds the pictures accepted, newest first, `recoverAt` the recovery
requests that wait for the next picture, each with whether it asks for a key picture, `asked` the pictures of the latest
requests, and `toWrite` the transcode jobs that wait for credit, by picture and slice. -/
structure EncState where
  sweepLen : Nat := 60
  pics     : Tbl PicInfo := []
  sweeping : Bool := false
  sweepPos : Nat := 0
  sweepStart : Option Nat := none
  lastKey  : Option Nat := none
  sinceKey : Nat := 0
  recoverAt : List (Nat × Bool) := []
  asked    : List Nat := []
  dispatchedPic : Option Nat := none
  restart  : Bool := false
  laDone   : Tbl Nat := []
  order    : List Nat := []
  toWrite  : List (Nat × Nat) := []
deriving DecidableEq, Repr

/-- A decoded picture in HBM (07 R167-R174): its samples, their depth and chroma_format_idc, the lines that were decoded (not
concealed) as first line and number, its vectors, whether it is shown, and whether its last band has committed or was
concealed. -/
structure DecPic where
  planes  : Planes := {}
  depth   : Nat := 10
  chroma  : Nat := 1
  decoded : List (Nat × Nat) := []
  vecs    : List CodedVec := []
  shown   : Bool := false
  ended   : Bool := false
deriving DecidableEq, Repr

/-- Kinds of stream (17 Table 17-2; texture streams are the engine's own). -/
inductive StreamKind | encode | decode | texture
deriving DecidableEq, Repr

/-- A stream context (04 R89). `picF` holds the fields of class "next picture" as each picture took them at its first
dispatch (01 R17), `frames` the decoded pictures in HBM (05 R135). -/
structure Stream where
  owner   : Nat
  kind    : StreamKind
  f       : Tbl RVal := []
  staged  : Tbl RVal := []
  ctr     : Tbl Nat := []
  rate    : Nat := 0
  stopped : Bool := false
  cancelled : Nat := 0
  jobs    : List Job := []
  jobSeq  : Nat := 0
  linkNext : Nat := 0
  sub     : SubState := {}
  rc      : RcState := {}
  enc     : EncState := {}
  dec     : DecState := {}
  recon   : Tbl Nat := []
  donePics : Tbl Nat := []
  picF    : Tbl (Tbl RVal) := []
  frames  : Tbl DecPic := []
deriving DecidableEq, Repr

/-- A block of equally long reads of host memory (05 R115). -/
structure HostRead where
  addr  : Nat
  pitch : Nat
  lines : Nat
  bytes : Nat
deriving DecidableEq, Repr

/-- How a block of an encode run is to be coded (05 R120): the first rule that applies, with its first search candidate
in quarter samples and the reference that it names. -/
inductive Coding
  | intra
  | skip
  | vector (mvx mvy : Int) (ref : Nat) (sure : Bool)
  | camera (mvx mvy : Int) (ref : Nat)
  | search
deriving DecidableEq, Repr

/-- What an encode run takes in when it starts (05 R114, R115, R117, R120, R121, R123): its reads of source lines and the
samples that they give in 4:2:0, whether a read failed, the coding of its blocks by row and column, and the first column
and width of each tile in superblocks. A decode run has the damage that its bitstream's read or check gave (07 R159), whether
the read's outcome is the core's to report, and the AV1 operating point that it decodes (R157). -/
structure RunInput where
  reads   : List HostRead := []
  samples : Planes := {}
  srcError : Bool := false
  hintError : Bool := false
  blocks  : List Coding := []
  tiles   : List (Nat × Nat) := []
  damage  : Nat := 0
  unread  : Bool := false
  op      : Nat := 0
deriving DecidableEq, Repr

/-- A run on a core (04 R87, R97). `estDone` pixels are reckoned done at `estAt`, `cache` holds output that OUTPUT_HOLD
keeps in the core until its share is processed (`freed`, R100), `qp` is the QP that the coding starts from (06 R137). -/
structure Run where
  stream  : Nat
  job     : Nat
  start   : Nat
  busyFrom : Nat
  second  : Bool
  firstDur : Nat
  pixels  : Nat
  done    : Nat := 0
  reported : Bool := false
  lastRep : Nat
  estDone : Nat := 0
  estAt   : Nat
  rate    : Nat
  fin     : Nat
  load    : Bool
  linking : Bool := false
  retries : Nat := 0
  qp      : Option Int := none
  retryFlag : Bool := false
  fallback : Bool := false
  freed   : Bool := false
  cache   : List CellIn := []
  input   : RunInput := {}
deriving DecidableEq, Repr

/-- Core states (04 Table 4-8). -/
inductive CoreSt | online | parkedThermal | parkedCap | testing | offline
deriving DecidableEq, Repr

/-- A core and its statistics (04 Table 4-8, R105). `step` 0, 1, 2 is 1.2, 0.9, 0.6 GHz. `served` says that the core has
entered service; the STATE that it reads before that is OFFLINE (R109 names none: DESIGN CHOICE, log 81). `hot` says that
heat parks it until it reads 95 °C, and `okSince` since when its rate has been restored (R107). -/
structure Core where
  st       : CoreSt := .offline
  served   : Bool := false
  hot      : Bool := false
  okSince  : Option Nat := none
  step     : Nat := 0
  lanes    : Nat := 63
  ctx      : List Nat := []
  run      : Option Run := none
  coolSince : Option Nat := none
  temp     : Option Int := none
  peak     : Option Int := none
  slow     : Bool := false
  runsStarted : Nat := 0
  runsCommitted : Nat := 0
  secondStarted : Nat := 0
  secondWon : Nat := 0
  runsLost : Nat := 0
  runsFaulted : Nat := 0
  ctxLoads : Nat := 0
  busyNs   : Nat := 0
  pixels   : Nat := 0
  res0     : Nat := 0
  res1     : Nat := 0
  res2     : Nat := 0
  resSince : Nat := 0
deriving DecidableEq, Repr

/-- A DIAG.SELFTEST in progress (17 Table 17-16): the lanes that fail, the core whose turn it is, and the
results so far. -/
structure SelfTest where
  fails   : List (Nat × Nat)
  next    : Nat
  results : List Nat
deriving DecidableEq, Repr

/-- The array: streams, cores and the power-cap loop (04 R106, R108). `concealing` is the area that the concealment unit
works on, by stream and id, and the FRC at which it began (07 R170). -/
structure Array_ where
  streams  : Tbl Stream := []
  cores    : Tbl Core := []
  horizon  : Nat := 2000
  assetMax : Nat := 8
  recoverQ : Option Nat := none
  recoverDrops : Nat := 0
  capMw    : Nat := 58000
  estMw    : Option Nat := none
  limit    : Nat := 16
  arrayStep : Nat := 0
  actions  : List Nat := []
  under    : Nat := 0
  selftest : Option SelfTest := none
  concealing : Option (Nat × Nat × Nat) := none
deriving DecidableEq, Repr

/-! ### Storage and assets (08) -/

/-- An NVMe read command outstanding on a port. -/
structure NvmeCmd where
  id      : Nat
  req     : Nat
  chunk   : Nat
  issued  : Nat
  timeouts : Nat
  mediaFails : Nat
  fua     : Bool
deriving DecidableEq, Repr

/-- A storage port (08 R179-R183). -/
structure StorePort where
  present : Bool := false
  enumd   : Bool := false
  failed  : Bool := false
  gone    : Bool := false
  queues  : Nat := 0
  mdts    : Nat := 0
  cmds    : List NvmeCmd := []
  ctr     : Tbl Nat := []
deriving DecidableEq, Repr

/-- An open volume (08 R184). -/
structure Volume where
  owner : Nat
  port  : StPort
  slot  : Nat
  nsid  : Nat
  scratchFirst : Nat
  scratchCount : Nat
  lba   : Nat
deriving DecidableEq, Repr

/-- An open container (08 R186). -/
structure Container where
  owner  : Nat
  volume : Nat
  offset : Nat
  policy : Nat
  id     : Nat
  expires : Bool
  expiry : Nat
  table  : List ChunkEntry
deriving DecidableEq, Repr

/-- Where a chunk of a request stands. -/
inductive ChunkSt | idle | reading | staged | verified | written | failed
deriving DecidableEq, Repr

/-- A chunk in progress. -/
structure ChunkRun where
  chunk : Nat
  st    : ChunkSt
  reads : Nat := 0
  unit  : Option Nat := none
  notUnit : Option Nat := none
  desc  : List Byte := []
  ctr   : Option Nat := none
deriving DecidableEq, Repr

/-- An accepted asset request (08 R188-R190), with the container and port it was accepted for, which a removal
may close before its last chunks are written (R183). -/
structure AssetReq where
  h        : Hdr
  a        : ReadArgs
  hac      : Container
  port     : StPort
  order    : Nat
  chunks   : List ChunkRun := []
  doneSet  : List Nat := []
  bytesOut : Nat := 0
  rereads  : Nat := 0
  failed   : Option Nat := none
  detail   : Nat := 0
  status   : Status := .ok
  stopped  : Bool := false
deriving DecidableEq, Repr

/-- A decompression unit: 0-11 Zstandard, 12-15 Deflate (08 R194). -/
structure DecUnit where
  job      : Option (Nat × Nat) := none
  faults   : Nat := 0
  disabled : Bool := false
deriving DecidableEq, Repr

/-- The asset path. -/
structure Asset where
  s0       : StorePort := {}
  s1       : StorePort := {}
  volumes  : Tbl Volume := []
  containers : Tbl Container := []
  reqs     : Tbl AssetReq := []
  nextReq  : Nat := 0
  nextCmd  : Nat := 0
  nextVol  : Nat := 0
  nextCont : Nat := 0
  units    : Tbl DecUnit := []
  staging  : Nat := 0
  stagingPeak : Nat := 0
  hbmStaging : Nat := 256
  ctr      : Tbl Nat := []
deriving DecidableEq, Repr

/-! ### Onalas ports (09-12) -/

/-- Why a flow is STALLED, as BUS_FLOW_STALLED codes it (17 Table 17-18). -/
abbrev StallReason := Nat

/-- The frame at the head of a TX flow (10 R251); `epoch` is the session epoch of its first send, which a frame sent again
keeps (R239). -/
structure HeadFrame where
  seq   : Nat
  first : Bool
  last  : Bool
  len   : Nat
  firstSent : Option Nat := none
  sends : Nat := 0
  late  : Bool := false
  usedCounted : Bool := false
  epoch : Option Nat := none
deriving DecidableEq, Repr

/-- Credit of one peer: TOTAL granted, cells used, OPEN_ID of its last FLOW_OPEN, last TOTAL sent (10
R257-R259). -/
structure PeerCredit where
  total  : Nat := 0
  used   : Nat := 0
  openId : Option Nat := none
  sent   : Nat := 0
deriving DecidableEq, Repr

/-- A flow (10 Table 10-9). -/
structure Flow where
  owner   : Nat
  f       : Tbl RVal
  seq     : Nat := 0
  openId  : Nat := 0
  opening : Bool := false
  openSent : Nat := 0
  openWait : List Nat := []
  totals  : Tbl Nat := []
  used    : Nat := 0
  epochUsed : Nat := 0
  epochWaiting : Bool := false
  head    : Option HeadFrame := none
  stalled : Option StallReason := none
  holdoff : Option Nat := none
  waitCredit : Bool := false
  released : Bool := false
  releaseDue : List Nat := []
  dupRisk : Bool := false
  possibleDup : Bool := false
  openSrc : Option Nat := none
  openFrc : Nat := 0
  credits : Tbl PeerCredit := []
  shaper  : Option Nat := none
  ctr     : Tbl Nat := []
  stopped : Bool := false
  agedResume : Bool := false
  authRun  : Nat := 0
  off     : Nat := 0
  cancelled : Nat := 0
  refreshAt : Nat := 0
  staged   : Tbl RVal := []
deriving DecidableEq, Repr

/-- A message buffer (10 R260). -/
structure MsgBuf where
  owner   : Nat
  tx      : Bool
  dkind   : Nat := 0
  dst     : Nat := 0
  cls     : Nat := 2
  flow    : Nat := 0
  urg     : Nat := 512
  auth    : Bool := false
  full    : Bool := false
  payload : List Byte := []
  bus     : Option BusInfo := none
  seq     : Nat := 0
  head    : Option HeadFrame := none
  opening : Bool := false
  opened  : Bool := false
  openId  : Nat := 0
  openSent : Nat := 0
  lastNak : Nat := 0
  epochUsed : Nat := 0
  holdoff : Option Nat := none
  shaper  : Option Nat := none
  pend    : Option Hdr := none
deriving DecidableEq, Repr

/-- An acceptance filter entry (10 Table 10-11). -/
structure Filter where
  owner : Nat
  f     : Tbl RVal
deriving DecidableEq, Repr

/-- A de-duplication entry (10 R246). -/
structure Dedup where
  src  : Nat
  flow : Nat
  last : Nat
  frc  : Nat
deriving DecidableEq, Repr

/-- A member of a segment (12 R303). -/
structure Member where
  flags   : Nat
  follows : Nat
  state   : Nat
  frc     : Nat
deriving DecidableEq, Repr

/-- Anchor state of a port (12 Table 12-4). -/
structure Anchor where
  f        : Tbl RVal := []
  acting   : Bool := false
  link     : Bool := false
  heardFrc : Option Nat := none
  silent   : Bool := false
  checkAt  : Option Nat := none
  primRun  : Nat := 0
deriving DecidableEq, Repr

/-- An enrollment exchange (15 R366). -/
structure Enroll where
  exchange : Nat
  stage    : Nat
  tries    : Nat
  since    : Nat
  subject  : Nat
deriving DecidableEq, Repr

/-- A gate list of a port (13 R332, R333). -/
structure Gates where
  cur      : Option GateList := none
  running  : Bool := false
  cmp      : Option Nat := none
  pending  : Option GateList := none
  pendStop : Bool := false
  pendCycle : Int := 0
  mask     : Nat := 255
  classes  : Tbl Nat := []
  fellBack : Bool := false
deriving DecidableEq, Repr

/-- Recovery count of a port in BUS_OFF (11 R284, R285). -/
structure Recovery where
  counting : Bool := false
  counted  : Nat := 0
  need     : Nat := 0
  byCmd    : Bool := false
  pend     : Option Hdr := none
deriving DecidableEq, Repr

/-- What a port drove as a receiver in the last commit slot (10 Table 10-6): 0 nothing, 15 ACK, else
the NAK reason. -/
abbrev Answer := Nat

/-- A frame in a port's traverse queue (12 R302): the frame, the FRC at which it was received, and the FRC of its
first attempt, and the end of a wait after BUSY or POLICED. -/
structure Trav where
  f    : Frame
  recv : Nat
  firstSent : Option Nat := none
  holdoff : Option Nat := none
deriving DecidableEq, Repr

/-- A symbol of the data phase (09 Table 9-5). -/
inductive Symbol | k28_5 | k27_7 | k29_7 | d (b : Byte)
deriving DecidableEq, Repr

/-- What a port drove for a frame: the bits at the arbitration rate, stuffed, and the data phase's preamble length and symbols
(09 R211, R213, R219). -/
structure Sent where
  arb     : List Bool := []
  trainUi : Nat := 0
  data    : List Symbol := []
deriving DecidableEq, Repr

/-- One Onalas port. `f` holds the fields of Tables 9-7, 10-12 and 12-1 and BUSOFF_MODE by FIELD_ID; `lastTx` is
the last frame that the port sent on the wire, `sent` what it drove for it, and `slot` what it drove in the last commit slot
it answered; `wireEnd` is the FRC value at which its last frame ends; `goEpoch` is an epoch of its own that waits for its grants to be ACKed (15 R369), and `recoveredAt` the cycle of
its last recovery (11 R287). -/
structure Port where
  f        : Tbl RVal := []
  enabled  : Bool := false
  closing  : Bool := false
  integrated : Bool := false
  integratedAt : Nat := 0
  tec      : Nat := 0
  rec_     : Nat := 0
  conf     : Confine := .errorActive
  k        : Nat := 0
  outSince : Nat := 0
  cutoff   : Bool := false
  lineHeld : Bool := false
  passiveWait : Bool := false
  rcv      : Recovery := {}
  insertEnd : Option Nat := none
  tx       : Tbl Flow := []
  rx       : Tbl Flow := []
  mbs      : Tbl MsgBuf := []
  filters  : Tbl Filter := []
  dedup    : List Dedup := []
  traverse : List Trav := []
  flow0    : Nat := 0
  nextOpen : Nat := 1
  ctr      : Tbl Nat := []
  hbSeq    : Nat := 0
  members  : Tbl Member := []
  anchor   : Anchor := {}
  gates    : Gates := {}
  authority : Option Nat := none
  enrolls  : Tbl Enroll := []
  revoked  : List Nat := []
  epoch    : Nat := 0
  lastAnswer : Answer := 0
  lastTx   : Option Frame := none
  sent     : Sent := {}
  slot     : List Bool := []
  wireEnd  : Nat := 0
  goEpoch  : Option Nat := none
  recoveredAt : Option Nat := none
  wakeReq  : Bool := false
  ctl      : List Frame := []
  ctlHold  : Option Nat := none
  nodeId   : Option Nat := none
  syncAt   : Tbl Nat := []
  hbAt     : Option Nat := none
  epochUsed0 : Nat := 0
  epochWait0 : Bool := false
  epochAsked : Bool := false
  inspMiss : Option (Nat × Nat × Nat) := none
deriving DecidableEq, Repr

/-- A pending global operation with the port it came from (12 R317). -/
structure PendOp where
  op   : GlobalOp
  port : BusPort
deriving DecidableEq, Repr

/-- A barrier at this engine (12 R318): the members that have not reported, the ports on which it was announced
and reported, whether the host has arrived, and whether this engine is the root that releases it. -/
structure Barrier where
  expect   : List (BusPort × Nat) := []
  heard    : List BusPort := []
  reported : List BusPort := []
  arrived  : Bool := false
  partial_ : Bool := false
  root     : Bool := false
  deadline : Nat := 0
deriving DecidableEq, Repr

/-- The Onalas controller. -/
structure Bus where
  oa        : Port := {}
  ob        : Port := {}
  trav      : Tbl RVal := []
  travActive : Bool := false
  ops       : List PendOp := []
  seenOps   : List (Nat × Nat × Nat) := []
  nextOp    : Nat := 0
  nextReq   : Nat := 0
  nextExch  : Nat := 0
  issues    : Tbl (Hdr × Nat × Nat × Nat) := []
  barriers  : Tbl Barrier := []
  recovers  : List Frame := []
  lateOps   : List (Nat × Nat) := []
deriving DecidableEq, Repr

/-! ### Egress (13), check-value units (14) -/

/-- A token bucket: count in 1/65,536 byte, the part of the gain carried, and the FRC of the last
update (13 R323). -/
structure Bucket where
  rate   : Nat
  burst  : Nat
  tokens : Int
  carry  : Nat := 0
  upd    : Nat
deriving DecidableEq, Repr

/-- A bus shaper (13 Table 13-2). -/
structure Shaper where
  owner    : Nat
  b        : Bucket
  overhead : Nat
  port     : Option BusPort := none
deriving DecidableEq, Repr

/-- A policer and its counters (13 Table 13-3, R330). -/
structure Policer where
  owner  : Nat
  b      : Bucket
  conformF : Nat := 0
  conformB : Nat := 0
  excessF : Nat := 0
  excessB : Nat := 0
deriving DecidableEq, Repr

/-- Host-link scheduling of one function (13 Table 13-1, R321). -/
structure FnSched where
  weight   : Nat := 1
  b        : Option Bucket := none
  burst    : Nat := 1048576
  defDec   : Int := 0
  defAst   : Int := 0
  bytesDec : Nat := 0
  bytesAst : Nat := 0
  unitsDec : Nat := 0
  unitsAst : Nat := 0
deriving DecidableEq, Repr

/-- A write that waits in DECODE_OUT (false) or ASSET (true), since `born`, with the bytes left and those sent (13
R319, R320); `pic` is the decode stream and picture whose lines it writes, `rows` those lines by address. -/
structure HUnit where
  asset    : Bool
  fn       : Nat
  bytes    : Nat
  key      : Option Nat
  order    : Nat
  prio     : Nat
  addr     : Nat
  born     : Nat := 0
  sent     : Nat := 0
  pic      : Option (Nat × Nat) := none
  rows     : List (Nat × List Byte) := []
  band     : Option (Nat × BandRec) := none
  chunk    : Option (Nat × Nat) := none
deriving DecidableEq, Repr

/-- The egress scheduler and the shaper and policer pools; `turnAst`, `fnDec` and `fnAst` say where the round
robins of R320 stand. -/
structure Sched where
  wDec     : Nat := 8
  wAst     : Nat := 8
  defDec   : Int := 0
  defAst   : Int := 0
  turnAst  : Bool := false
  fnDec    : Nat := 0
  fnAst    : Nat := 0
  fns      : Tbl FnSched := []
  units    : List HUnit := []
  nextUnit : Nat := 0
  window   : List (Nat × Bool × Nat × Nat) := []
  bytesDec : Nat := 0
  bytesAst : Nat := 0
  unitsDec : Nat := 0
  unitsAst : Nat := 0
  shapers  : Tbl Shaper := []
  policers : Tbl Policer := []
deriving DecidableEq, Repr

/-- A general check-value unit (14 Table 14-4, Table 14-5): `f` holds its fields by FIELD_ID, which the next
message takes, `p` and `strip` the parameters and mode of the message begun last. -/
structure CheckUnit where
  owner  : Nat
  f      : Tbl RVal
  p      : CrcParams
  strip  : Bool
  ctx    : CrcCtx
deriving DecidableEq, Repr

/-! ### Trust (15) -/

/-- An image in a flash slot as the start hut would judge it. -/
structure Image where
  ok   : Bool := false
  lc   : Nat := 0
  svn  : Nat := 0
  meas : Nat := 0
deriving DecidableEq, Repr

/-- An outstanding challenge: its value, when it was issued, and whether it serves a session (15 R355, R371). -/
structure Challenge where
  value   : Nat
  frc     : Nat
  session : Bool
deriving DecidableEq, Repr

/-- The trust block and its non-volatile stores. -/
structure Trust where
  es       : Bool := false
  rootHash : Nat := 0
  lcProv   : Nat := 0
  lcField  : Nat := 0
  lcRma    : Nat := 0
  fuseFw   : Nat := 0
  fuseCfg  : Nat := 0
  slotA    : Image := {}
  slotB    : Image := {}
  preferB  : Bool := false
  tryN     : Nat := 0
  staged   : Bool := false
  runB     : Bool := false
  meas     : Nat := 0
  svn      : Nat := 0
  fwRuns   : Bool := false
  pcbOk    : Bool := false
  pcbSvn   : Nat := 0
  pkStored : Option Nat := none
  debug    : Bool := false
  tamperArmed : Bool := false
  challenges : List Challenge := []
  drbg     : Nat := 0
  nextSession : Nat := 1
deriving DecidableEq, Repr

/-! ### Host link and mailboxes (16, 17) -/

/-- A response entry (16 Table 16-10). -/
structure Rsp where
  tag    : Nat
  status : Status
  kind   : Nat := 0
  replay : Bool := false
  more   : Bool := false
  noInt  : Bool := false
  op     : Nat := 0
  addr   : Nat := 0
  result : List Int := []
deriving DecidableEq, Repr

/-- An event entry (16 R384, 17 Table 17-18). -/
structure Evt where
  code : Nat
  frc  : Nat
  data : List Int
deriving DecidableEq, Repr

/-- A request fetched and not yet answered; `bad` says that its length or a reserved bit of it is wrong (R382). -/
structure Fetched where
  opcode  : Nat
  tag     : Nat
  fence   : Bool
  started : Bool
  bad     : Bool := false
deriving DecidableEq, Repr

/-- One mailbox: its registers (16 Tables 16-6 to 16-8) and its three rings. `rsp` and `evt` hold the
entries that host software has not read yet, with the index and phase each was written with. -/
structure Mbx where
  reqBase : DWord := 0
  rspBase : DWord := 0
  evtBase : DWord := 0
  lowReq  : Word := 0
  lowRsp  : Word := 0
  lowEvt  : Word := 0
  size    : Word := 0x888
  rspHead : Nat := 0
  evtHead : Nat := 0
  holdoff : Nat := 0
  ready   : Bool := false
  reqTail : Nat := 0
  reqHead : Nat := 0
  reqPhase : Bool := true
  waiting : List ReqEntry := []
  stale   : Bool := false
  staleAt : Nat := 0
  stopped : Option Nat := none
  rspTail : Nat := 0
  rspPhase : Bool := true
  evtTail : Nat := 0
  evtPhase : Bool := true
  rsp     : List (Nat × Bool × Rsp) := []
  evt     : List (Nat × Bool × Evt) := []
  fetched : List Fetched := []
  held    : List Rsp := []
  evtDropped : Nat := 0
  evtLost : Bool := false
deriving DecidableEq, Repr

/-- An MSI-X vector of a function (16 R391): the message address, and the message data with the vector control
word above it, whose bit 0 masks it. -/
structure Vec where
  holdEnd : Option Nat := none
  due     : Bool := false
  pendBit : Bool := false
  sent    : Nat := 0
  row     : DWord × DWord := (0, 0x100000000)
deriving DecidableEq, Repr

/-- What a function-level reset cancelled (16 R394). -/
structure FlrCount where
  commands : Nat
  jobs     : Nat
  packets  : Nat
  assets   : Nat
  unreported : Nat
deriving DecidableEq, Repr

/-- One function. -/
structure Fn where
  mbx      : Mbx := {}
  linkReset : Bool := false
  ringError : Bool := false
  ringCode : Nat := 0
  hostMiss : Nat := 0
  drops    : Nat := 0
  smallBuffers : Nat := 0
  vecs     : Tbl Vec := []
  flr      : Option FlrCount := none
  away     : Bool := false
  flagAt   : Tbl Nat := []
deriving DecidableEq, Repr

/-- A COMPLETION write that waits for the link (13 R319): for a function's mailbox or the warden's. -/
inductive ComplW
  | rsp (fn : Nat) (warden : Bool) (r : Rsp)
  | evt (fn : Nat) (e : Evt)
  | msix (fn vec : Nat)
deriving DecidableEq, Repr

/-- A write into host memory that the engine has carried out (the model's own view of the far end of the link).
`what`: 1 response entry, 2 event entry, 3 packet data, 4 output completion, 5 chunk, 6 check value, 7 picture lines, 8 tag
record, 9 trace, 10 result at RESULT_ADDR, 11 record of a stage buffer entry; `info` says
what a reader of the bytes needs beside them. -/
structure HostWrite where
  fn   : Nat
  addr : Nat
  data : List Byte
  what : Nat
  info : List Int
deriving DecidableEq, Repr

/-- A long command that has started and has no response yet (17 R398). -/
inductive Long
  | engineReset | flSet (fl : Nat) | assetRead (req : Nat) | portRecover (port : BusPort)
  | mbSend (port : BusPort) (mb : Nat) | globalIssue (tag : Nat) | barrier (id : Nat)
  | gateSet (port : BusPort) | gateStop (port : BusPort) | selftest
deriving DecidableEq, Repr

/-- The host link. `reqAt` is the FRC cycle and the function of the last request that acted: the order of R18 and R400
within a cell cycle is kept by it. -/
structure Link where
  perst    : Bool := true
  up       : Bool := false
  numVfs   : Nat := 0
  retDue   : Option Nat := none
  vfReturn : Nat := 10
  gen      : Nat := 5
  lanes    : Nat := 16
  fns      : Tbl Fn := []
  warden   : Mbx := {}
  compl    : List ComplW := []
  writes   : List HostWrite := []
  longs    : List (Hdr × Long) := []
  resetHeld : Option Hdr := none
  resetDue : Bool := false
  samplingUs : Nat := 100
  spillBytes : Nat := 0
  reqAt    : Option (Nat × Nat) := none
deriving DecidableEq, Repr

/-! ### Fault collector (18), power (19), pins (20) -/

/-- A pending verdict of a source: LOG_INDEX of the raise that began it, the FRC at which it runs out,
and the raises it decides, each with LOG_INDEX, severity and ADDRESS (18 R415). -/
structure Verdict where
  logIndex : Nat
  deadline : Nat
  raises   : List (Nat × Nat × Nat)
deriving DecidableEq, Repr

/-- A fault source's status word and settings (18 Table 18-7, R411). -/
structure Source where
  sev      : Option Nat := none
  host     : Bool := false
  timeoutMs : Nat := 10
  count    : Nat := 0
  latched  : Bool := false
  latchSev : Nat := 0
  live     : Bool := false
  transient : Bool := false
  address  : Nat := 0
  verdict  : Option Verdict := none
  lastEvt  : Option Nat := none
  raisedAt : Option Nat := none
deriving DecidableEq, Repr

/-- The collector. -/
structure Collector where
  running  : Bool := false
  srcs     : Tbl Source := []
  log      : Tbl FaultRec := []
  nextLog  : Nat := 0
  intake   : List FaultRec := []
  cycFrc   : Nat := 0
  cycN     : Nat := 0
  first    : Option FaultRec := none
  last     : Option FaultRec := none
  armed    : Bool := true
  early    : List FaultMsg := []
deriving DecidableEq, Repr

/-- A board telemetry device (19 R445). -/
structure Telem where
  addr   : Nat
  device : Nat
  rail   : Nat
  silent : Nat := 0
  excluded : Bool := false
  ticks  : Nat := 0
deriving DecidableEq, Repr

/-- States of an XF pair (18 Table 18-8). -/
inductive PairSt | ok | fault | broken
deriving DecidableEq, Repr

/-- The regions of HBM in bytes, laid out at PISTE (01 Table 1-3). -/
structure HbmMap where
  reserve : Nat := 0
  spill   : Nat := 0
  media   : Nat := 0
deriving DecidableEq, Repr

/-- Power, thermal and pins. `bootAt` is the FRC value at which the main domain left reset (20 Table 20-8). -/
structure Board where
  telem    : Tbl Telem := []
  readSum  : List Nat := []
  estSum   : List Nat := []
  corrNum  : Nat := 1
  corrDen  : Nat := 1
  clampFrc : Option Nat := none
  temps    : Tbl Int := []
  hot      : Bool := false
  hotSince : Option Nat := none
  hbmFails : Nat := 0
  hbmOk    : Bool := false
  hbm      : HbmMap := {}
  gpioOwner : Tbl Nat := []
  gpioOut  : Tbl Bool := []
  xf       : Tbl PairSt := []
  fltMismatch : Bool := false
  strapRate : Nat := 0
  bootAt   : Option Nat := none
deriving DecidableEq, Repr

/-- The state of the block. `free` is the model's own counter, on which free values depend. -/
structure State where
  pending : List Instr := []
  eng     : EngState := .startHut
  resetN  : Bool := true
  warm    : Bool := false
  pisteOnce : Bool := false
  keelHalt : Bool := false
  free    : Nat := 0
  keel    : Keel := {}
  tu      : TimeUnit := {}
  qm      : Qm := {}
  arr     : Array_ := {}
  asset   : Asset := {}
  bus     : Bus := {}
  sched   : Sched := {}
  checks  : Tbl CheckUnit := []
  trust   : Trust := {}
  link    : Link := {}
  fc      : Collector := {}
  board   : Board := {}
deriving DecidableEq, Repr

/-- The machine at keel cold start, RESET_N and PERST_N asserted, no command waiting. -/
def State.reset : State := {}

/-- Why the machine stops. -/
inductive Fault
  /-- Raised by an event row whose operand names an object that the spec says does not exist (a core
  above C15, a fall line above FL15, a comparator above CMP63, a function above 63, a fault source above
  0x3FF). Safe: no hardware takes such an event. -/
  | noSuchObject
deriving DecidableEq, Repr

/-- Why a command has no meaning in this model. -/
inductive Refusal
  /-- The command is not modelled yet. Safe: the machine stops. -/
  | notModelled (mnemonic : String)
  /-- Raised by a BAR0 write into an open debug window, whose effect the spec does not give (15 Table
  15-3 says only whether the path is open). Safe: the machine stops. -/
  | debugWindow
deriving DecidableEq, Repr

end Sys2Proof.Machine
end

