-- ==== Sys2Proof/Machine/Ops.lean ====
section
/-! DEFINITION. The operations that every family shares: tables, field records, the passing of time,
the time views and fall lines, responses and events on the mailbox rings, and the checks that every
mailbox command goes through before its own rules. -/

namespace Sys2Proof.Machine

/-! ### Tables -/

/-- The record under key `n`. -/
def tget {α : Type} : Tbl α → Nat → Option α
  | [], _ => none
  | (k, v) :: r, n => if k = n then some v else tget r n

/-- The table with `v` under `n`; keys stay strictly rising. -/
def tput {α : Type} : Tbl α → Nat → α → Tbl α
  | [], n, v => [(n, v)]
  | (k, w) :: r, n, v =>
    if n < k then (n, v) :: (k, w) :: r
    else if n = k then (n, v) :: r
    else (k, w) :: tput r n v

/-- The table without key `n`. -/
def tdel {α : Type} (t : Tbl α) (n : Nat) : Tbl α := t.filter (fun e => e.1 != n)

/-- The record under `n`, or `d`. -/
def tgetD {α : Type} (t : Tbl α) (n : Nat) (d : α) : α := (tget t n).getD d

/-- Is `n` a key? -/
def thas {α : Type} (t : Tbl α) (n : Nat) : Bool := (tget t n).isSome

/-- The record under `n` changed by `f`, where there is one. -/
def tmod {α : Type} (t : Tbl α) (n : Nat) (f : α → α) : Tbl α :=
  match tget t n with
  | some v => tput t n (f v)
  | none => t

/-- Every record changed by `f`. -/
def tmap {α : Type} (t : Tbl α) (f : Nat → α → α) : Tbl α := t.map (fun e => (e.1, f e.1 e.2))

/-- The records that satisfy `p`. -/
def tfilter {α : Type} (t : Tbl α) (p : Nat → α → Bool) : Tbl α := t.filter (fun e => p e.1 e.2)

/-- The lowest number from `lo` on, among `k` numbers, that is no key. -/
def tfreeFrom {α : Type} (t : Tbl α) : Nat → Nat → Option Nat
  | 0, _ => none
  | k + 1, lo => if thas t lo then tfreeFrom t k (lo + 1) else some lo

/-- The lowest number from `lo` on, below `hi`, that is no key (R404: a claim of ANY). -/
def tfree {α : Type} (t : Tbl α) (lo hi : Nat) : Option Nat := tfreeFrom t (hi - lo) lo

/-- Keys strictly rising: the canonical form of a table. -/
def Tbl.wf {α : Type} : Tbl α → Bool
  | [] => true
  | [_] => true
  | (a, _) :: (b, w) :: r => decide (a < b) && Tbl.wf ((b, w) :: r)

/-- A counter in a table of counters raised by `d`. -/
def cinc (t : Tbl Nat) (i d : Nat) : Tbl Nat := tput t i (tgetD t i 0 + d)

/-! ### Field records -/

/-- A numeric field, or its default. -/
def fnum (f : Tbl RVal) (id : Nat) (d : Int) : Int :=
  match tget f id with
  | some (.num v) => v
  | _ => d

/-- A numeric field that is not negative. -/
def fnat (f : Tbl RVal) (id d : Nat) : Nat := (fnum f id (Int.ofNat d)).toNat

/-- A field that may be none. -/
def fopt (f : Tbl RVal) (id : Nat) : Option Nat :=
  match tget f id with
  | some (.num v) => some v.toNat
  | _ => none

/-- A field that may be none and has a default. -/
def foptD (f : Tbl RVal) (id : Nat) (d : Nat) : Option Nat :=
  match tget f id with
  | some (.num v) => some v.toNat
  | some .none_ => none
  | _ => some d

/-- A list field, empty where absent. -/
def flist (f : Tbl RVal) (id : Nat) : List Nat :=
  match tget f id with
  | some (.list l) => l
  | _ => []

/-- A time field. -/
def ftime (f : Tbl RVal) (id : Nat) : Ticks :=
  match tget f id with
  | some (.time t) => t
  | _ => 0

/-- A position field. -/
def fpos (f : Tbl RVal) (id : Nat) : Option Pos :=
  match tget f id with
  | some (.pos p) => some p
  | _ => none

/-- The fields with every record applied (17 R401). -/
def fapply (f : Tbl RVal) (recs : List Rec) : Tbl RVal :=
  recs.foldl (fun g r => tput g r.id r.val) f

/-! ### Numbers -/

/-- A value clamped to a range. -/
def clampI (v lo hi : Int) : Int := max lo (min v hi)

/-- A count that saturates. -/
def satAdd (v d top : Nat) : Nat := min (v + d) top

/-- Replace the i-th entry of a list. -/
def listSet {α : Type} : List α → Nat → α → List α
  | [], _, _ => []
  | _ :: r, 0, v => v :: r
  | x :: r, n + 1, v => x :: listSet r n v

/-- `w` bytes of `v`, least significant first (R7). -/
def leBytes : Nat → Nat → List Byte
  | 0, _ => []
  | w + 1, v => BitVec.ofNat 8 v :: leBytes w (v / 256)

/-- The number that bytes spell, least significant first (R7). -/
def leNat : List Byte → Nat
  | [] => 0
  | b :: r => b.toNat + 256 * leNat r

/-- The number in bytes off .. off+w of an entry. -/
def leAt (l : List Byte) (off w : Nat) : Nat := leNat ((l.drop off).take w)

/-- Number `a` is later than `b` modulo 2^32, over at most 2^31 (R118). -/
def later32 (a b : Nat) : Bool :=
  let d := (a + 2 ^ 32 - b % 2 ^ 32) % 2 ^ 32
  decide (0 < d) && decide (d ≤ 2 ^ 31)

/-! ### Time views (02) -/

/-- The FRC as a count of 1/65,536 ns. -/
def frcTicks (s : State) : Ticks := Int.ofNat s.keel.frc * tickNs

/-- How much of a change a slew has made after `ns` nanoseconds: at most 500 ppm (R34, Table 2-5). -/
def slewGain (ns : Nat) : Ticks :=
  Int.ofNat (ns * 65536 * min Config.slewPpm 500 / 1000000)

/-- How many nanoseconds a slew by `d` takes. -/
def slewNs (d : Ticks) : Nat :=
  let p := 65536 * min Config.slewPpm 500
  (d.natAbs * 1000000 + p - 1) / p

/-- The part of a domain's slew that has been made at an FRC instant. -/
def slewGained (d : DomSet) (x : Ticks) : Ticks :=
  let g := slewGain (Int.toNat (Int.fdiv x tickNs) - d.slewAt)
  if d.slew = 0 then 0 else if 0 ≤ d.slew then min d.slew g else max d.slew (-g)

/-- Domain time at an FRC instant with its fraction: the formula of R30, and what a slew in progress has added (Table
2-5). -/
def domAt (d : DomSet) (x : Ticks) : Ticks :=
  let dt := x - Int.ofNat d.frcRef * tickNs
  d.offset + dt + Int.fdiv (dt * d.rateAdj) (2 ^ 40) + slewGained d x

/-- The parameter set of a domain. -/
def domSet (k : Keel) : Dom → DomSet
  | .ta => k.ta
  | .tb => k.tb

/-- The keel with the parameter set of a domain replaced. -/
def setDom (k : Keel) (d : Dom) (p : DomSet) : Keel :=
  match d with
  | .ta => { k with ta := p }
  | .tb => { k with tb := p }

/-- The switch residual at an FRC instant (R34, R464). -/
def residualAt (k : Keel) (frc : Nat) : Ticks :=
  let g := slewGain (frc - k.slewStart)
  if k.residual = 0 then 0
  else if k.residual ≥ 0 then max 0 (k.residual - g) else min 0 (k.residual + g)

/-- The active view at an FRC instant with its fraction (R33). -/
def activeAt (k : Keel) (x : Ticks) : Ticks :=
  domAt (domSet k k.followed) x + residualAt k (Int.toNat (Int.fdiv x tickNs))

/-- The active view now. -/
def activeNow (s : State) : Ticks := activeAt s.keel (frcTicks s)

/-- A domain time now. -/
def domNow (s : State) (d : Dom) : Ticks := domAt (domSet s.keel d) (frcTicks s)

/-- Secure time follows the largest active view seen (R39). -/
def noteSecure (k : Keel) : Keel :=
  { k with secure := max k.secure (activeAt k (Int.ofNat k.frc * tickNs)) }

/-- Does a row that comes after a request of function `g` in one cell cycle belong before it: an event of the data
plane (none, R18), or a request of a lower function (R400)? -/
def belongsBefore (fn : Option Nat) (g : Nat) : Bool :=
  match fn with
  | none => true
  | some f => decide (f < g)

/-- The cell cycle, one value of the FRC, in which a row of the instant `t` acts: the cycle of that instant, or the
present one where that has passed. A row that belonged before a request which has acted in that cycle already acts in
the next, so that in every cycle the events come first and the requests follow in ascending function number (R18,
R400; DESIGN CHOICE, log 3). -/
def rowCycle (t : Nat) (fn : Option Nat) (s : State) : Nat :=
  let c := max s.keel.frc t
  match s.link.reqAt with
  | some (c', g) => if c' = c && belongsBefore fn g then c + 1 else c
  | none => c

/-- Time passes up to FRC value `c`: the counter runs while the keel is powered and SYSREF runs (R29, R431). -/
def runTo (c : Nat) (s : State) : State :=
  if s.keel.powered && s.keel.sysref then { s with keel := noteSecure { s.keel with frc := c } } else s

/-- Time passes up to the cycle of an event of the instant `t`; it never goes back (R29). -/
def advance (t : Nat) (s : State) : State := runTo (rowCycle t none s) s

/-- Time passes up to the cycle of a request. -/
def advanceReq (h : Hdr) (s : State) : State := runTo (rowCycle h.time (some h.fn) s) s

/-- A request of function `fn`, or a write of its software to a register, acts in the present cycle. -/
def noteReq (fn : Nat) (s : State) : State :=
  { s with link := { s.link with reqAt := some (s.keel.frc, fn) } }

/-- A raw timestamp (FRC and TDC fraction in 1/64 ns) as a count of 1/65,536 ns (R40). -/
def rawStamp (frc tdc : Nat) : Ticks := Int.ofNat frc * tickNs + Int.ofNat (tdc % 64) * 1024

/-! ### Fall lines (02) -/

/-- The fall line `n`. -/
def flGet (s : State) (n : Nat) : FallLine := tgetD s.tu.fls n {}

/-- SOURCE codes of Table 2-9 by position: PIN 0, SYNTH 1, RELAY 2, OFF 3. -/
def flSource (f : FallLine) : Nat := fnat f.f 0x2901 3

/-- LINES. -/
def flLines (f : FallLine) : Nat := max 1 (fnat f.f 0x2902 1125)

/-- Frame period as FP_NS x FP_DEN + FP_NUM, over FP_DEN. -/
def flPeriodNum (f : FallLine) : Nat :=
  fnat f.f 0x2903 16666666 * max 1 (fnat f.f 0x2905 3) + fnat f.f 0x2904 2

/-- FP_DEN. -/
def flDen (f : FallLine) : Nat := max 1 (fnat f.f 0x2905 3)

/-- A position as a count of phase units from line 0 of frame 0. -/
def posIdx (f : FallLine) (p : Pos) : Int :=
  (Int.ofNat p.frame * Int.ofNat (flLines f) + Int.ofNat p.line) * 65536 + Int.ofNat p.phase

/-- The position of a count of phase units; FRAME is 48 bits. -/
def idxPos (f : FallLine) (i : Int) : Pos :=
  let perFrame : Int := Int.ofNat (flLines f) * 65536
  let within := (Int.emod i perFrame).toNat
  { frame := (Int.emod (Int.fdiv i perFrame) (2 ^ 48)).toNat
    line := within / 65536
    phase := within % 65536 }

/-- Phase units since the anchor at a time: the latest position whose rounded time is not after it
(R46, R48). `a`/`b` ticks make one phase unit. -/
def unitsAt (a b : Int) (tau : Ticks) : Int := Int.fdiv ((2 * tau + 1) * b - 1) (2 * a)

/-- Time since the anchor of a count of phase units, rounded to the nearest tick, ties up (R48). -/
def timeOfUnits (a b : Int) (u : Int) : Ticks := Int.fdiv (2 * u * a + b) (2 * b)

/-- Ticks per phase unit, as numerator and denominator, of a synthetic raster (R46). -/
def flRate (f : FallLine) : Int × Int :=
  (max 1 (Int.ofNat (flPeriodNum f)), Int.ofNat (flDen f * flLines f))

/-- The anchor of a synthetic or relayed raster, as a count of phase units and a time. -/
def flAnchor (f : FallLine) : Int × Ticks :=
  (Int.ofNat (fnat f.f 0x2907 0) * Int.ofNat (flLines f) * 65536, ftime f.f 0x2906)

/-- The duration and the lines of the last complete frame among frame edges, newest first. -/
def lastWhole : List Edge → Option (Int × Nat)
  | e1 :: e0 :: r => if 0 < e1.len ∧ e0.time < e1.time then some (e1.time - e0.time, e1.len) else lastWhole (e0 :: r)
  | _ => none

/-- Ticks per phase unit of a pin fall line, as numerator and denominator: by the mean line period of the last complete
frame, before that by the expected period (R44). -/
def pinRate (f : FallLine) : Int × Int :=
  match lastWhole f.frames with
  | some (d, n) => (d, Int.ofNat n * 65536)
  | none => flRate f

/-- The count of phase units of an edge. -/
def edgeIdx (f : FallLine) (e : Edge) : Int := posIdx f ⟨e.frame, e.line, 0⟩

/-- Position of a time between two recorded edges of a pin fall line, by linear interpolation (R44, R48). -/
def pinBetween (f : FallLine) (older newer : Edge) (tau : Ticks) : Int :=
  let i0 := edgeIdx f older
  let i1 := edgeIdx f newer
  if older.time < newer.time ∧ i0 < i1 then i0 + unitsAt (newer.time - older.time) (i1 - i0) (tau - older.time) else i1

/-- The recorded pair of edges, newest first, that a time lies between. -/
def pinPair (tau : Ticks) : List Edge → Option (Edge × Edge)
  | n :: o :: r => if o.time ≤ tau ∧ tau < n.time then some (o, n) else pinPair tau (o :: r)
  | _ => none

/-- The edge nearest to `x` by a measure of edges, the newer of two that are equally near (R44). -/
def pinNearest (m : Edge → Int) (x : Int) : List Edge → Option Edge
  | [] => none
  | e :: r =>
    match pinNearest m x r with
    | none => some e
    | some b => if (m e - x).natAbs ≤ (m b - x).natAbs then some e else some b

/-- Position of a fall line at an active-view time, as a count of phase units; none where the fall
line is OFF, or is a pin line that has seen no frame edge (R44, R46, R48). -/
def flIdxAt (f : FallLine) (tau : Ticks) : Option Int :=
  match flSource f with
  | 0 =>
    match pinPair tau f.lines with
    | some (o, n) => some (pinBetween f o n tau)
    | none =>
      match pinNearest Edge.time tau f.frames with
      | some e =>
        let (a, b) := pinRate f
        some (edgeIdx f e + unitsAt a b (tau - e.time))
      | none => none
  | 1 | 2 =>
    let (a, b) := flRate f
    let (i0, t0) := flAnchor f
    some (i0 + unitsAt a b (tau - t0))
  | _ => none

/-- The recorded pair of edges, newest first, that a position lies between. -/
def pinPairPos (f : FallLine) (i : Int) : List Edge → Option (Edge × Edge)
  | n :: o :: r =>
    if edgeIdx f o ≤ i ∧ i < edgeIdx f n then some (o, n)
    else pinPairPos f i (o :: r)
  | _ => none

/-- Time of a position (R44, R46, R48). -/
def flTimeOf (f : FallLine) (i : Int) : Option Ticks :=
  match flSource f with
  | 0 =>
    match pinPairPos f i f.lines with
    | some (o, n) =>
      some (o.time + timeOfUnits (n.time - o.time) (edgeIdx f n - edgeIdx f o) (i - edgeIdx f o))
    | none =>
      match pinNearest (edgeIdx f) i f.frames with
      | some e =>
        let (a, b) := pinRate f
        some (e.time + timeOfUnits a b (i - edgeIdx f e))
      | none => none
  | 1 | 2 =>
    let (a, b) := flRate f
    let (i0, t0) := flAnchor f
    some (t0 + timeOfUnits a b (i - i0))
  | _ => none

/-- The present position of a pin fall line: within the line whose edge came last, so that it neither passes the next edge
before it has come nor falls back when that comes (R43, R45). -/
def pinHold (f : FallLine) (i : Int) : Int :=
  let e := posIdx f ⟨f.frame, f.line, 0⟩
  clampI i e (e + 65535)

/-- Position of fall line `n` now, as a count of phase units. -/
def flNow (s : State) (n : Nat) : Option Int :=
  let f := flGet s n
  (flIdxAt f (activeNow s)).map (fun i => if flSource f = 0 then pinHold f i else i)

/-- The frame that a fall line is in. -/
def flFrame (s : State) (n : Nat) : Option Int :=
  (flNow s n).map (fun i => Int.fdiv i (Int.ofNat (flLines (flGet s n)) * 65536))

/-- Slack in phase units from the present position of fall line `n` to position `p` (R49). -/
def slackOf (s : State) (n : Nat) (p : Pos) : Option Int :=
  (flNow s n).map (fun i => posIdx (flGet s n) p - i)

/-- The active-view time of position `p` on fall line `n`. -/
def posTime (s : State) (n : Nat) (p : Pos) : Option Ticks :=
  flTimeOf (flGet s n) (posIdx (flGet s n) p)

/-- The state with fall line `n` replaced. -/
def setFl (s : State) (n : Nat) (f : FallLine) : State :=
  { s with tu := { s.tu with fls := tput s.tu.fls n f } }

/-! ### Functions and their mailboxes (16) -/

/-- Function `n`. -/
def fnGet (s : State) (n : Nat) : Fn := tgetD s.link.fns n {}

/-- The state with function `n` replaced. -/
def setFn (s : State) (n : Nat) (f : Fn) : State :=
  { s with link := { s.link with fns := tput s.link.fns n f } }

/-- Does function `n` exist: the PF, and the VFs that NumVFs covers (16 "Functions and the BAR0
window")? -/
def fnExists (s : State) (n : Nat) : Bool := n == 0 || (decide (n ≤ s.link.numVfs) && decide (n < 64))

/-- The mailbox of a ring. -/
def mbxGet (s : State) (fn : Nat) (warden : Bool) : Mbx :=
  if warden then s.link.warden else (fnGet s fn).mbx

/-- The state with the mailbox of a ring replaced. -/
def setMbx (s : State) (fn : Nat) (warden : Bool) (m : Mbx) : State :=
  if warden then { s with link := { s.link with warden := m } }
  else setFn s fn { fnGet s fn with mbx := m }

/-- ENABLE of a mailbox (Table 16-6). -/
def mbxEnable (m : Mbx) : Bool := bitOf m.size.toNat 16

/-- REQ_LOG2, RSP_LOG2 and EVT_LOG2 (Table 16-6). -/
def reqLog (m : Mbx) : Nat := Word.field m.size 3 0
def rspLog (m : Mbx) : Nat := Word.field m.size 7 4
def evtLog (m : Mbx) : Nat := Word.field m.size 11 8

/-- Can the engine write to the rings of this mailbox now (R392)? -/
def canWrite (s : State) (m : Mbx) : Bool := s.link.up && !s.link.perst && m.ready

/-- A response of a ring that has no slot for writing waits among the held ones (R378, R392);
otherwise it queues for the link in the COMPLETION class (13 R319). -/
def respond (fn : Nat) (warden : Bool) (r : Rsp) (s : State) : State :=
  let m := mbxGet s fn warden
  if canWrite s m then
    { s with link := { s.link with compl := s.link.compl ++ [.rsp fn warden r] } }
  else setMbx s fn warden { m with held := m.held ++ [r] }

/-- Events of function `fn` that wait for the link. -/
def evtWaiting (s : State) (fn : Nat) : Nat :=
  s.link.compl.countP (fun w => match w with | .evt f _ => f == fn | _ => false)

/-- Responses of a ring that wait for the link. -/
def rspWaiting (s : State) (fn : Nat) (warden : Bool) : Nat :=
  s.link.compl.countP (fun w => match w with | .rsp f v _ => f == fn && v == warden | _ => false)

/-- A W1C bit of FN_STATE is set in this cycle, so that a clear of the same cycle leaves it set (00 R12). -/
def flagSet (bit frc : Nat) (f : Fn) : Fn := { f with flagAt := tput f.flagAt bit frc }

/-- An event for a function's event ring (R384, R406). It is dropped without a count while the ring is
out of service, and dropped and counted, with EVT_LOST set, when no entry is free. -/
def event (fn code : Nat) (data : List Int) (s : State) : State :=
  let f := fnGet s fn
  if !(canWrite s f.mbx) then s
  else if f.mbx.evt.length + evtWaiting s fn ≥ 2 ^ evtLog f.mbx then
    setFn s fn (flagSet 6 s.keel.frc { f with mbx := { f.mbx with evtDropped := f.mbx.evtDropped + 1, evtLost := true } })
  else
    { s with link := { s.link with compl := s.link.compl ++ [.evt fn ⟨code, s.keel.frc, data⟩] } }

/-- HOST_MISS of a function raised by one (01 R27). -/
def hostMiss (fn : Nat) (s : State) : State :=
  let f := fnGet s fn
  setFn s fn { f with hostMiss := f.hostMiss + 1 }

/-! ### Mailbox commands (17 R395-R399) -/

/-- The columns of a command's row in Tables 17-4 to 17-16: opcode; W and PF of the By column; S, P and
H of the States column; whether HALTED with no verified firmware serves it; result bytes where EXT. -/
structure Spec where
  op   : Nat
  w    : Bool := false
  pf   : Bool := false
  inS  : Bool := true
  inP  : Bool := true
  inH  : Bool := false
  core : Bool := false
  res  : Nat := 0
deriving DecidableEq, Repr

/-- What a command answers: its status and the fields of its result in order. -/
abbrev Reply := Status × List Int

/-- Does the engine state serve the command (R388, R396 step 3)? -/
def stateServes (sp : Spec) (h : Hdr) (s : State) : Bool :=
  match s.eng with
  | .startHut => false
  | .snowplough => sp.inS && (h.fn == 0 || h.warden)
  | .piste => sp.inP
  | .halted => (h.fn == 0 || h.warden) && (if s.trust.fwRuns then sp.inH else sp.core)

/-- Checks 2 to 4 of R396, in order; the opcode is known because the row is. -/
def checkReq (sp : Spec) (h : Hdr) (s : State) : Option Status :=
  if sp.w && !h.warden then some .noPerm
  else if sp.pf && h.fn != 0 then some .noPerm
  else if !(stateServes sp h s) then some .state
  else if h.rsvd then some .badArg
  else if decide (sp.res > 24) && decide (h.room < sp.res) then some .badArg
  else none

/-- Response slots a request needs (R383). -/
def slotsOf (op : Nat) : Nat := if op = 0x0505 then 2 else 1

/-- Jobs of a function whose JOB_COMMITTED response is due (R116, R159, R383). -/
def jobsDue (s : State) (fn : Nat) : Nat :=
  (s.arr.streams.map (fun e => if e.2.owner == fn then e.2.jobs.countP (fun j => j.host) else 0)).sum

/-- Submission batches of a function whose response is due (R389). -/
def batchesOpen (s : State) (fn : Nat) : Nat :=
  s.qm.queues.countP (fun e => Word.field e.2.w.endpoints 5 0 == fn &&
    (match e.2.sub with | some r => decide (0 < r.batchN) | none => false))

/-- Response slots of a ring taken: entries unread, entries that wait for the link, and the slots
reserved for requests fetched and not yet answered and for jobs accepted (R383). -/
def slotsTaken (s : State) (fn : Nat) (warden : Bool) : Nat :=
  let m := mbxGet s fn warden
  m.rsp.length + rspWaiting s fn warden + (m.fetched.map (fun f => slotsOf f.opcode)).sum +
    (if warden then 0 else jobsDue s fn + batchesOpen s fn)

/-- Long commands of the ring that have no final response yet. -/
def longOut (s : State) (h : Hdr) : Bool :=
  s.link.longs.any (fun l => l.1.fn == h.fn && l.1.warden == h.warden)

/-- Does a final response of the ring wait to be written? -/
def rspWaits (s : State) (fn : Nat) (warden : Bool) : Bool :=
  s.link.compl.any (fun w => match w with | .rsp f v r => f == fn && v == warden && r.kind == 0 && !r.more | _ => false) ||
  (mbxGet s fn warden).held.any (fun r => r.kind == 0)

/-- May the ring fetch: it is in service, has not stopped, and no held response of the function waits to be written
first (R380, R392)? -/
def canFetch (s : State) (fn : Nat) (warden : Bool) : Bool :=
  let m := mbxGet s fn warden
  canWrite s m && m.stopped.isNone && m.held.isEmpty &&
  !(s.link.compl.any (fun w => match w with | .rsp f _ r => f == fn && r.replay | _ => false))

/-- Has the ring fetched requests that have not started? -/
def fetchedHead (m : Mbx) : Option Fetched := m.fetched.find? (fun f => !f.started)

/-- May the request start now: its ring is served, it is the next in ring order (R381), its response
slot is free (R383), and with FENCE the final response of everything earlier has been written. -/
def startable (sp : Spec) (h : Hdr) (s : State) : Bool :=
  let m := mbxGet s h.fn h.warden
  s.eng != .startHut && (fnExists s h.fn || (fnGet s h.fn).away) && !(s.resetN) && s.keel.powered &&
  (match fetchedHead m with
   | some f => f.opcode == sp.op && f.tag == h.tag
   | none => canFetch s h.fn h.warden &&
      decide (slotsTaken s h.fn h.warden + slotsOf sp.op ≤ 2 ^ rspLog m - 1)) &&
  !(h.fence && (longOut s h || m.fetched.any (fun f => f.started) || rspWaits s h.fn h.warden))

/-- Mark the first entry that satisfies `p`. -/
def markFirst (p : Fetched → Bool) (f : Fetched → Fetched) : List Fetched → List Fetched
  | [] => []
  | x :: r => if p x then f x :: r else x :: markFirst p f r

/-- The request has started: fetched and start are one step where no doorbell row fetched it. -/
def markStarted (sp : Spec) (h : Hdr) (s : State) : State :=
  let s := noteReq h.fn s
  let m := mbxGet s h.fn h.warden
  match fetchedHead m with
  | some _ => setMbx s h.fn h.warden
      { m with fetched := markFirst (fun f => !f.started) (fun f => { f with started := true }) m.fetched }
  | none => setMbx s h.fn h.warden
      { m with fetched := m.fetched ++ [{ opcode := sp.op, tag := h.tag, fence := h.fence, started := true }] }

/-- Remove the first started request with a tag. -/
def dropFetched (tag : Nat) : List Fetched → List Fetched
  | [] => []
  | x :: r => if x.started && x.tag == tag then r else x :: dropFetched tag r

/-- The final response of a request (R398): its reserved slot becomes the response. -/
def finish (h : Hdr) (st : Status) (res : List Int) (s : State) : State :=
  let m := mbxGet s h.fn h.warden
  let op := ((m.fetched.find? (fun f => f.started && f.tag == h.tag)).map (fun f => f.opcode)).getD 0
  let s := setMbx s h.fn h.warden { m with fetched := dropFetched h.tag m.fetched }
  respond h.fn h.warden { tag := h.tag, status := st, noInt := h.noInt, op := op, addr := h.resAddr, result := res } s

/-- A mailbox command: the checks of R396, then the command's own rules. `body` answers an error
status with no effect, or the new state with a reply, or, for a long command that goes on, the new
state alone (R398). A request that cannot start yet leaves the machine as it is. -/
def mbx (sp : Spec) (h : Hdr) (s : State)
    (body : State → Except Status (State × Option Reply)) : Host.Outcome State Fault Refusal :=
  let s := advanceReq h s
  if !(startable sp h s) then .next s
  else
    let wrong := ((fetchedHead (mbxGet s h.fn h.warden)).map (fun f => f.bad)).getD false
    let h := { h with rsvd := h.rsvd || wrong }
    let s := markStarted sp h s
    match checkReq sp h s with
    | some e => .next (finish h e [] s)
    | none =>
      match body s with
      | .error e => .next (finish h e [] s)
      | .ok (s', some r) => .next (finish h r.1 r.2 s')
      | .ok (s', none) => .next s'

/-- A command body that answers at once with OK. -/
def done (s : State) (res : List Int := []) : Except Status (State × Option Reply) :=
  .ok (s, some (.ok, res))

/-- A check of a command's own rules. -/
def need (c : Bool) (e : Status) : Except Status Unit := if c then .ok () else .error e

/-- The object under `n`, or E_STATE (R397: a number in range that names no existing object). -/
def named {α : Type} (o : Option α) : Except Status α :=
  match o with
  | some a => .ok a
  | none => .error .state

/-- May the caller use an object of function `owner` (R397)? -/
def owned (h : Hdr) (owner : Nat) : Except Status Unit := need (owner == h.fn) .noPerm

/-- A long command goes on: it is recorded as outstanding. -/
def outstanding (h : Hdr) (l : Long) (s : State) : State :=
  { s with link := { s.link with longs := s.link.longs ++ [(h, l)] } }

/-- The long commands that satisfy `p` end with a status and result. -/
def endLongs (p : Hdr → Long → Bool) (st : Status) (res : List Int) (s : State) : State :=
  let ended := s.link.longs.filter (fun l => p l.1 l.2)
  let s := { s with link := { s.link with longs := s.link.longs.filter (fun l => !(p l.1 l.2)) } }
  ended.foldl (fun s l => finish l.1 st res s) s

/-! ### Events of the block's own -/

/-- A time-driven or physical event of the block at FRC instant `t`. -/
def ev (t : Nat) (s : State) (f : State → State) : Host.Outcome State Fault Refusal :=
  .next (f (advance t s))

/-- An event whose operands must name existing objects of the hardware. -/
def evOn (ok : Bool) (t : Nat) (s : State) (f : State → State) : Host.Outcome State Fault Refusal :=
  if ok then ev t s f else .fault .noSuchObject

/-- Is the main domain out of reset, with firmware serving (SNOWPLOUGH or PISTE)? -/
def inService (s : State) : Bool := s.eng == .snowplough || s.eng == .piste

/-- The value of the model's counter of free values, and the state after taking one. -/
def takeFree (s : State) : Nat × State := (s.free, { s with free := s.free + 1 })

/-! ### Ports and domains by number -/

/-- Ports OA 0, OB 1. -/
def portOf (n : Nat) : Option BusPort := if n = 0 then some .oa else if n = 1 then some .ob else none

/-- The number of a port. -/
def portNum : BusPort → Nat
  | .oa => 0
  | .ob => 1

/-- A message buffer among those of both ports, 64 on each. -/
def mbNum (p : BusPort) (mb : Nat) : Nat := 64 * portNum p + mb

/-- The other port. -/
def otherPort : BusPort → BusPort
  | .oa => .ob
  | .ob => .oa

/-- The port's state. -/
def portGet (s : State) : BusPort → Port
  | .oa => s.bus.oa
  | .ob => s.bus.ob

/-- The state with a port replaced. -/
def setPort (s : State) (p : BusPort) (v : Port) : State :=
  match p with
  | .oa => { s with bus := { s.bus with oa := v } }
  | .ob => { s with bus := { s.bus with ob := v } }

/-- The domain of a number: TA 0, TB 1. -/
def domOf (n : Nat) : Option Dom := if n = 0 then some .ta else if n = 1 then some .tb else none

/-- The number of a domain. -/
def domNum : Dom → Nat
  | .ta => 0
  | .tb => 1

end Sys2Proof.Machine
end

