-- ==== Sys2Proof/Machine/QueueOps.lean ====
section
/-! DEFINITION. The queue manager's operations (03): descriptor fields, the cell pool and its quotas,
credit, commits, rewinds, abort markers, releases and watermarks. -/

namespace Sys2Proof.Machine

/-! ### Descriptor fields (Table 3-1) -/

def qGlide (w : QWords) : Bool := bitOf w.config.toNat 0
def qOnDie (w : QWords) : Bool := bitOf w.config.toNat 1
def qGlideAuth (w : QWords) : Bool := bitOf w.config.toNat 2
def qHistOk (w : QWords) : Bool := bitOf w.config.toNat 3
def qThresh (w : QWords) : Nat := Word.field w.config 15 8
def qPktMax (w : QWords) : Nat := Word.field w.config 24 16
def qFn (w : QWords) : Nat := Word.field w.endpoints 5 0
def qProducer (w : QWords) : Nat := Word.field w.endpoints 15 8
def qConsumer (w : QWords) : Nat := Word.field w.endpoints 23 16
def qMin (w : QWords) : Nat := Word.field w.minCells 24 0
def qMax (w : QWords) : Nat := Word.field w.maxCells 24 0
def qGrant (w : QWords) : Nat := Word.field w.grant 8 0
def wmLevel (w : Word) : Nat := Word.field w 24 0
def wmOn (w : Word) : Bool := bitOf w.toNat 31

/-- Reserved bits of the seven command words are zero (R10). -/
def qReservedOk (w : QWords) : Bool :=
  Word.field w.config 7 4 == 0 && Word.field w.config 31 25 == 0 &&
  Word.field w.endpoints 7 6 == 0 && Word.field w.endpoints 31 24 == 0 &&
  Word.field w.minCells 31 25 == 0 && Word.field w.maxCells 31 25 == 0 && Word.field w.grant 31 9 == 0 &&
  Word.field w.wmHigh 30 25 == 0 && Word.field w.wmLow 30 25 == 0

/-- Codes that Table 3-2 allows as producer and as consumer. -/
def producerOk (c : Nat) : Bool := [1, 4, 5, 6, 7, 8].contains c
def consumerOk (c : Nat) : Bool := [2, 3, 4, 5, 6, 7, 8, 9].contains c

/-- The combinations that R61 refuses are absent. -/
def qConfigOk (w : QWords) : Bool :=
  qReservedOk w && decide (qMin w ≤ qMax w) && decide (qPktMax w ≤ qMax w) &&
  !(qGlide w && decide (qPktMax w < qThresh w)) &&
  !(wmOn w.wmHigh && wmOn w.wmLow && decide (wmLevel w.wmHigh ≤ wmLevel w.wmLow)) &&
  decide (qGrant w ≤ qMax w) && producerOk (qProducer w) && consumerOk (qConsumer w) &&
  decide (1 ≤ qPktMax w) && decide (qPktMax w ≤ 256) && (!(qGlide w) || decide (1 ≤ qThresh w)) &&
  decide (1 ≤ qGrant w) && decide (qGrant w ≤ 256)

/-! ### Depth and packets -/

/-- DEPTH: cells linked in the queue, visible or not (Table 3-1). -/
def qDepth (q : Queue) : Nat := (q.pkts.map (fun p => p.cells.length)).sum

/-- Cells of staged chains, which hold the credit they were written against (R63; log 20). -/
def qStaged (q : Queue) : Nat := (q.chains.map (fun c => c.cells.length)).sum

/-- D + C of R68. -/
def qHold (q : Queue) : Nat := qDepth q + qStaged q + q.credit

/-- PACKETS: visible packets. -/
def qVisible (q : Queue) : Nat := q.pkts.countP (fun p => p.visible)

/-- OPEN: a packet with its first cell written and its last not (Table 3-3). -/
def qOpen (q : Queue) : Option Pkt := q.pkts.find? (fun p => !p.closed)

/-- The packet at the head, where it is visible. -/
def qFirst (q : Queue) : Option Pkt :=
  match q.pkts with
  | p :: _ => if p.visible then some p else none
  | [] => none

/-- The packet at the head as a consumer reaches it: none while the queue is BLOCKED, whose reads are PENDING (R67,
R77). -/
def qHead (q : Queue) : Option Pkt := if q.blocked then none else qFirst q

/-- Head-of-line age (R84). -/
def qAge (q : Queue) (frc : Nat) : Nat :=
  match qFirst q with
  | some p => frc - p.visFrc
  | none => 0

/-- Queue `n`. -/
def qGet (s : State) (n : Nat) : Option Queue := tget s.qm.queues n

/-- Bytes of some cells. -/
def chainBytes (l : List Cell) : Nat := (l.map (fun c => c.data.length)).sum

/-- The cells of a packet before its first one in error. -/
def goodCells (p : Pkt) : List Cell := p.cells.takeWhile (fun c => !c.bad)

/-- The cells of a packet that its consumer can be given: those before a DATA_ERROR marker, or all (R72, R80). -/
def readable (p : Pkt) : List Cell := if p.abort = some 6 then goodCells p else p.cells

/-- The byte count of a packet up to its marker (R72). -/
def markerBytes (p : Pkt) : Nat := p.bytes - (chainBytes p.cells - chainBytes (readable p))

/-! ### Pointer banks and journal (R75, R76) -/

/-- All ones in 25 bits: HEAD and TAIL of an empty queue (Table 3-1). -/
def noCell : Nat := 2 ^ 25 - 1

/-- The cells linked in a queue, from its head. -/
def linkedCells (q : Queue) : List Cell := (q.pkts.map (fun p => p.cells)).flatten

/-- Each index with the one that follows it. -/
def nextLinks : List Nat → List (Nat × Nat)
  | a :: b :: r => (a, b) :: nextLinks (b :: r)
  | _ => []

/-- A bank's copy of a queue's pointers. -/
def bankOf (q : Queue) : Bank :=
  let l := (linkedCells q).map (fun c => c.index)
  { head := l.headD noCell, tail := l.getLastD noCell, next := nextLinks l }

/-- The journal's entries for a queue: one for each cell of each packet. An open packet's entries carry the number that
it is to take (R62, R76). -/
def entriesOf (n : Nat) (q : Queue) : List JEntry :=
  (q.pkts.map (fun p => p.cells.zipIdx.map (fun e =>
    { cell := e.1.index, queue := n, seq := if p.visible then p.seq else q.seq, pos := p.released + e.2 : JEntry }))).flatten

/-- The consumer's read position in its current packet. -/
def readPosOf (q : Queue) : Nat :=
  match q.pkts with
  | p :: _ => p.released + p.readN
  | [] => 0

/-- Entries `es` stand for queue `n` in the journal and, before the commit becomes visible, in its mirror (R76). -/
def journalSet (n : Nat) (es : List JEntry) (m : Qm) : Qm :=
  { m with journal := m.journal.filter (fun e => e.queue != n) ++ es
           mirror := m.mirror.filter (fun e => e.queue != n) ++ es }

/-- Both banks and the journal follow a queue in the cell operation that changes it; a BLOCKED queue has no pointers, and
its journal stands as it was (R75, R76). -/
def record (n : Nat) (q : Queue) (m : Qm) : Qm :=
  if q.blocked then { m with bankA := tdel m.bankA n, bankB := tdel m.bankB n }
  else
    let b := bankOf q
    journalSet n (entriesOf n q)
      { m with bankA := tput m.bankA n b, bankB := tput m.bankB n b, readPos := tput m.readPos n (readPosOf q) }

/-- Pointers, entries and position of a queue that is gone. -/
def unrecord (n : Nat) (m : Qm) : Qm :=
  journalSet n [] { m with bankA := tdel m.bankA n, bankB := tdel m.bankB n, readPos := tdel m.readPos n }

/-- The state with queue `n` replaced. -/
def qSet (s : State) (n : Nat) (q : Queue) : State :=
  { s with qm := record n q { s.qm with queues := tput s.qm.queues n q } }

/-! ### Pool, quotas and credit (R57-R60, R68, R69, R79) -/

/-- Cells in the pool (R58). -/
def poolCells (m : Qm) : Nat := Config.onDieCells + m.spillCells

/-- A function's quota (R60): the PF's follows the pool, a VF's is zero until the warden sets it. -/
def quotaOf (m : Qm) (fn : Nat) : Nat := tgetD m.quotas fn (if fn = 0 then poolCells m else 0)

/-- The sum of MIN_CELLS over a function's queues, but queue `but`, and the cells of its message buffers (10
R260). -/
def minSum (m : Qm) (fn : Nat) (but : Option Nat) : Nat :=
  (m.queues.map (fun e => if qFn e.2.w == fn && some e.1 != but then qMin e.2.w else 0)).sum + tgetD m.mbCells fn 0

/-- Cells that a function's queues hold and have been granted above their MIN_CELLS. -/
def aboveMin (m : Qm) (fn : Nat) : Nat :=
  (m.queues.map (fun e => if qFn e.2.w == fn then qHold e.2 - qMin e.2.w else 0)).sum

/-- Cells reserved by MIN_CELLS and not yet granted, over the queues with ONDIE_ONLY or without it, but queue `but`. -/
def unusedMinOf (m : Qm) (but : Nat) (onDie : Bool) : Nat :=
  (m.queues.map (fun e => if e.1 == but || qOnDie e.2.w != onDie then 0 else qMin e.2.w - qHold e.2)).sum

/-- How many grants of CREDIT_GRANT cells queue `n` can have now, and how many it wants (R68). On-die cells that other
queues with ONDIE_ONLY hold reserved are not free for it; the reserve of the others is backed by spill cells first
(R59, R68). `minOnly`: an earlier request of its function waits, so it gets its MIN_CELLS alone (R60). -/
def grantCount (m : Qm) (n : Nat) (q : Queue) (minOnly : Bool) : Nat × Nat :=
  let g := qGrant q.w
  let want := if g = 0 ∨ q.stopped then 0 else (qMax q.w - qHold q) / g
  let die := m.onDieFree - unusedMinOf m n true
  let others := unusedMinOf m n false
  let free := if qOnDie q.w then m.onDieFree else die + m.spillFree
  let fn := qFn q.w
  let reserved := qMin q.w - qHold q
  let unresPool := (if qOnDie q.w then die - (others - m.spillFree) else free - others) - reserved
  let unresFn := if minOnly then 0 else quotaOf m fn - (minSum m fn none + aboveMin m fn)
  let most := min free (reserved + min unresPool unresFn)
  (if m.flBlocked ∨ g = 0 then 0 else min want (most / g), want)

/-- Grant queue `n` what it can have, on-die cells first (R59); it waits in request order for the rest (R60). -/
def grantOne (m : Qm) (n : Nat) (minOnly : Bool) : Qm :=
  match tget m.queues n with
  | none => { m with waiters := m.waiters.filter (· != n) }
  | some q =>
    let (k, want) := grantCount m n q minOnly
    let g := k * qGrant q.w
    let onDie := min g (if qOnDie q.w then m.onDieFree else m.onDieFree - unusedMinOf m n true)
    let q' := { q with credit := q.credit + g, creditSpill := q.creditSpill + (g - onDie) }
    { m with
      queues := tput m.queues n q'
      onDieFree := m.onDieFree - onDie
      spillFree := m.spillFree - (g - onDie)
      waiters := if k < want then (if m.waiters.contains n then m.waiters else m.waiters ++ [n])
                 else m.waiters.filter (· != n) }

/-- The function of queue `n`. -/
def fnOfQ (m : Qm) (n : Nat) : Nat :=
  match tget m.queues n with
  | some q => qFn q.w
  | none => Config.functions

/-- Requests served in the order in which they arrived: where one has to wait for cells above its MIN_CELLS, later ones
of its function get none of those before it (R60). `late` are the functions with such a request. -/
def grantList : List Nat → List Nat → Qm → Qm
  | [], _, m => m
  | n :: r, late, m =>
    let fn := fnOfQ m n
    let m := grantOne m n (late.contains fn)
    grantList r (if m.waiters.contains n then fn :: late else late) m

/-- Grants to the queues that wait (R60, R68). -/
def grantWaiters (m : Qm) : Qm := grantList m.waiters [] m

/-- Grants in the order in which the requests arrived, queue `n` the last of them where it does not wait already (R60,
R68). -/
def grantAll (m : Qm) (n : Nat) : Qm :=
  grantList (if m.waiters.contains n then m.waiters else m.waiters ++ [n]) [] m

/-- Cells return to the pool. -/
def poolReturn (m : Qm) (onDie spill : Nat) : Qm :=
  { m with onDieFree := m.onDieFree + onDie, spillFree := m.spillFree + spill }

/-- The on-die and the spill cells among some cells. -/
def onDieOf (l : List Cell) : Nat := l.countP (fun c => c.onDie)
def spillOf (l : List Cell) : Nat := l.countP (fun c => !c.onDie)

/-- Cells return to the pool. -/
def freeCells (l : List Cell) (m : Qm) : Qm := poolReturn m (onDieOf l) (spillOf l)

/-- Queue `n` with its outstanding credit returned to the pool. -/
def dropCredit (m : Qm) (n : Nat) : Qm :=
  match tget m.queues n with
  | none => m
  | some q =>
    let m := poolReturn m (q.credit - q.creditSpill) q.creditSpill
    { m with queues := tput m.queues n { q with credit := 0, creditSpill := 0 } }

/-! ### Which cell (R57-R59) -/

/-- A number put into an ascending list, and a list in ascending order. -/
def insertNat (n : Nat) : List Nat → List Nat
  | [] => [n]
  | a :: r => if n ≤ a then n :: a :: r else a :: insertNat n r
def ascend (l : List Nat) : List Nat := l.foldr insertNat []

/-- The `n`-th number, counted from 0, that an ascending list does not hold. -/
def nthFree : List Nat → Nat → Nat
  | [], n => n
  | u :: r, n => if u ≤ n then nthFree r (n + 1) else n

/-- Indices of all cells in use: linked, staged, and those of message buffers. -/
def usedCells (m : Qm) : List Nat :=
  (m.queues.map (fun e => (linkedCells e.2 ++ (e.2.chains.map (fun c => c.cells)).flatten).map (fun c => c.index))).flatten ++
    m.mbIdx.map (fun e => e.2)

/-- The cell of the next allocation: a free one of the on-die cells 0 to 131,071, or of the spill cells above them
(R57, R58); which, the spec leaves open (log 6). -/
def pickIndex (m : Qm) (onDie : Bool) : Nat :=
  let used := usedCells m
  let at_ (base size : Nat) (l : List Nat) : Nat :=
    base + nthFree (ascend (l.map (fun i => i - base))) (Config.cellIndex m.serial % max 1 (size - l.length))
  if onDie then at_ 0 Config.onDieCells (used.filter (fun i => decide (i < Config.onDieCells)))
  else at_ Config.onDieCells m.spillCells (used.filter (fun i => decide (Config.onDieCells ≤ i)))

/-- Byte offset of a cell in the spill region, whose lowest 32 MiB are scratch space; none for an on-die cell (R58). -/
def spillOffset (i : Nat) : Option Nat := if i < Config.onDieCells then none else some (i * 256)

/-- The journal's queue number for a message buffer (log 20). -/
def mbQueue (b : Nat) : Nat := 32768 + b

/-- Message buffer `b` of a function takes its one on-die cell, journaled like a queue's; none where allocation is
blocked, or the pool or the quota has none left (10 R260, R79). -/
def mbTake (fn b : Nat) (m : Qm) : Option Qm :=
  if m.flBlocked ∨ m.onDieFree = 0 ∨ quotaOf m fn ≤ minSum m fn none + aboveMin m fn then none
  else
    let i := pickIndex m true
    some (journalSet (mbQueue b) [{ cell := i, queue := mbQueue b, seq := 0, pos := 0 }]
      { m with onDieFree := m.onDieFree - 1, serial := m.serial + 1, mbCells := cinc m.mbCells fn 1
               mbIdx := tput m.mbIdx b i })

/-- Message buffers of a function return their cells. -/
def mbReturn (fn : Nat) (bufs : List Nat) (m : Qm) : Qm :=
  let m := bufs.foldl (fun m b => journalSet (mbQueue b) [] { m with mbIdx := tdel m.mbIdx b }) m
  let k := bufs.length
  let m := poolReturn { m with mbCells := tput m.mbCells fn (tgetD m.mbCells fn 0 - k) } k 0
  if k = 0 then m else grantWaiters m

/-- Grants, on the whole state. -/
def regrant (n : Nat) (s : State) : State := { s with qm := grantAll s.qm n }

/-! ### STATUS flags and watermarks (R82, R83) -/

/-- STATUS bits: OVERRUN 0, UNDERRUN 1, PKT_OVERRUN 2, WM_HIGH 3, WM_LOW 4, REBUILT 5, LOSS 6,
ABORTED 7 (Table 3-3). -/
def setFlag (v i : Nat) : Nat := if bitOf v i then v else v + 2 ^ i

/-- A queue with a STATUS flag set in the cell cycle `frc`, in which its clear does not clear it (R12). -/
def qFlag (frc i : Nat) (q : Queue) : Queue := { q with status := setFlag q.status i, flagAt := tput q.flagAt i frc }

/-- Was flag `i` set in the cell cycle `frc`? -/
def flagFresh (q : Queue) (frc i : Nat) : Bool := tget q.flagAt i == some frc

/-- Did DEPTH cross WM_HIGH upward, or WM_LOW downward (R82)? -/
def crossedHigh (q : Queue) (d0 d1 : Nat) : Bool :=
  wmOn q.w.wmHigh && decide (d0 < wmLevel q.w.wmHigh) && decide (wmLevel q.w.wmHigh ≤ d1)
def crossedLow (q : Queue) (d0 d1 : Nat) : Bool :=
  wmOn q.w.wmLow && decide (wmLevel q.w.wmLow < d0) && decide (d1 ≤ wmLevel q.w.wmLow)

/-- Depth went from `d0` to its present value: peaks, and crossings with their first notice. -/
def noteDepth (n d0 : Nat) (s : State) : State :=
  match qGet s n with
  | none => s
  | some q =>
    let d1 := qDepth q
    let q := { q with peakDepth := max q.peakDepth d1 }
    if q.blocked then qSet s n q
    else if crossedHigh q d0 d1 then
      let first := !(bitOf q.status 3)
      let q := qFlag s.keel.frc 3 { q with wmHighN := satAdd q.wmHighN 1 65535 }
      let s := qSet s n q
      if first then event (qFn q.w) 0x0301 [n, 0, 0, d1, q.wmHighN] s else s
    else if crossedLow q d0 d1 then
      let first := !(bitOf q.status 4)
      let q := qFlag s.keel.frc 4 { q with wmLowN := satAdd q.wmLowN 1 65535 }
      let s := qSet s n q
      if first then event (qFn q.w) 0x0301 [n, 1, 0, d1, q.wmLowN] s else s
    else qSet s n q

/-- LEVEL: the live depth against the enabled watermarks (R82). -/
def qLevel (q : Queue) : Nat :=
  let d := qDepth q
  if wmOn q.w.wmHigh && decide (wmLevel q.w.wmHigh ≤ d) then 2
  else if wmOn q.w.wmLow && decide (d ≤ wmLevel q.w.wmLow) then 0
  else if !(wmOn q.w.wmHigh) && !(wmOn q.w.wmLow) then 0
  else 1

/-! ### Changing packets -/

/-- Queue `n` changed by `f`, cells returned to the pool, grants made, and the change of depth noted. -/
def qChange (n : Nat) (freed : List Cell) (f : Queue → Queue) (s : State) : State :=
  match qGet s n with
  | none => s
  | some q =>
    let d0 := qDepth q
    let s := qSet s n (f q)
    let s := { s with qm := freeCells freed s.qm }
    let s := noteDepth n d0 s
    if freed.isEmpty then s else regrant n s

/-- Queue `n` changed by `f`, where it exists. -/
def qMod (n : Nat) (f : Queue → Queue) (s : State) : State :=
  match qGet s n with
  | none => s
  | some q => qSet s n (f q)

/-- Replace the open packet, which is the newest. -/
def putOpen (p : Pkt) : List Pkt → List Pkt
  | [] => [p]
  | x :: r => if x.closed then x :: putOpen p r else p :: r

/-- Remove the open packet. -/
def dropOpen (l : List Pkt) : List Pkt := l.filter (fun p => p.closed)

/-- The packet becomes visible: it takes the queue's next sequence number (R62). -/
def makeVisible (frc : Nat) (q : Queue) (p : Pkt) : Queue × Pkt :=
  if p.visible then (q, p)
  else ({ q with seq := (q.seq + 1) % 2 ^ 32 }, { p with seq := q.seq, visible := true, visFrc := frc })

/-- The open packet closes in error and was never visible: its cells return to the pool (R64). -/
def rewindOpen (n : Nat) (s : State) : State :=
  match (qGet s n).bind qOpen with
  | none => s
  | some p =>
    qChange n p.cells (fun q => { q with pkts := dropOpen q.pkts, rewound := q.rewound + 1, mode := none }) s

/-- An abort marker behind the last committed cell of the open, visible packet (R72); a packet that a marker ends
already only closes. -/
def markOpen (n reason : Nat) (s : State) : State :=
  qMod n (fun q =>
    match qOpen q with
    | none => q
    | some p =>
      if p.abort.isSome then { q with pkts := putOpen { p with closed := true } q.pkts, mode := none }
      else qFlag s.keel.frc 7 { q with
        pkts := putOpen { p with closed := true, abort := some reason } q.pkts
        aborted := q.aborted + 1, mode := none }) s

/-- The open packet ends in error: a marker where it is visible, else it vanishes (R64, R71). While the queue is BLOCKED
the end waits for the rebuild (R77). -/
def endOpen (n reason : Nat) (s : State) : State :=
  match qGet s n with
  | none => s
  | some q =>
    match qOpen q with
    | none => s
    | some p =>
      if q.blocked then qSet s n { q with endDue := some reason }
      else if p.visible then markOpen n reason s
      else rewindOpen n s

/-- What a producer attaches to a packet it opens. -/
structure PktInfo where
  hold     : Bool := false
  userTag  : Nat := 0
  deadline : Option Pos := none
  launch   : Option Ticks := none
  bus      : Option BusInfo := none
  jobSeq   : Nat := 0
deriving DecidableEq, Repr

/-- The mode that the next packet of a queue samples: glide, GLIDE_AUTH, GLIDE_THRESH, PKT_MAX_CELLS
(R17, R61, R74). -/
def sampleMode (q : Queue) (i : PktInfo) : Bool × Bool × Nat × Nat :=
  (qGlide q.w && !i.hold, qGlideAuth q.w, qThresh q.w, qPktMax q.w)

/-- Commit one cell against credit to the open packet, which the queue has (R65, R68). -/
def commitCell (n : Nat) (data : List Byte) (bad acked last : Bool) (s : State) : State :=
  match qGet s n with
  | none => s
  | some q =>
    match qOpen q with
    | none => s
    | some p =>
      let d0 := qDepth q
      let onDie := decide (q.creditSpill < q.credit)
      let cell : Cell := { index := pickIndex s.qm onDie, data := data, bad := bad, onDie := onDie,
                           acked := acked }
      let p := { p with cells := p.cells ++ [cell], bytes := p.bytes + data.length, closed := last,
                        acked := p.acked || acked }
      let (glide, _, th, _) := q.mode.getD (false, false, 0, 0)
      let seen := last || (glide && decide (th ≤ p.cells.length + p.released))
      let q := { q with credit := q.credit - 1, creditSpill := if onDie then q.creditSpill else q.creditSpill - 1,
                        mode := if last then none else q.mode }
      let (q', p') := if seen then makeVisible s.keel.frc q p else (q, p)
      let q' := { q' with pkts := putOpen p' q'.pkts }
      let s := qSet { s with qm := { s.qm with serial := s.qm.serial + 1 } } n q'
      regrant n (noteDepth n d0 s)

/-- Open a packet in queue `n` with what its producer attaches. -/
def openPkt (n : Nat) (i : PktInfo) (s : State) : State :=
  qMod n (fun q => { q with
    discard := 0
    mode := some (sampleMode q i)
    pkts := q.pkts ++ [{ seq := 0, cells := [], userTag := i.userTag, deadline := i.deadline, launch := i.launch,
                         bus := i.bus, jobSeq := i.jobSeq }] }) s

/-- A write without credit: OVERRUN and its count (R70). -/
def overrun (n : Nat) (s : State) : State :=
  qMod n (fun q => qFlag s.keel.frc 0 { q with overrunCells := q.overrunCells + 1 }) s

/-- The open packet is truncated; later cells of it are discarded unless this was its last (R71). -/
def truncate (n reason : Nat) (last : Bool) (s : State) : State :=
  let s := endOpen n reason (qMod n (qFlag s.keel.frc 2) s)
  qMod n (fun q => { q with discard := if last then 0 else 1 }) s

/-- A producer that writes one packet at a time writes a cell (R63, R68, R70, R71). A FIRST cell ends an open packet
whether or not there is credit for it (DESIGN CHOICE, log 73: R63 and R70 do not say which of them comes first). -/
def writeCell (n : Nat) (first last err bad acked : Bool) (data : List Byte) (i : PktInfo) (s : State) : State :=
  match qGet s n with
  | none => s
  | some q0 =>
    if q0.stopped || q0.blocked then s
    else
      let s := if first then endOpen n 3 s else s
      match qGet s n with
      | none => s
      | some q =>
        if first then
          if q.credit = 0 then overrun n s
          else
            let s := openPkt n i s
            if err && last then endOpen n 3 (commitCell n data bad acked false s)
            else commitCell n data bad acked last s
        else
          match qOpen q with
          | none =>
            if q.discard = 0 then qSet s n { q with orphans := q.orphans + 1 }
            else qSet s n { q with
              droppedCells := if q.discard = 2 then q.droppedCells + 1 else q.droppedCells
              discard := if last then 0 else q.discard }
          | some p =>
            let (_, _, _, top) := q.mode.getD (false, false, 0, 256)
            if top ≤ p.cells.length + p.released then truncate n 1 last s
            else if q.credit = 0 then truncate n 2 last (overrun n s)
            else if err && last then endOpen n 3 (commitCell n data bad acked false s)
            else commitCell n data bad acked last s

/-- The bytes of a packet in cells of 256 (R62). -/
def cellsOf : Nat → List Byte → List (List Byte)
  | 0, _ => []
  | k + 1, d => if d.length ≤ 256 then [d] else d.take 256 :: cellsOf k (d.drop 256)

/-- Cells that `n` bytes take. -/
def cellCount (n : Nat) : Nat := max 1 ((n + 255) / 256)

/-- A whole packet written against credit that the queue holds. -/
def writePacket (n : Nat) (data : List Byte) (acked : Bool) (i : PktInfo) (s : State) : State :=
  (cellsOf (data.length / 256 + 1) data).foldl (fun s d => commitCell n d false acked false s) (openPkt n i s)
    |> fun s => qMod n (fun q =>
      match qOpen q with
      | none => q
      | some p =>
        let (q', p') := makeVisible s.keel.frc q { p with closed := true }
        { q' with pkts := putOpen p' q'.pkts, mode := none }) s

/-- Does queue `n` hold credit for `k` cells? -/
def hasCredit (s : State) (n k : Nat) : Bool :=
  match qGet s n with
  | some q => decide (k ≤ q.credit) && !q.stopped && !q.blocked
  | none => false

/-- The packet at the head leaves the queue and its cells return to the pool. -/
def popHead (n : Nat) (s : State) : State :=
  match qGet s n with
  | none => s
  | some q =>
    match q.pkts with
    | [] => s
    | p :: r => qChange n p.cells (fun q => { q with pkts := r, peakAge := max q.peakAge (s.keel.frc - p.visFrc) }) s

/-- The packet with sequence number `seq` leaves the queue (R20, R81). -/
def removePkt (n seq : Nat) (s : State) : State :=
  match qGet s n with
  | none => s
  | some q =>
    match q.pkts.find? (fun p => p.visible && p.seq == seq) with
    | none => s
    | some p =>
      let age := if (qFirst q).map (fun x => x.seq) = some seq then s.keel.frc - p.visFrc else 0
      qChange n p.cells (fun q => { q with
        pkts := q.pkts.filter (fun x => !(x.visible && x.seq == seq)), peakAge := max q.peakAge age }) s

/-- Release the first unreleased cell of the head packet; a packet whose last cell is released and that
carries no marker leaves the queue (R66). -/
def releaseCell (n : Nat) (s : State) : State :=
  match qGet s n with
  | none => s
  | some q =>
    match q.pkts with
    | p :: r =>
      match p.cells with
      | c :: cs =>
        let p' := { p with cells := cs, released := p.released + 1, readN := p.readN - 1 }
        let gone := cs.isEmpty && p.closed && p.abort.isNone
        qChange n [c] (fun q => { q with
          pkts := if gone then r else p' :: r
          peakAge := if gone then max q.peakAge (s.keel.frc - p.visFrc) else q.peakAge }) s
      | [] => s
    | [] => s

/-- DROP_REST: the consumer's current packet ends (R73). -/
def dropRestOp (n : Nat) (s : State) : State :=
  match qGet s n with
  | none => s
  | some q =>
    match q.pkts with
    | p :: r =>
      if !p.visible then s
      else
        qChange n p.cells (fun q => { q with
          pkts := r
          awaitDrop := false
          discard := if p.closed then q.discard else 2
          mode := if p.closed then q.mode else none
          consumerDrops := if p.abort.isSome then q.consumerDrops else q.consumerDrops + 1
          peakAge := max q.peakAge (s.keel.frc - p.visFrc) }) s
    | [] => s

/-- A packet of the queue counted as lost (R78, R80). -/
def countLoss (frc k : Nat) (q : Queue) : Queue :=
  if k = 0 then q else qFlag frc 6 { q with loss := satAdd q.loss k (2 ^ 32 - 1) }

/-- Packets that hold accepted work: visible ones, others with a cell acknowledged (R86), and chains that have committed
and wait for an earlier one to be linked (R63, R116). -/
def acceptedPkts (q : Queue) : Nat :=
  q.pkts.countP (fun p => p.visible || p.acked) + q.chains.countP (fun c => c.slice.isSome)

/-- All cells that a queue holds. -/
def allCells (q : Queue) : List Cell := (q.pkts.map (fun p => p.cells)).flatten ++ (q.chains.map (fun c => c.cells)).flatten

/-- The queue is gone: its cells, credit and quota return, and its number is free (R86). -/
def freeQueue (n : Nat) (s : State) : State :=
  match qGet s n with
  | none => s
  | some q =>
    let m := poolReturn (freeCells (allCells q) s.qm) (q.credit - q.creditSpill) q.creditSpill
    let m := unrecord n { m with queues := tdel m.queues n, hists := tfilter m.hists (fun _ h => h.queue != n),
                                 waiters := m.waiters.filter (· != n) }
    { s with qm := grantWaiters m }

/-! ### Submission rings (16 R389) -/

/-- The SUBMIT response of entries of queue `n` (16 Table 16-11): `idx`, `seq` and `tag` are the last entry's. -/
def submitted (n : Nat) (st : Status) (idx seq count tag : Nat) (s : State) : State :=
  match qGet s n with
  | none => s
  | some q => respond (qFn q.w) false
      { tag := 0, status := st, kind := 1
        result := [Int.ofNat n, Int.ofNat idx, Int.ofNat seq, Int.ofNat count, 0, Int.ofNat tag] } s

/-- The response of an open batch is due. -/
def flushBatch (n : Nat) (s : State) : State :=
  match (qGet s n).bind (fun q => q.sub) with
  | none => s
  | some r =>
    if r.batchN = 0 then s
    else
      let s := submitted n .ok r.batchAt r.batchSeq r.batchN r.batchTag s
      qMod n (fun q => { q with sub := q.sub.map (fun r => { r with batchN := 0 }) }) s

/-- The values of QUEUE.STATS.READ (R84, Table 17-6). -/
def queueStats (s : State) (x : Queue) : List Int :=
  let age := qAge x s.keel.frc
  [Int.ofNat (qDepth x), Int.ofNat (max x.peakDepth (qDepth x)), Int.ofNat age, Int.ofNat (max x.peakAge age),
   Int.ofNat x.overrunCells, Int.ofNat x.rewound, Int.ofNat x.aborted, Int.ofNat x.droppedCells,
   Int.ofNat x.consumerDrops, Int.ofNat x.orphans, Int.ofNat x.secondDiscards, Int.ofNat (x.loss - x.lossBase)]

end Sys2Proof.Machine
end

