-- ==== Sys2Proof/Machine/Flags.lean ====
section
/-! DEFINITION. Flags, status words and pins as software and the board read them: queue STATUS, FN_ID,
FN_STATE and FN_CAPS, the fault sources' severities and status words, FAULT_OK, the FLT pair. -/

namespace Sys2Proof.Machine

/-! ### Queue status (03 Table 3-3) -/

/-- The STATUS word of a queue. -/
def statusWord (q : Queue) : Nat :=
  q.status % 256 + qLevel q * 2 ^ 16 + bit01 q.blocked * 2 ^ 18 + bit01 (qOpen q).isSome * 2 ^ 19 +
    bit01 q.awaitDrop * 2 ^ 20

/-- HEAD and TAIL: all ones when empty (Table 3-1). -/
def headIndex (q : Queue) : Nat :=
  match (q.pkts.map (fun p => p.cells)).flatten with
  | c :: _ => c.index % 2 ^ 25
  | [] => 2 ^ 25 - 1
def tailIndex (q : Queue) : Nat :=
  match (q.pkts.map (fun p => p.cells)).flatten.getLast? with
  | some c => c.index % 2 ^ 25
  | none => 2 ^ 25 - 1

/-! ### Function registers (16 Tables 16-3 to 16-5) -/

/-- ENGINE_STATE coding. -/
def engCode : EngState → Nat
  | .startHut => 0
  | .snowplough => 1
  | .piste => 2
  | .halted => 3

/-- FN_ID. -/
def fnIdWord (fn : Nat) : Nat := fn % 64 + Config.siliconStep * 256 + Config.part * 65536

/-- Does a function hold responses that await writing (REPLAY_PENDING; R392)? The PF's are those of the warden too. -/
def replayPending (s : State) (fn : Nat) : Bool :=
  !((fnGet s fn).mbx.held.isEmpty) || (fn == 0 && !(s.link.warden.held.isEmpty)) ||
    s.link.compl.any (fun w => match w with | .rsp f _ r => f == fn && r.replay | _ => false)

/-- FN_STATE. -/
def fnStateWord (s : State) (fn : Nat) : Nat :=
  let f := fnGet s fn
  engCode s.eng + bit01 f.mbx.ready * 4 + bit01 f.ringError * 8 + bit01 (replayPending s fn) * 16 +
    bit01 f.linkReset * 32 + bit01 f.mbx.evtLost * 64 + f.ringCode * 65536

/-- VECTORS of FN_CAPS: 256 for the PF, 28 for a VF. -/
def vectorsOf (fn : Nat) : Nat := if fn = 0 then 256 else 28

/-- FN_CAPS. -/
def fnCapsWord (fn : Nat) : Nat := vectorsOf fn + 8192 * 4096 + bit01 (fn == 0) * 2 ^ 26

/-! ### Fault sources (Tables 2-14, 3-5, 4-6, 8-11, 10-14, 11-5, 12-10, 15-11, 18-4, 19-2, 19-6) -/

/-- Sources locked to KEEL. -/
def sevLocked (src : Nat) : Bool := src == 0x004 || (decide (0x020 ≤ src) && decide (src ≤ 0x024))

/-- Severities by source, from the tables of the chapters: NOTE 0, FIXED 1, DEGRADED 2, STREAM_STOP 3,
ENGINE_STOP 4, KEEL 5. -/
def sevTable : List (Nat × Nat) :=
  [ (0x000, 2), (0x001, 2), (0x002, 0), (0x003, 2), (0x004, 5), (0x005, 0), (0x007, 0),
    (0x010, 2), (0x011, 4), (0x012, 0), (0x013, 0), (0x014, 2), (0x015, 3), (0x016, 0), (0x017, 0), (0x018, 0),
    (0x020, 5), (0x021, 5), (0x022, 5), (0x023, 5), (0x024, 5), (0x025, 0),
    (0x0C0, 3), (0x0C1, 3), (0x0C2, 0), (0x0C3, 1), (0x0C4, 4),
    (0x100, 1), (0x101, 0), (0x102, 1), (0x103, 3), (0x104, 3), (0x105, 2), (0x106, 1),
    (0x200, 0), (0x201, 2), (0x202, 0), (0x203, 0) ] ++
  [ (0x240, 0), (0x241, 0), (0x242, 2), (0x243, 2), (0x244, 0), (0x250, 2), (0x251, 0), (0x252, 2), (0x253, 2),
    (0x254, 0), (0x280, 0), (0x281, 0), (0x282, 0), (0x283, 0), (0x284, 0), (0x285, 1), (0x286, 1), (0x287, 2),
    (0x288, 0), (0x300, 0), (0x301, 0), (0x302, 0), (0x303, 0), (0x304, 2), (0x305, 2), (0x306, 0), (0x307, 0),
    (0x308, 2), (0x320, 0), (0x321, 0), (0x322, 2), (0x340, 0), (0x341, 0), (0x342, 0), (0x343, 2), (0x344, 4),
    (0x346, 1), (0x347, 4), (0x34A, 0), (0x3C8, 2), (0x3F0, 1), (0x3FE, 0), (0x3FF, 2) ]

/-- Severities of the eight sources of each core, by offset (Table 4-6). -/
def coreSev : Nat → Nat
  | 0 => 1
  | 1 => 1
  | 2 => 0
  | 3 => 1
  | 4 => 1
  | 5 => 2
  | 6 => 2
  | _ => 0

/-- Severities of a bus port's sources, by offset from the port base (Tables 10-14, 11-5). -/
def portSev : Nat → Nat
  | 0x00 => 0
  | 0x01 => 2
  | 0x02 => 0
  | 0x03 => 2
  | 0x04 => 2
  | 0x05 => 2
  | 0x20 => 2
  | 0x21 => 1
  | 0x22 => 0
  | 0x23 => 0
  | 0x24 => 1
  | _ => 0

/-- The default severity of a source. -/
def defSev (src : Nat) : Nat :=
  if 0x040 ≤ src ∧ src < 0x0C0 then coreSev (src % 8)
  else if 0x180 ≤ src ∧ src < 0x200 then portSev ((src - 0x180) % 0x40)
  else if 0x310 ≤ src ∧ src < 0x320 then 0
  else if 0x3C0 ≤ src ∧ src < 0x3C8 then 2
  else match sevTable.find? (fun e => e.1 == src) with
    | some e => e.2
    | none => 0

/-- Does some table list the source (18 R410)? -/
def srcListed (src : Nat) : Bool :=
  (decide (0x040 ≤ src) && decide (src < 0x0C0)) || (decide (0x310 ≤ src) && decide (src < 0x320)) ||
  (decide (0x3C0 ≤ src) && decide (src < 0x3C8)) ||
  (decide (0x180 ≤ src) && decide (src < 0x200) &&
    (decide ((src - 0x180) % 0x40 ≤ 5) || (decide (0x20 ≤ (src - 0x180) % 0x40) && decide ((src - 0x180) % 0x40 ≤ 0x24)))) ||
  sevTable.any (fun e => e.1 == src)

/-- The source's record of the collector. -/
def srcGet (s : State) (src : Nat) : Source := tgetD s.fc.srcs src {}

/-- The severity of a source now (R411). -/
def sevNow (s : State) (src : Nat) : Nat :=
  if sevLocked src then 5 else (srcGet s src).sev.getD (defSev src)

/-- The status word of a source (Table 18-7). -/
def srcWord (x : Source) : Nat :=
  x.count + bit01 x.verdict.isSome * 2 ^ 28 + bit01 x.transient * 2 ^ 29 + bit01 x.live * 2 ^ 30 +
    bit01 x.latched * 2 ^ 31

/-- The gravest latched severity that is at or above a threshold: is there one (R424)? -/
def latchedAt (s : State) (th : Nat) : Bool :=
  s.fc.srcs.any (fun e => e.2.latched && decide (th ≤ e.2.latchSev)) ||
    (s.keel.keelRec.isSome && decide (th ≤ 5))

/-- Would the output be high with this threshold (R424)? -/
def okWith (s : State) (th : Nat) : Bool :=
  (s.eng == .snowplough || s.eng == .piste) && !s.resetN && !(latchedAt s th)

/-- FAULT_OK: none is high-impedance (R424). -/
def faultOk (s : State) : Option Bool := if s.keel.powered then some (okWith s s.keel.faultOkTh) else none

/-- FLT_T and FLT_C: none is high-impedance (R427, Table 18-8). -/
def fltPair (s : State) : Option (Bool × Bool) :=
  if s.keel.powered && bitOf s.keel.xfEnable 4 then
    (if okWith s s.keel.fltTh then some (true, false) else some (false, true))
  else none

/-- BUS_WAKE is driven while a wake has been latched (09 R225). -/
def busWakePin (s : State) : Option Bool := if s.keel.powered then some s.keel.busWake else none

/-- Do S0_REFCLK and S1_REFCLK run? They are held low in every state but PISTE (20 R457, 19 Table 19-7). -/
def refclkRuns (s : State) : Bool := s.eng == .piste && s.keel.powered && !s.resetN

/-! ### The engine seen from outside (09 Table 9-8; 19 R447, Table 19-7) -/

/-- Is the keel unpowered, the main domain off, or RESET_N asserted? -/
def mainDown (s : State) : Bool := !s.keel.powered || s.resetN

/-- Is a port's termination switched in? TERM is held in the keel, and an unpowered keel leaves the pair open (09 R206, R224). -/
def termOn (s : State) (p : BusPort) : Bool := s.keel.powered && (match p with | .oa => s.keel.termA | .ob => s.keel.termB)

/-- The receivers that a port runs (09 Table 9-8). -/
def busReceivers (s : State) : Receivers :=
  if !s.keel.powered then .off
  else if s.resetN then .wake
  else match s.eng with
    | .startHut => .wake
    | .halted => .wake
    | .snowplough => .lines
    | .piste => .all

/-- May a port drive its pair: in service, enabled, its cut-off switch closed (09 R223, R224; 11 R288)? -/
def busDrives (s : State) (v : Port) : Bool := (s.eng == .snowplough || s.eng == .piste) && !(mainDown s) && v.enabled && !v.cutoff

/-- The host link: absent, training or present. -/
def hostSide (s : State) : HostSide :=
  if mainDown s then .absent
  else if s.eng == .halted || s.link.up && s.eng != .startHut then .present
  else .training

/-- Are xSPI and SMBus driven, SMBus released between its transfers? -/
def boardBuses (s : State) : Bool := !(mainDown s)

/-- SPI_RESET_N: low until 10 us after the deassertion of RESET_N, then released, and high from 510 us on; none is released
(20 R459, Table 20-8). -/
def spiResetN (s : State) : Option Bool :=
  if mainDown s then some false
  else match s.board.bootAt with
    | none => some false
    | some b =>
      if s.keel.frc < b + 10000 then some false
      else if s.keel.frc < b + 510000 then none
      else some true

/-- ADDRESS of an object (Table 18-2). -/
def addrOf (ty v : Nat) : Nat := ty * 2 ^ 36 + v
def addrQueue (n : Nat) : Nat := addrOf 1 n
def addrStream (n : Nat) : Nat := addrOf 2 n
def addrFlow (p : BusPort) (f : Nat) : Nat := addrOf 3 (portNum p * 65536 + f)
def addrAsset (fn tag : Nat) : Nat := addrOf 4 (fn * 65536 + tag)
def addrCore (c lane : Nat) : Nat := addrOf 5 (c * 16 + lane)
def addrPort (n : Nat) : Nat := addrOf 6 n
def addrFn (n : Nat) : Nat := addrOf 7 n
def addrMem (n : Nat) : Nat := addrOf 8 n
def addrPair (n : Nat) : Nat := addrOf 9 n

/-- Base of a bus port's fault sources (R293). -/
def portBase (p : BusPort) : Nat := match p with | .oa => 0x180 | .ob => 0x1C0

end Sys2Proof.Machine
end

