-- ==== Sys2Proof/Machine/Operands.lean ====
section
/-! DEFINITION. Operand forms: field records and their tables (17 R401-R403), job descriptors (04, 05,
07), submission entries (16) and the limits of codec levels (06 R152). -/

namespace Sys2Proof.Machine

/-! ### Field records -/

/-- The values that a field admits (R403). -/
inductive FRange
  | int (lo hi step : Int)
  | oneOf (l : List Int)
  | orNone (lo hi : Int)
  | listOf (most hi : Nat)
  | time
  | posOrTime
  | pos
  | any
deriving DecidableEq, Repr

/-- One field of a table: FIELD_ID, range, whether CREATE requires it, and whether it is fixed at
creation (R401). -/
structure FieldSpec where
  id    : Nat
  range : FRange
  req   : Bool := false
  fixed : Bool := false
deriving DecidableEq, Repr

/-- Does a value lie in a field's range? -/
def inRange : FRange → RVal → Bool
  | .int lo hi step, .num v => decide (lo ≤ v) && decide (v ≤ hi) && decide (Int.emod v (max 1 step) = 0)
  | .oneOf l, .num v => l.contains v
  | .orNone lo hi, .num v => decide (lo ≤ v) && decide (v ≤ hi)
  | .orNone _ _, .none_ => true
  | .listOf most hi, .list l => decide (l.length ≤ most) && l.all (fun n => decide (n ≤ hi))
  | .time, .time _ => true
  | .posOrTime, .time _ => true
  | .posOrTime, .pos _ => true
  | .pos, .pos _ => true
  | .any, _ => true
  | _, _ => false

/-- The specification of a field in some tables. -/
def specOf (specs : List FieldSpec) (id : Nat) : Option FieldSpec := specs.find? (fun f => f.id == id)

/-- No number appears twice. -/
def noDup : List Nat → Bool
  | [] => true
  | n :: r => !(r.contains n) && noDup r

/-- Records are well formed: every field known, given once, not held by the head, and in range; else
E_BADARG (R401). -/
def recsOk (specs : List FieldSpec) (recs : List Rec) : Except Status Unit :=
  need (noDup (recs.map (fun r => r.id)) &&
    recs.all (fun r => match specOf specs r.id with
      | some f => inRange f.range r.val
      | none => false)) .badArg

/-- The CREATE form gives every required field, or E_BADARG (R401). -/
def recsHave (specs : List FieldSpec) (recs : List Rec) : Except Status Unit :=
  need (specs.all (fun f => !f.req || recs.any (fun r => r.id == f.id))) .badArg

/-- The SET form names no field that is fixed at creation, or E_STATE (R401). -/
def recsFree (specs : List FieldSpec) (recs : List Rec) : Except Status Unit :=
  need (recs.all (fun r => match specOf specs r.id with
    | some f => !f.fixed
    | none => true)) .state

/-- Does a record command name a field? -/
def names (recs : List Rec) (id : Nat) : Bool := recs.any (fun r => r.id == id)

/-- OFF and ON. -/
def offOn : FRange := .oneOf [0, 1]

/-- Names coded by their position in the Range cell. -/
def enum (n : Nat) : FRange := .int 0 (Int.ofNat n - 1) 1

/-- A queue number. -/
def queueRange : FRange := .int 0 32767 1

/-! ### Stream fields (Tables 4-3, 5-3, 6-1, 7-2, 17-2) -/

/-- Dispatch fields. -/
def dispatchFields : List FieldSpec :=
  [ ⟨0x4301, .int 0 15 1, true, false⟩, ⟨0x4302, queueRange, true, true⟩, ⟨0x4303, enum 2, false, false⟩,
    ⟨0x4304, .int (-(2 ^ 47)) (2 ^ 47 - 1) 1, false, false⟩, ⟨0x4305, .int 0 65535 1, false, false⟩,
    ⟨0x4306, .int (-(2 ^ 31)) (2 ^ 31 - 1) 1, false, false⟩, ⟨0x4307, .int 1 16 1, false, false⟩,
    ⟨0x4308, .int 0 4095 1, false, false⟩, ⟨0x4309, .oneOf [0, 2, 4, 8], false, false⟩,
    ⟨0x430A, .int 8 264 1, false, false⟩ ]

/-- KIND and STREAM of STREAM.CREATE. -/
def createFields : List FieldSpec :=
  [ ⟨0x0001, .oneOf [0, 1, 2], true, true⟩, ⟨0x0002, .orNone 0 4095, false, true⟩ ]

/-- Encode fields. -/
def encFields : List FieldSpec :=
  [ ⟨0x5301, enum 2, true, true⟩, ⟨0x5302, .int 0 2 1, true, true⟩, ⟨0x5303, enum 2, false, true⟩,
    ⟨0x5304, .int 10 63 1, true, true⟩, ⟨0x5305, .int 128 8192 2, true, true⟩,
    ⟨0x5306, .int 64 4352 2, true, true⟩, ⟨0x5307, .oneOf [8, 10], false, true⟩,
    ⟨0x5308, enum 2, false, true⟩, ⟨0x5309, enum 5, false, true⟩, ⟨0x530A, enum 2, false, true⟩,
    ⟨0x530B, enum 2, false, true⟩, ⟨0x530C, .orNone 0 4095, false, true⟩, ⟨0x530D, .int 1 8 1, false, true⟩,
    ⟨0x530E, enum 2, false, true⟩, ⟨0x530F, .int 1 65535 1, false, false⟩, ⟨0x5310, .int 2 256 1, false, false⟩,
    ⟨0x5311, .int 1 3 1, false, false⟩, ⟨0x5312, .int 32 4352 32, true, true⟩, ⟨0x5313, .int 1 8 1, false, true⟩,
    ⟨0x5314, .oneOf [32, 64], false, true⟩, ⟨0x5315, offOn, false, true⟩, ⟨0x5316, .int 16 512 16, false, false⟩,
    ⟨0x5317, .int 16 256 16, false, false⟩, ⟨0x5318, offOn, false, false⟩, ⟨0x5319, queueRange, true, true⟩,
    ⟨0x531A, enum 2, false, true⟩, ⟨0x531B, enum 2, false, false⟩, ⟨0x531C, enum 2, false, false⟩,
    ⟨0x531D, .int 1 24 1, false, false⟩ ]

/-- Rate-control fields; HOSTFN of LB_SHAPER is the value none. -/
def rcFields : List FieldSpec :=
  [ ⟨0x6101, enum 6, false, false⟩, ⟨0x6102, .int 10000 4294967295 1, false, false⟩,
    ⟨0x6103, .int 10000 4294967295 1, false, false⟩, ⟨0x6104, .int 8000 4294967295 1, false, false⟩,
    ⟨0x6105, .int (-12) 255 1, false, false⟩, ⟨0x6106, .int (-12) 255 1, false, false⟩,
    ⟨0x6107, .int (-12) 255 1, false, false⟩, ⟨0x6108, .int (-12) 255 1, false, false⟩,
    ⟨0x6109, .int (-12) 255 1, false, false⟩, ⟨0x610A, .int 1 255 1, false, false⟩,
    ⟨0x610B, .int (-12) 255 1, false, true⟩, ⟨0x610C, offOn, false, false⟩, ⟨0x610D, .int 1 60 1, false, false⟩,
    ⟨0x610E, .int 0 8 1, false, true⟩, ⟨0x610F, .int 1 4095 1, false, false⟩, ⟨0x6110, offOn, false, true⟩,
    ⟨0x6111, .orNone 0 4095, false, false⟩, ⟨0x6112, .int 0 4095 1, false, false⟩,
    ⟨0x6113, .int 8 16 1, false, false⟩, ⟨0x6114, queueRange, false, false⟩ ]

/-- Decode fields. -/
def decFields : List FieldSpec :=
  [ ⟨0x7201, enum 3, true, true⟩, ⟨0x7202, enum 3, true, true⟩, ⟨0x7203, enum 2, false, true⟩,
    ⟨0x7204, .int 10 63 1, true, true⟩, ⟨0x7205, .int 1 8192 1, true, true⟩, ⟨0x7206, .int 1 4352 1, true, true⟩,
    ⟨0x7207, enum 2, false, true⟩, ⟨0x7208, queueRange, false, true⟩,
    ⟨0x7209, .int 1048576 67108864 1048576, false, true⟩, ⟨0x720A, .int 16 4352 16, false, true⟩,
    ⟨0x720B, enum 2, false, true⟩, ⟨0x720C, .int 0 31 1, false, true⟩, ⟨0x720D, enum 2, false, true⟩,
    ⟨0x720E, enum 5, false, false⟩, ⟨0x720F, .int 0 (2 ^ 64 - 1) 64, false, false⟩,
    ⟨0x7210, .int 64 4294967295 64, false, false⟩, ⟨0x7211, .int 0 4294967295 64, false, false⟩,
    ⟨0x7212, .int 4096 4294967295 4096, false, false⟩, ⟨0x7213, .int 2 16 1, false, false⟩,
    ⟨0x7214, .orNone 0 32767, false, true⟩, ⟨0x7215, enum 4, false, false⟩, ⟨0x7216, queueRange, false, false⟩,
    ⟨0x7217, enum 3, false, false⟩, ⟨0x7218, .int 0 4095 1, false, false⟩, ⟨0x7219, offOn, false, false⟩,
    ⟨0x721A, .orNone 0 65535, false, false⟩, ⟨0x721B, .orNone 0 32767, false, false⟩,
    ⟨0x721C, .orNone 0 4095, false, false⟩, ⟨0x721D, .int 0 1000 1, false, false⟩ ]

/-! ### Codec levels (5-1, 7-1, R152); the standards' own tables, log 21 -/

/-- One level: LEVEL code, largest picture in luma samples, luma samples a second, bit rate and buffer
of the Main tier and of the High tier in bits, and slice segments a picture. -/
structure Level where
  code  : Nat
  ps    : Nat
  sr    : Nat
  brM   : Nat
  cpbM  : Nat
  brH   : Nat
  cpbH  : Nat
  slices : Nat
deriving DecidableEq, Repr

/-- AV1 levels; the buffer is one second at the bit rate, and 64 tile rows bound the slices. -/
def av1Levels : List Level :=
  [ ⟨20, 147456, 4423680, 1500000, 1500000, 0, 0, 64⟩, ⟨21, 278784, 8363520, 3000000, 3000000, 0, 0, 64⟩,
    ⟨30, 665856, 19975680, 6000000, 6000000, 0, 0, 64⟩, ⟨31, 1065024, 31950720, 10000000, 10000000, 0, 0, 64⟩,
    ⟨40, 2359296, 70778880, 12000000, 12000000, 0, 0, 64⟩, ⟨41, 2359296, 141557760, 20000000, 20000000, 0, 0, 64⟩,
    ⟨50, 8912896, 267386880, 30000000, 30000000, 0, 0, 64⟩, ⟨51, 8912896, 534773760, 40000000, 40000000, 0, 0, 64⟩,
    ⟨52, 8912896, 1069547520, 60000000, 60000000, 0, 0, 64⟩, ⟨53, 8912896, 1069547520, 60000000, 60000000, 0, 0, 64⟩,
    ⟨60, 35651584, 1069547520, 60000000, 60000000, 0, 0, 64⟩, ⟨61, 35651584, 2139095040, 100000000, 100000000, 0, 0, 64⟩,
    ⟨62, 35651584, 4278190080, 160000000, 160000000, 0, 0, 64⟩, ⟨63, 35651584, 4278190080, 160000000, 160000000, 0, 0, 64⟩ ]

/-- HEVC levels, MaxBR and MaxCPB times the NAL factor 1,100 (R152). -/
def hevcLevels : List Level :=
  [ ⟨10, 36864, 552960, 140800, 385000, 0, 0, 16⟩, ⟨20, 122880, 3686400, 1650000, 1650000, 0, 0, 16⟩,
    ⟨21, 245760, 7372800, 3300000, 3300000, 0, 0, 20⟩, ⟨30, 552960, 16588800, 6600000, 6600000, 0, 0, 30⟩,
    ⟨31, 983040, 33177600, 11000000, 11000000, 0, 0, 40⟩,
    ⟨40, 2228224, 66846720, 13200000, 13200000, 33000000, 33000000, 75⟩,
    ⟨41, 2228224, 133693440, 22000000, 22000000, 55000000, 55000000, 75⟩,
    ⟨50, 8912896, 267386880, 27500000, 27500000, 110000000, 110000000, 200⟩,
    ⟨51, 8912896, 534773760, 44000000, 44000000, 176000000, 176000000, 200⟩,
    ⟨52, 8912896, 1069547520, 66000000, 66000000, 264000000, 264000000, 200⟩,
    ⟨60, 35651584, 1069547520, 66000000, 66000000, 264000000, 264000000, 600⟩,
    ⟨61, 35651584, 2139095040, 132000000, 132000000, 528000000, 528000000, 600⟩,
    ⟨62, 35651584, 4278190080, 264000000, 264000000, 880000000, 880000000, 600⟩ ]

/-- AVC levels that a decode stream may name (Table 7-1: highest level 5.2). -/
def avcLevels : List Nat := [10, 11, 12, 13, 20, 21, 22, 30, 31, 32, 40, 41, 42, 50, 51, 52]

/-- The level of a codec (AV1 0, HEVC 1). -/
def levelOf (codec code : Nat) : Option Level :=
  (if codec = 0 then av1Levels else hevcLevels).find? (fun l => l.code == code)

/-- A stream's codec, level and tier from its fields. -/
def encLevel (f : Tbl RVal) : Option Level := levelOf (fnat f 0x5301 0) (fnat f 0x5304 0)
def encHigh (f : Tbl RVal) : Bool := fnat f 0x5301 0 == 1 && fnat f 0x5303 0 == 1

/-- Largest bit rate and buffer of the stream's level and tier (R152). -/
def levelRate (f : Tbl RVal) : Nat :=
  match encLevel f with
  | some l => if encHigh f then l.brH else l.brM
  | none => 0
def levelBuf (f : Tbl RVal) : Nat :=
  match encLevel f with
  | some l => if encHigh f then l.cpbH else l.cpbM
  | none => 0

/-- Lowest and highest QP of the codec at its bit depth (06, quantities). -/
def qpLow (f : Tbl RVal) : Int := if fnat f 0x5301 0 = 0 then 1 else -6 * (fnum f 0x5307 10 - 8)
def qpHigh (f : Tbl RVal) : Int := if fnat f 0x5301 0 = 0 then 255 else 51

/-- The fallback bound of R130 for `p` luma samples. -/
def fallbackBound (p : Nat) : Nat := 288 + (p + 127) / 128

/-! ### Job descriptors (Tables 4-4, 5-5, 7-4a) -/

/-- A job descriptor as read. -/
structure JobDesc where
  kind     : Nat
  held     : Bool
  dlValid  : Bool
  noReissue : Bool
  eop      : Bool
  rsvdOk   : Bool
  picture  : Nat
  first    : Nat
  count    : Nat
  slice    : Nat
  dl       : Pos
  userTag  : Nat
  addr     : Nat
  hint     : Nat
  pitch    : Nat
  chroma   : Nat
  flags    : Nat
  bsBytes  : Nat
  encRsvdOk : Bool
  decRsvdOk : Bool
deriving DecidableEq, Repr

/-- The fields of a 64-byte descriptor. -/
def parseJob (b : List Byte) : JobDesc :=
  let c := leAt b 0 4
  { kind := c % 16
    held := bitOf c 8
    dlValid := bitOf c 9
    noReissue := bitOf c 10
    eop := bitOf c 11
    rsvdOk := (c / 16) % 16 == 0 && c / 4096 == 0 && leAt b 14 2 == 0 && leAt b 26 2 == 0
    picture := leAt b 4 4
    first := leAt b 8 2
    count := leAt b 10 2
    slice := leAt b 12 2
    dl := ⟨leAt b 16 6, leAt b 22 2, leAt b 24 2⟩
    userTag := leAt b 28 4
    addr := leAt b 32 8
    hint := leAt b 40 8
    pitch := leAt b 48 3
    chroma := leAt b 52 4
    flags := leAt b 56 2
    bsBytes := leAt b 40 4
    encRsvdOk := leAt b 51 1 == 0 && leAt b 56 2 < 16 && leAt b 58 6 == 0
    decRsvdOk := leAt b 48 2 < 4 && leAt b 50 14 == 0 && leAt b 32 8 % 16 == 0 }

/-- DEC_FLAGS bit 1: decode for reference only (Table 7-4a). -/
def jobNoOutput (b : List Byte) : Bool := bitOf (leAt b 48 2) 1

/-- BS_CRC, where CRC_VALID (DEC_FLAGS bit 0) is set. -/
def jobCrc (b : List Byte) : Option Nat := if bitOf (leAt b 48 2) 0 then some (leAt b 44 4) else none

/-! ### Submission entries (16 Table 16-12) -/

/-- A GATHER entry as read. -/
structure GatherEntry where
  addr   : Nat
  bytes  : Nat
  dlOn   : Bool
  ltOn   : Bool
  rsvdOk : Bool
  dl     : Pos
  userTag : Nat
  launch : Ticks
deriving DecidableEq, Repr

/-- A 14-byte time: seconds, nanoseconds, fraction (Table 2-1). -/
def timeAt (b : List Byte) (off : Nat) : Ticks :=
  (Int.ofNat (leAt b off 8) * 1000000000 + Int.ofNat (leAt b (off + 8) 4)) * 65536 + Int.ofNat (leAt b (off + 12) 2)

/-- The fields of a 64-byte GATHER entry. -/
def parseGather (b : List Byte) : GatherEntry :=
  let g := leAt b 12 4
  { addr := leAt b 0 8
    bytes := leAt b 8 4
    dlOn := bitOf g 0
    ltOn := bitOf g 1
    rsvdOk := g < 4 && leAt b 26 2 == 0 && leAt b 46 18 == 0
    dl := ⟨leAt b 16 6, leAt b 22 2, leAt b 24 2⟩
    userTag := leAt b 28 4
    launch := timeAt b 32 }

/-! ### Host rate-control entries (06 Table 6-3) -/

/-- A 16-bit two's complement number. -/
def signed16 (n : Nat) : Int := if n < 32768 then Int.ofNat n else Int.ofNat n - 65536

/-- A host rate-control entry. -/
structure RcEntry where
  picture : Nat
  slice   : Nat
  kind    : Nat
  qp      : Int
  budget  : Nat
  minQp   : Int
  maxQp   : Int
  rsvdOk  : Bool
deriving DecidableEq, Repr

/-- The fields of a 64-byte host rate-control entry. -/
def parseRc (b : List Byte) : RcEntry :=
  { picture := leAt b 0 4
    slice := leAt b 4 2
    kind := leAt b 6 2
    qp := signed16 (leAt b 8 2)
    budget := leAt b 12 4
    minQp := signed16 (leAt b 16 2)
    maxQp := signed16 (leAt b 18 2)
    rsvdOk := leAt b 10 2 == 0 && leAt b 20 44 == 0 }

end Sys2Proof.Machine
end

