-- ==== Sys2Proof/Machine/StreamOps.lean ====
section
/-! DEFINITION. Operations on streams, jobs, runs and staged chains that several families share
(04, 05, 07), and the stopping of a stream, queue, flow or asset request (18 R413). -/

namespace Sys2Proof.Machine

/-! ### Streams and jobs -/

/-- Stream `n`. -/
def stGet (s : State) (n : Nat) : Option Stream := tget s.arr.streams n

/-- The state with stream `n` replaced. -/
def stSet (s : State) (n : Nat) (x : Stream) : State :=
  { s with arr := { s.arr with streams := tput s.arr.streams n x } }

/-- Stream `n` changed by `f`, where it exists. -/
def stMod (n : Nat) (f : Stream → Stream) (s : State) : State :=
  match stGet s n with
  | none => s
  | some x => stSet s n (f x)

/-- Core `c`. -/
def coreGet (s : State) (c : Nat) : Core := tgetD s.arr.cores c {}

/-- The state with core `c` replaced. -/
def coreSet (s : State) (c : Nat) (x : Core) : State :=
  { s with arr := { s.arr with cores := tput s.arr.cores c x } }

/-- A counter of a stream raised by `d`. -/
def stCount (n ctr d : Nat) (s : State) : State := stMod n (fun x => { x with ctr := cinc x.ctr ctr d }) s

/-- Counter numbers of a stream: Table 5-9 (0-7), Table 6-4 (16-21), Table 7-8 (32-51), and the common
ones of STREAM.STATS.READ (64-67). -/
def ctrOverflow : Nat := 0
def ctrFallback : Nat := 1
def ctrSrcErr : Nat := 2
def ctrHintErr : Nat := 3
def ctrLateCommit : Nat := 4
def ctrRecovReq : Nat := 5
def ctrRecovMerged : Nat := 6
def ctrKeyPics : Nat := 7
def ctrBytesOut : Nat := 8
def ctrCapRetry : Nat := 16
def ctrStarved : Nat := 17
def ctrHostStale : Nat := 18
def ctrLaRel : Nat := 19
def ctrFiller : Nat := 20
def ctrCharged : Nat := 21
def ctrDamage (kind : Nat) : Nat := 32 + kind
def ctrConcealed : Nat := 44
def ctrDecLate : Nat := 45
def ctrLateWrites : Nat := 46
def ctrLateDisc : Nat := 47
def ctrDup : Nat := 48
def ctrHintMiss : Nat := 49
def ctrRecovSent : Nat := 50
def ctrDirtyPics : Nat := 51
def ctrLateDisp : Nat := 64
def ctrDiscards : Nat := 65
def ctrRequeues : Nat := 66
def ctrHostMiss : Nat := 67

/-- The job queue of a stream; a texture stream's is kept in the same field. -/
def jobQueue (x : Stream) : Nat := fnat x.f 0x4302 0

/-- The fall line of a stream. -/
def stFl (x : Stream) : Nat := fnat x.f 0x4301 0

/-- The queue that a stream's runs write (R113); a decode stream's runs write none. -/
def outQueue (x : Stream) : Option Nat :=
  match x.kind with
  | .encode => fopt x.f 0x5319
  | .texture => fopt x.f 0x5319
  | .decode => none

/-- Does the stream take its work from the host: SOURCE HOST, INPUT HOST (R116, R159)? -/
def fromHost (x : Stream) : Bool :=
  match x.kind with
  | .encode => fnat x.f 0x5308 0 == 0
  | .decode => fnat x.f 0x7207 0 == 0
  | .texture => false

/-- Height and width of a stream's pictures. -/
def stHeight (x : Stream) : Nat :=
  match x.kind with
  | .encode => fnat x.f 0x5306 0
  | .decode => if x.dec.height = 0 then fnat x.f 0x7206 0 else x.dec.height
  | .texture => 65535
def stWidth (x : Stream) : Nat :=
  match x.kind with
  | .encode => fnat x.f 0x5305 0
  | .decode => fnat x.f 0x7205 0
  | .texture => 1

/-- Pixels of a job. -/
def jobPixels (x : Stream) (j : Job) : Nat := stWidth x * j.count

/-- Job `seq` of a stream. -/
def jobGet (x : Stream) (seq : Nat) : Option Job := x.jobs.find? (fun j => j.seq == seq)

/-- The jobs with job `seq` changed by `f`. -/
def jobMod (seq : Nat) (f : Job → Job) (l : List Job) : List Job := l.map (fun j => if j.seq == seq then f j else j)

/-- Job `seq` of stream `n` changed by `f`. -/
def setJob (n seq : Nat) (f : Job → Job) (s : State) : State :=
  stMod n (fun x => { x with jobs := jobMod seq f x.jobs }) s

/-- The stream whose job queue is `q`, with its number. -/
def streamOfQueue (s : State) (q : Nat) : Option (Nat × Stream) :=
  s.arr.streams.find? (fun e => e.2.kind != .texture && jobQueue e.2 == q)

/-! ### Sampled fields (01 R17) -/

/-- Fields of class "next picture", which a picture samples at its first dispatch (R17). -/
def nextPictureFields : List Nat :=
  [0x530F, 0x5311, 0x5318, 0x6101, 0x6102, 0x6103, 0x6104, 0x6105, 0x6106, 0x6107, 0x610D, 0x720E, 0x720F, 0x7210,
   0x7211, 0x7212, 0x7213, 0x7219]

/-- Fields of class "next job" that a job samples at its acceptance, and those of the rate control, which it samples at
its decision (R17, 06 R154). -/
def jobFields : List Nat :=
  [0x4301, 0x4303, 0x4304, 0x4305, 0x4306, 0x4309, 0x430A, 0x5316, 0x5317, 0x531C, 0x531D, 0x610F, 0x7217, 0x7218]
def rcJobFields : List Nat := [0x6108, 0x6109, 0x610A, 0x610C, 0x6111, 0x6112, 0x6113, 0x6114]

/-- The fields with those of `ids` as a snapshot holds them. -/
def overlay (ids : List Nat) (base snap : Tbl RVal) : Tbl RVal :=
  ids.foldl (fun f id => match tget snap id with | some v => tput f id v | none => tdel f id) base

/-- The snapshot that a sample of `ids` takes. -/
def sampled (ids : List Nat) (f : Tbl RVal) : Tbl RVal := f.filter (fun e => ids.contains e.1)

/-- The stream as a picture samples it. -/
def picView (x : Stream) (picture : Nat) : Stream :=
  match tget x.picF picture with
  | some f => { x with f := overlay nextPictureFields x.f f }
  | none => x

/-- The stream as a job samples it. -/
def jobView (x : Stream) (j : Job) : Stream :=
  let x := picView x j.picture
  match j.f with
  | some f => { x with f := overlay (if j.qp.isSome then jobFields ++ rcJobFields else jobFields) x.f f }
  | none => x

/-- The fall line of a job: the one that its stream named when the job was accepted. -/
def jobFl (x : Stream) (j : Job) : Nat := stFl (jobView x j)

/-- The FRC instant at which the active view reads `tau`, from a first guess: since its rate is within 0.2 % of the
FRC's, each step leaves a small part of the error before (R30). -/
def invertActive (k : Keel) (tau : Ticks) : Nat → Ticks → Ticks
  | 0, x => x
  | n + 1, x => invertActive k tau n (x + (tau - activeAt k x))

/-- The FRC value at which a deadline falls: R48, then R30 for the active view (R94). -/
def frcOfActive (s : State) (tau : Ticks) : Int := Int.fdiv (invertActive s.keel tau 8 (frcTicks s) + 65535) tickNs

/-- The dispatch key of a job: the FRC value of its deadline (R94), or, for a texture chunk, of its acceptance plus
ASSET_HORIZON (R108). A fall line that gives no position leaves the key as it was. -/
def keyOf (s : State) (x : Stream) (j : Job) : Nat :=
  match x.kind with
  | .texture => j.born + s.arr.horizon * 1000
  | _ =>
    match j.deadline.bind (posTime s (jobFl x j)) with
    | some tau => (frcOfActive s tau).toNat
    | none => j.key

/-- Every job of fall line `fl` takes its key anew (R94). -/
def rekey (fl : Nat) (s : State) : State :=
  { s with arr := { s.arr with streams := tmap s.arr.streams (fun _ x =>
      { x with jobs := x.jobs.map (fun j =>
          if x.kind != .texture && jobFl x j == fl then { j with key := keyOf s x j } else j) }) } }

/-- Every texture chunk that waits takes its key anew (R108). -/
def rekeyTextures (s : State) : State :=
  { s with arr := { s.arr with streams := tmap s.arr.streams (fun _ x =>
      if x.kind == .texture then { x with jobs := x.jobs.map (fun j => { j with key := keyOf s x j }) } else x) } }

/-- Every key of the streams on SYNTH and RELAY fall lines is computed anew, as after a local step (R94). -/
def rekeyRasters (s : State) : State :=
  (List.range 16).foldl (fun s n =>
    if flSource (flGet s n) = 1 ∨ flSource (flGet s n) = 2 then rekey n s else s) s

/-! ### Completions of jobs -/

/-- The JOB_COMMITTED completion of a job of a host stream (R116, 16 Table 16-11). -/
def jobCommitted (x : Stream) (j : Job) (st : Status) (s : State) : State :=
  if j.host then
    respond x.owner false
      { tag := 0, status := st, kind := 2, result := [jobQueue x, j.sub, j.seq, 1, 0, j.userTag] } s
  else s

/-! ### Chains -/

/-- The chain of a job's run on a core, in queue `q`, is freed (R81, R101). -/
def freeChain (q job core : Nat) (s : State) : State :=
  match qGet s q with
  | none => s
  | some x =>
    let gone := x.chains.filter (fun c => c.job == job && c.core == core)
    qChange q (gone.map (fun c => c.cells)).flatten
      (fun x => { x with chains := x.chains.filter (fun c => !(c.job == job && c.core == core)) }) s

/-- The 32 bytes of a slice record (Table 5-8). -/
def sliceBytes (r : SliceRec) : List Byte :=
  leBytes 4 r.jobSeq ++ leBytes 4 r.picture ++ leBytes 2 r.slice ++ leBytes 2 r.flags ++ leBytes 4 r.bytes ++
    leBytes 4 r.userTag ++ leBytes 2 (Int.emod r.qpAvg 65536).toNat ++ leBytes 2 r.status ++ leBytes 1 r.retries ++
    leBytes 3 0 ++ leBytes 4 (min r.runNs (2 ^ 32 - 1))

/-- A whole staged chain becomes a visible packet of the queue (R81). -/
def linkWhole (q : Nat) (c : Chain) (s : State) : State :=
  match qGet s q with
  | none => s
  | some y =>
    let d0 := qDepth y
    let p : Pkt := { seq := 0, cells := c.cells, bytes := (c.cells.map (fun e => e.data.length)).sum, closed := true,
                     userTag := (c.slice.map (fun r => r.userTag)).getD 0, deadline := c.deadline, slice := c.slice,
                     jobSeq := c.job, acked := true }
    let (y, p) := makeVisible s.keel.frc { y with chains := y.chains.filter (fun e => !(e.job == c.job && e.core == c.core)) } p
    noteDepth q d0 (qSet s q { y with pkts := y.pkts ++ [p] })

/-- A committed chain is linked; a job-result record is written in its place, against one cell of credit (04 R104). -/
def linkOne (q : Nat) (c : Chain) (s : State) : State :=
  match c.slice with
  | none => s
  | some r =>
    if c.core = 16 then
      writePacket q (sliceBytes r) true { userTag := r.userTag, deadline := c.deadline, jobSeq := c.job }
        (qMod q (fun y => { y with chains := y.chains.filter (fun e => !(e.job == c.job && e.core == 16)) }) s)
    else linkWhole q c s

/-- A chain put among committed ones in job sequence order. -/
def insertChain (c : Chain) : List Chain → List Chain
  | [] => [c]
  | d :: r => if later32 d.job c.job then c :: d :: r else d :: insertChain c r

/-- The chains that have committed and wait for jobs that are gone are linked in job sequence order, so that a committed
job's output is never lost (R5, R63). A BLOCKED queue links them when it is rebuilt. -/
def linkCommitted (q : Nat) (s : State) : State :=
  match qGet s q with
  | none => s
  | some y =>
    if y.blocked then s
    else ((y.chains.filter (fun c => c.slice.isSome)).foldr insertChain []).foldl
      (fun s c => if c.core != 16 || hasCredit s q 1 then linkOne q c s else s) s

/-- What a run has written goes: its chain is freed, and a packet it is linking receives an abort
marker PRODUCER_ABORT, or vanishes where it is not visible yet (R101). -/
def dropOutput (x : Stream) (r : Run) (core : Nat) (s : State) : State :=
  match outQueue x with
  | none => s
  | some q =>
    let s := freeChain q r.job core s
    if r.linking then
      match (qGet s q).bind qOpen with
      | some p => if p.jobSeq == r.job then endOpen q 3 s else s
      | none => s
    else s

/-- A run ends without a commit: its output goes, its core is free, and its job keeps the other run or
waits to be dispatched again. -/
def endRun (core : Nat) (s : State) : State :=
  let c := coreGet s core
  match c.run with
  | none => s
  | some r =>
    let s := coreSet s core { c with run := none, busyNs := c.busyNs + (s.keel.frc - r.busyFrom) }
    match stGet s r.stream with
    | none => s
    | some x =>
      let s := dropOutput x r core s
      setJob r.stream r.job (fun j => { j with st := if j.st == .running2 then .running else .eligible }) s

/-- Cores with a run of a stream. -/
def coresOf (s : State) (n : Nat) : List Nat :=
  (List.range 16).filter (fun c => match (coreGet s c).run with | some r => r.stream == n | none => false)

/-- Every run of a stream ends. -/
def endRuns (n : Nat) (s : State) : State := (coresOf s n).foldl (fun s c => endRun c s) s

/-- Every accepted job of a stream ends with E_CANCELLED: one with a completion due receives it, and the
number of the others is returned (R5, R413). -/
def cancelJobs (n : Nat) (s : State) : State × Nat :=
  match stGet s n with
  | none => (s, 0)
  | some x =>
    let s := endRuns n s
    let s := x.jobs.foldl (fun s j => jobCommitted x j .cancelled s) s
    let s := match outQueue x with
      | some q => linkCommitted q s
      | none => s
    (stMod n (fun x => { x with jobs := [] }) s, x.jobs.countP (fun j => !j.host))

/-! ### Stopping objects (R413) -/

/-- A stream is stopped: its jobs end, and it accepts and dispatches no more. -/
def stopStream (n : Nat) (s : State) : State :=
  match stGet s n with
  | none => s
  | some _ =>
    let (s, k) := cancelJobs n s
    stMod n (fun x => { x with stopped := true, cancelled := x.cancelled + k,
                               dec := { x.dec with running := false, areas := [] } }) s

/-- A queue is stopped: its undelivered work ends, and its cells stay readable. -/
def stopQueue (n : Nat) (s : State) : State :=
  match qGet s n with
  | none => s
  | some q =>
    let k := acceptedPkts q
    let (s, told) :=
      match streamOfQueue s n with
      | some (i, x) => ((cancelJobs i s).1, x.jobs.countP (fun j => j.host))
      | none => (s, 0)
    qMod n (fun q => { q with stopped := true, cancelled := q.cancelled + (k - told) }) s

/-- A flow is stopped: a TX flow enters STALLED, an RX flow answers NAK REFUSED from now on. -/
def stopFlow (p : BusPort) (n : Nat) (s : State) : State :=
  let v := portGet s p
  match tget v.tx n, tget v.rx n with
  | none, none => s
  | tx, rx =>
    let waiting := match tx.bind (fun f => (fopt f.f 0xA903).bind (qGet s)) with
      | some q => acceptedPkts q
      | none => 0
    let tx' := match tx with
      | some f => tput v.tx n { f with stopped := true, stalled := some (f.stalled.getD 0),
                                       cancelled := f.cancelled + waiting }
      | none => v.tx
    let rx' := match rx with
      | some f => tput v.rx n { f with stopped := true }
      | none => v.rx
    setPort s p { v with tx := tx', rx := rx' }

/-- An asset request is stopped: it reads and decompresses no more, and ends with E_CANCELLED (R189). -/
def stopAsset (fn tag : Nat) (s : State) : State :=
  { s with asset := { s.asset with reqs := tmap s.asset.reqs (fun _ r =>
      if r.h.fn == fn && r.h.tag == tag then { r with stopped := true, status := .cancelled } else r) } }

/-- The counters of Tables 5-9 and 6-4, or 7-8, then the common ones (17 Table 17-7). -/
def streamCounters (s : State) (x : Stream) : List Nat :=
  let g := fun (i : Nat) => tgetD x.ctr i 0
  (match x.kind with
   | .decode => ((List.range 10).map (fun i => g (ctrDamage (i + 1)))) ++
       [g ctrConcealed, g ctrDecLate, g ctrLateWrites, g ctrLateDisc, g ctrDup, g ctrHintMiss, g ctrHostMiss,
        g ctrRecovSent, s.arr.recoverDrops, g ctrDirtyPics]
   | _ => ((List.range 9).map g) ++ ((List.range 6).map (fun i => g (16 + i)))) ++
  [g ctrLateDisp, g ctrDiscards, g ctrRequeues, g ctrHostMiss, x.rate]

end Sys2Proof.Machine
end

