-- ==== Sys2Proof/Machine/FaultOps.lean ====
section
/-! DEFINITION. The fault collector (18): raises, END, records and their ranking, the reactions, and the
halting of the engine (18 R414, 15 R375). -/

namespace Sys2Proof.Machine

/-! ### Halting -/

/-- What ENGINE_STOP and ENGINE.RESET quiesce (R414, R437): runs end without charge and without a count,
and each bus port is disabled as R223 states. Jobs stay in their queues. -/
def quiesce (s : State) : State :=
  let s := (List.range 16).foldl (fun s c => endRun c s) s
  { s with bus := { s.bus with oa := { s.bus.oa with closing := s.bus.oa.enabled }
                               ob := { s.bus.ob with closing := s.bus.ob.enabled } } }

/-- ENGINE_STOP: the engine halts with accepted work held (R414). -/
def engineStop (s : State) : State :=
  if inService s then { (quiesce s) with eng := .halted } else s

/-- The requests of a ring that have been fetched and have not started end with E_CANCELLED. -/
def cancelFetched (fn : Nat) (warden : Bool) (s : State) : State :=
  let m := mbxGet s fn warden
  let s := setMbx s fn warden { m with fetched := m.fetched.filter (fun f => f.started) }
  (m.fetched.filter (fun f => !f.started)).foldl
    (fun s f => respond fn warden { tag := f.tag, status := .cancelled, op := f.opcode } s) s

/-- Every outstanding command and accepted item ends with E_CANCELLED (R375 step 2). -/
def cancelAll (s : State) : State :=
  let s := endLongs (fun _ _ => true) .cancelled [] s
  let s := cancelFetched 0 true ((s.link.fns.map (fun e => e.1)).foldl (fun s fn => cancelFetched fn false s) s)
  let s := (s.arr.streams.map (fun e => e.1)).foldl (fun s n =>
    let (s, k) := cancelJobs n s
    stMod n (fun x => { x with cancelled := x.cancelled + k }) s) s
  let s := { s with asset := { s.asset with reqs := [] } }
  { s with qm := { s.qm with queues := tmap s.qm.queues (fun _ q =>
      { q with cancelled := q.cancelled + acceptedPkts q }) } }

/-- The KEEL reaction: the vault is erased, outstanding work ends with E_CANCELLED while the host link is
up, and the engine is in HALTED until both keel feeds are removed together (R375, R440). -/
def keelStop (s : State) : State :=
  let s := { s with keel := { s.keel with vault := {} } }
  let s := if s.link.up then cancelAll s else s
  { (quiesce s) with eng := .halted, keelHalt := true }

/-! ### Reactions (R412, R413) -/

/-- STREAM_STOP of the object that ADDRESS names; another object type acts as DEGRADED (R413). -/
def streamStop (addr : Nat) (s : State) : State :=
  let v := addr % 2 ^ 36
  match addr / 2 ^ 36 with
  | 1 => stopQueue v s
  | 2 => stopStream v s
  | 3 => stopFlow (if (v / 65536) % 4 = 0 then .oa else .ob) (v % 65536) s
  | 4 => stopAsset ((v / 65536) % 64) (v % 65536) s
  | _ => s

/-- The reaction of a severity (Table 18-5). -/
def react (sev addr : Nat) (s : State) : State :=
  if sev = 3 then streamStop addr s
  else if sev = 4 then engineStop s
  else if sev = 5 then keelStop s
  else s

/-! ### Records -/

/-- Every record of a source changed by `f`: in the log, in the intake buffer, and the first-fault,
last-fault and KEEL records (R416). -/
def updRecs (p : FaultRec → Bool) (f : FaultRec → FaultRec) (s : State) : State :=
  let g := fun (r : FaultRec) => if p r then f r else r
  { s with
    fc := { s.fc with log := tmap s.fc.log (fun _ r => g r), intake := s.fc.intake.map g,
                      first := s.fc.first.map g, last := s.fc.last.map g }
    keel := { s.keel with keelRec := s.keel.keelRec.map g } }

/-- Rank of raises in one cycle: graver first, then the lower source (R420). -/
def ranksBefore (a b : FaultRec) : Bool :=
  decide (b.severity < a.severity) || (a.severity == b.severity && decide (a.source < b.source))

/-- The record among the first-fault and last-fault records (R416, R420). A raise of severity KEEL
replaces the first-fault record and stays. -/
def keepRec (r : FaultRec) (s : State) : State :=
  let kept := s.keel.keelRec.isSome
  let takes :=
    if r.severity = 5 then !kept
    else !kept && (s.fc.armed || match s.fc.first with
      | some f => f.frc == r.frc && ranksBefore r f && f.severity != 5 && !f.acked
      | none => true)
  let lastTakes := match s.fc.last with
    | some l => !(l.frc == r.frc && ranksBefore r l)
    | none => true
  { s with
    fc := { s.fc with first := if takes then some r else s.fc.first
                      armed := if takes then false else s.fc.armed
                      last := if lastTakes then some r else s.fc.last }
    keel := { s.keel with keelRec := if r.severity = 5 && !kept then some r else s.keel.keelRec } }

/-- The record enters the log ring, or the intake buffer behind those that wait and when four entered in this cycle
(R417). -/
def logRec (r : FaultRec) (s : State) : State :=
  if s.fc.intake.isEmpty && decide (s.fc.cycN < 4) then
    { s with fc := { s.fc with log := tput s.fc.log (r.logIndex % 64) r, cycN := s.fc.cycN + 1 } }
  else { s with fc := { s.fc with intake := s.fc.intake ++ [r] } }

/-- FAULT events of this cycle that wait to be written, changed by `f`. -/
def updEvents (f : List Int → List Int) (s : State) : State :=
  { s with link := { s.link with compl := s.link.compl.map (fun w => match w with
      | .evt n e => if e.code == 0x0A01 && e.frc == s.keel.frc then .evt n { e with data := f e.data } else w
      | w => w) } }

/-- The records of one cycle that the log holds or that wait for it (R417). -/
def cycleRecs (s : State) (frc : Nat) : List FaultRec :=
  ((s.fc.log.map (fun e => e.2)) ++ s.fc.intake).filter (fun q => q.frc == frc)

/-- LOG_INDEX `i` where `last`, the newest of a cycle, moves `k` places to the front (R420). -/
def movedIndex (last k i : Nat) : Nat :=
  let a := (last + 2 ^ 32 - k) % 2 ^ 32
  if i = last then a else if (i + 2 ^ 32 - a) % 2 ^ 32 < k then (i + 1) % 2 ^ 32 else i

/-- The raises of one cycle are logged in ranked order, whichever came first (R407, R420): a record just logged moves before
those that rank after it, and every place that names them follows. The answer has its LOG_INDEX. -/
def rankLogged (r : FaultRec) (s : State) : State × Nat :=
  let recs := cycleRecs s r.frc
  let k := recs.countP (ranksBefore r)
  if k = 0 then (s, r.logIndex)
  else
    let mv := movedIndex r.logIndex k
    let slots := (s.fc.log.map (fun e => e.2)).filterMap (fun q => if q.frc == r.frc then some q.logIndex else none)
    let new := recs.map (fun q => { q with logIndex := mv q.logIndex })
    let one := fun (q : FaultRec) => if q.frc == r.frc then { q with logIndex := mv q.logIndex } else q
    let s := updEvents (fun d => d.take 5 ++ (d.drop 5).map (fun i => Int.ofNat (mv i.toNat))) s
    ({ s with
       fc := { s.fc with
         log := (new.filter (fun q => slots.contains q.logIndex)).foldl (fun t q => tput t (q.logIndex % 64) q) s.fc.log
         intake := s.fc.intake.map (fun q => if q.frc == r.frc then (new.find? (fun n => n.logIndex == q.logIndex)).getD q else q)
         first := s.fc.first.map one
         last := s.fc.last.map one
         srcs := tmap s.fc.srcs (fun _ x => { x with verdict := x.verdict.map (fun v =>
           { v with logIndex := mv v.logIndex, raises := v.raises.map (fun e => (mv e.1, e.2)) }) }) }
       keel := { s.keel with keelRec := s.keel.keelRec.map one } }, mv r.logIndex)

/-- The source's counts and latches after a raise (R418, R421). -/
def latchRaise (sev addr : Nat) (held : Bool) (frc : Nat) (x : Source) : Source :=
  { x with
    raisedAt := some frc
    count := satAdd x.count 1 268435455
    latched := true
    latchSev := if x.latched then max x.latchSev sev else sev
    live := held
    transient := !held
    address := addr }

/-- The FAULT event of a raise, at most one per source in 1 ms unless it sets VERDICT_DUE (R419). -/
def faultEvent (r : FaultRec) (logged always : Bool) (s : State) : State :=
  let x := srcGet s r.source
  let due := match x.lastEvt with
    | some t => decide (t + 1000000 ≤ s.keel.frc)
    | none => true
  if always || due then
    let flags := bit01 r.sameCycle + 2 * bit01 r.transient + 4 * bit01 r.verdictDue + 8 * bit01 (!logged)
    let s := { s with fc := { s.fc with srcs := tput s.fc.srcs r.source { x with lastEvt := some s.keel.frc } } }
    event 0 0x0A01 [r.source, r.kind + 128 * bit01 r.held, r.severity, flags, r.address, if logged then r.logIndex else 0] s
  else s

/-- Can a raise not be logged (R417)? Whatever waits in the intake buffer goes first. -/
def unloggable (s : State) : Bool := decide (256 ≤ s.fc.intake.length)

/-- One raise is recorded, counted, latched and reported; the answer says which severity's reaction is
due now (6: none, a verdict decides). -/
def recordRaise (src kind addr : Nat) (held : Bool) (s : State) : State × Nat :=
  let frc := s.keel.frc
  let s := if s.fc.cycFrc = frc then s else { s with fc := { s.fc with cycFrc := frc, cycN := 0 } }
  let sev := sevNow s src
  let x0 := srcGet s src
  let x := latchRaise sev addr held frc x0
  let logged := !(unloggable s)
  let verdict := (x0.host || x0.verdict.isSome) && decide (sev ≤ 3) && logged
  let same := s.fc.log.any (fun e => e.2.frc == frc) || s.fc.intake.any (fun r => r.frc == frc)
  let r : FaultRec :=
    { source := src, kind := kind, held := held, severity := sev, sameCycle := same, transient := !held,
      live := held, verdictDue := verdict, acked := false, reaction := if verdict then 255 else sev,
      state := s.eng, address := addr, frc := frc, logIndex := s.fc.nextLog, count := x.count }
  let x := if verdict then
      { x with verdict := some (match x0.verdict with
          | some v => { v with raises := v.raises ++ [(r.logIndex, sev, addr)] }
          | none => { logIndex := r.logIndex, deadline := frc + x0.timeoutMs * 1000000,
                      raises := [(r.logIndex, sev, addr)] }) }
    else x
  let s := updRecs (fun q => q.frc == frc) (fun q => { q with sameCycle := true }) s
  let s := updRecs (fun q => q.source == src) (fun q => { q with live := held, transient := !held }) s
  let s := { s with fc := { s.fc with srcs := tput s.fc.srcs src x } }
  let s := keepRec r s
  let s := if same then updEvents (fun d => d.take 3 ++ ((d.drop 3).take 1).map (fun f => f / 2 * 2 + 1) ++ d.drop 4) s else s
  let (s, index) := if logged then
      rankLogged r (logRec r { s with fc := { s.fc with nextLog := (s.fc.nextLog + 1) % 2 ^ 32 } })
    else (s, r.logIndex)
  let s := faultEvent { r with logIndex := index } logged (verdict && x0.verdict.isNone) s
  (s, if verdict then 6 else sev)

/-- A raise while the collector does not run yet waits for its start (19 R435, Table 19-4). -/
def holdRaise (src kind addr : Nat) (held : Bool) (s : State) : State :=
  { s with fc := { s.fc with early := s.fc.early ++ [⟨src, kind, held, addr⟩] } }

/-- A raise with its reaction (R412); a raise that cannot be logged also raises 0x3FF (R417). A KEEL raise
acts whether the collector runs or not. -/
def raise (src kind addr : Nat) (held : Bool) (s : State) : State :=
  if !s.fc.running && !(sevLocked src) then holdRaise src kind addr held s
  else
    let lost := unloggable s
    let (s, sev) := recordRaise src kind addr held s
    let s := react sev addr s
    if lost && src != 0x3FF then
      let (s, sev) := recordRaise 0x3FF 1 0 false s
      react sev 0 s
    else s

/-- A read of host memory of a function has failed (16 R377, Table 18-4). -/
def readFailed (fn : Nat) (s : State) : State := raise 0x203 1 (addrFn fn) false s

/-! ### Faults of queues and cells (03 R72, R75, R79, R80) -/

/-- The pointer banks of a queue disagree: both copies are discarded, it is BLOCKED, and its rebuild starts (R75). -/
def blockPointers (n : Nat) (s : State) : State :=
  qMod n (fun q => if q.blocked then q else { q with blocked := true, blockDepth := qDepth q }) s

/-- A traversal finds a mismatch and raises 0x100 (R75). -/
def blockQueue (n : Nat) (s : State) : State := raise 0x100 1 (addrQueue n) false (blockPointers n s)

/-- The free list's copies disagree: allocation is blocked engine-wide (R79). -/
def blockFreeList (s : State) : State :=
  raise 0x106 1 0 false { s with qm := { s.qm with flBlocked := true } }

/-- The consumer reads a marker: AWAIT_DROP is set (R72). -/
def readMarker (p : Pkt) (q : Queue) : Queue :=
  { q with awaitDrop := true
           lastRead := { last := true, bytes := markerBytes p, seq := p.seq, st := 2, abort := p.abort.getD 0 } }

/-- A consumer reaches a cell with an uncorrectable error in the head packet `p`: a marker stands in its place (R72,
R80). -/
def badCell (n : Nat) (p : Pkt) (s : State) : State :=
  let s := qMod n (fun q =>
    let p := { p with abort := some 6 }
    countLoss s.keel.frc 1 (qFlag s.keel.frc 7 (readMarker p { q with pkts := p :: q.pkts.drop 1, aborted := q.aborted + 1 }))) s
  raise 0x104 1 (addrQueue n) false s

/-- Is there a cell in error that no marker stands for yet? -/
def hasBad (p : Pkt) : Bool := p.abort != some 6 && p.cells.any (fun c => c.bad)

/-- The head packet as a hardware consumer that takes it whole finds it: a marker stands for its first cell in error (R72,
R80). -/
def headWhole (n : Nat) (s : State) : State × Option Pkt :=
  match (qGet s n).bind qHead with
  | none => (s, none)
  | some p =>
    if hasBad p then
      let s := badCell n p s
      (s, (qGet s n).bind qHead)
    else (s, some p)

/-- END: a held condition ends (R408, R421). -/
def endCond (src : Nat) (s : State) : State :=
  let x := srcGet s src
  if !x.live then { s with fc := { s.fc with early := s.fc.early.filter (fun m => m.source != src) } }
  else
    let s := { s with fc := { s.fc with srcs := tput s.fc.srcs src { x with live := false, transient := x.latched } } }
    updRecs (fun r => r.source == src) (fun r => { r with live := false, transient := x.latched }) s

/-- The messages of one cycle, ranked: the graver severity first, then the lower source (R420). -/
def insertMsg (s : State) (m : FaultMsg) : List FaultMsg → List FaultMsg
  | [] => [m]
  | n :: r =>
    if sevNow s n.source < sevNow s m.source ∨ (sevNow s n.source = sevNow s m.source ∧ m.source < n.source)
    then m :: n :: r else n :: insertMsg s m r

/-- What the queue manager finds as it raises one of its sources (03 R75, R76, R79): a mismatch on a traversal that no
row of its own names (a link, a rewind, a read by hardware), a journal entry that the mirror restores, or a mismatch in
the free list. -/
def queueFault (m : FaultMsg) (s : State) : State :=
  let n := m.address % 2 ^ 36
  if m.source = 0x100 then blockPointers n s
  else if m.source = 0x102 then
    let kept := s.qm.journal.filter (fun e => e.queue != n)
    { s with qm := { s.qm with journal := kept ++ s.qm.mirror.filter (fun e => e.queue == n) } }
  else if m.source = 0x106 then { s with qm := { s.qm with flBlocked := true } }
  else s

/-- The messages of one cycle; END names the ADDRESS of the condition that it ends (R408, R417, R420). -/
def takeMessages (msgs : List FaultMsg) (s : State) : State :=
  let raises := (msgs.filter (fun m => m.kind != 0x7F)).foldl (fun l m => insertMsg s m l) []
  let s := raises.foldl (fun s m => raise m.source m.kind m.address m.held (queueFault m s)) s
  (msgs.filter (fun m => m.kind == 0x7F)).foldl (fun s m =>
    if (srcGet s m.source).address = m.address then endCond m.source s else s) s

/-- A pending verdict of a source is decided: `act` names the severity whose reaction is applied to each
raise, or none for the raise's own (R415). -/
def decideVerdict (src : Nat) (act : Option Nat) (s : State) : State :=
  let x := srcGet s src
  match x.verdict with
  | none => s
  | some v =>
    let s := { s with fc := { s.fc with srcs := tput s.fc.srcs src { x with verdict := none } } }
    let s := updRecs (fun r => r.source == src && r.verdictDue)
      (fun r => { r with verdictDue := false, reaction := act.getD r.severity }) s
    v.raises.foldl (fun s e => react (act.getD e.2.1) e.2.2 s) s

/-- A change of keel feed as the collector and the PF's event ring see it (19 R435, Tables 19-2, 19-2a): feed A
0, B 1; CAUSE 1 out of window, 2 restored, 3 switched, 4 reverted. -/
def feedChange (c : KeelChange) (s : State) : State :=
  let s := event 0 0x0B02 [c.feed, c.cause] s
  let s := if c.cause = 1 then (if (srcGet s c.feed).live then s else raise c.feed 1 0 true s) else s
  let s := if c.cause = 2 ∧ c.feed = 1 then endCond 1 s else s
  let s := if c.kept then raise 0x003 1 0 false s else s
  if (c.cause = 3 ∧ c.feed = 0) ∨ c.cause = 4 then raise 0x002 1 0 false (endCond 0 s) else s

/-- The collector starts: the changes that the keel latched are raised with their FRC values, in FRC
order, and then what the start hut reported (R435). -/
def startCollector (s : State) : State :=
  let early := s.fc.early
  let changes := s.keel.changes
  let ovf := s.keel.overflow
  let s := { s with fc := { s.fc with running := true, early := [] }
                    keel := { s.keel with changes := [], overflow := false } }
  let now := s.keel.frc
  let s := changes.foldl (fun s c => feedChange c { s with keel := { s.keel with frc := c.frc } }) s
  let s := { s with keel := { s.keel with frc := now } }
  let s := if ovf then raise 0x007 1 0 false s else s
  early.foldl (fun s m => raise m.source m.kind m.address m.held s) s

end Sys2Proof.Machine
end

