-- ==== Sys2Proof/Machine/SchedOps.lean ====
section
/-! DEFINITION. Token buckets, shapers and their backlog (13 R323-R327), and the table of which objects
name a queue on which side (03 R86, R469). -/

namespace Sys2Proof.Machine

/-! ### Token buckets (R323-R325) -/

/-- One byte in token units. -/
def byteTokens (n : Nat) : Int := Int.ofNat (n * 65536)

/-- A bucket brought up to an FRC instant: it gains RATE/8 x 10^-9 bytes a cycle, with the part below
1/65,536 byte carried, and is clipped at BURST (R323). -/
def refill (b : Bucket) (frc : Nat) : Bucket :=
  let units := (frc - b.upd) * b.rate * 65536 + b.carry
  { b with tokens := min (byteTokens b.burst) (b.tokens + Int.ofNat (units / 8000000000))
           carry := units % 8000000000, upd := max b.upd frc }

/-- A full bucket. -/
def newBucket (rate burst frc : Nat) : Bucket := { rate := rate, burst := burst, tokens := byteTokens burst, upd := frc }

/-- May a frame or unit start through a shaper (R324)? RATE 0 lets nothing start (Table 13-2). -/
def shaperOpen (b : Bucket) : Bool := decide (0 ≤ b.tokens) && decide (0 < b.rate)

/-- The charge of a start (R324). -/
def chargeBucket (b : Bucket) (bytes : Nat) : Bucket := { b with tokens := b.tokens - byteTokens bytes }

/-- A new RATE or BURST: a lowered BURST clips a positive count at once (R323). -/
def retune (b : Bucket) (rate burst : Nat) : Bucket :=
  { b with rate := rate, burst := burst, tokens := min b.tokens (byteTokens burst) }

/-- A reset raises a negative count to zero (R324). -/
def clearDebt (b : Bucket) : Bucket := { b with tokens := max 0 b.tokens }

/-! ### Backlog of a shaper (R327) -/

/-- FRAG_BYTES of a flow. -/
def fragBytes (f : Flow) : Nat := max 1 (fnat f.f 0xA90E 2048)

/-- Bytes of a packet still in its queue. -/
def pktBytes (p : Pkt) : Nat := (p.cells.map (fun c => c.data.length)).sum

/-- Payload, tag and overhead bytes of the packets of a TX flow not yet ACKed. -/
def flowBacklog (s : State) (f : Flow) (overhead : Nat) : Nat :=
  match (fopt f.f 0xA903).bind (qGet s) with
  | none => 0
  | some q =>
    let each := overhead + (if fnat f.f 0xA90F 0 = 1 then 8 else 0)
    let per := fun (p : Pkt) =>
      let b := pktBytes p
      b + max 1 ((b + fragBytes f - 1) / fragBytes f) * each
    let sent := f.off + f.off / fragBytes f * each
    (q.pkts.map (fun p => if p.visible then per p else 0)).sum - sent

/-- The backlog of bus shaper `n` (R327). -/
def shaperBacklog (s : State) (n overhead : Nat) : Nat :=
  let one := fun (p : Port) => (p.tx.map (fun e => if e.2.shaper == some n then flowBacklog s e.2 overhead else 0)).sum
  one s.bus.oa + one s.bus.ob

/-- The backlog of a function's host-link shaper: bytes in its queues that HOST_DMA delivers. -/
def fnBacklog (s : State) (fn : Nat) : Nat :=
  (s.qm.queues.map (fun e => if qFn e.2.w == fn && qConsumer e.2.w == 2 then (e.2.pkts.map pktBytes).sum else 0)).sum

/-! ### Which objects name a queue (03 R86, R469) -/

/-- Does a stream name queue `q` on its consumer side (`c` true) or its producer side? -/
def streamNames (q : Nat) (c : Bool) (x : Stream) : Bool :=
  let has := fun (id : Nat) => fopt x.f id == some q
  match x.kind, c with
  | .encode, true => has 0x4302 || has 0x6114
  | .encode, false => has 0x5319
  | .decode, true => has 0x4302 || has 0x7208 || has 0x7216
  | .decode, false => has 0x7214
  | .texture, true => has 0x4302
  | .texture, false => has 0x5319

/-- Does a port name queue `q`: a TX flow on the consumer side, an RX flow or INSPECT_QUEUE on the
producer side? -/
def portNames (q : Nat) (c : Bool) (p : Port) : Bool :=
  if c then p.tx.any (fun e => fopt e.2.f 0xA903 == some q)
  else p.rx.any (fun e => fopt e.2.f 0xA903 == some q) || fopt p.f 0xAC05 == some q

/-- Does an object name queue `q` on its consumer (`c` true) or producer side (R469)? -/
def sideNamed (s : State) (q : Nat) (c : Bool) : Bool :=
  s.arr.streams.any (fun e => streamNames q c e.2) || portNames q c s.bus.oa || portNames q c s.bus.ob ||
  (if c then s.checks.any (fun e => fopt e.2.f 0xE40B == some q) || s.arr.recoverQ == some q
   else fopt s.tu.servoA.f 0x2309 == some q || fopt s.tu.servoB.f 0x2309 == some q)

/-- Does any object of R86's list name queue `n`, bound rings among them? -/
def qNamed (s : State) (n : Nat) : Bool :=
  sideNamed s n true || sideNamed s n false ||
  (match qGet s n with
   | some q => q.sub.isSome || q.del.isSome
   | none => false)

/-- A queue that a command names for an object of function `fn`: it exists (E_STATE), belongs to the
function (E_NOPERM), and is not stopped (E_STATE) (R397, R413). -/
def queueFor (s : State) (fn q : Nat) : Except Status Queue :=
  match qGet s q with
  | none => .error .state
  | some x => if qFn x.w != fn then .error .noPerm else if x.stopped then .error .state else .ok x

/-- The named side of the queue is free, or E_BUSY (R469). -/
def sideFree (s : State) (q : Nat) (c : Bool) : Except Status Unit := need (!(sideNamed s q c)) .busy

end Sys2Proof.Machine
end

