-- ==== Sys2Proof/Machine/DecodeOps.lean ====
section
/-! DEFINITION. Decode bands, damage, the expected band and recovery requests (07 R163-R177). -/

namespace Sys2Proof.Machine

/-- The deadline of R92 for lines `first` to `first + count - 1` of a picture. -/
def hwDeadline (s : State) (x : Stream) (picture first count : Nat) : Pos :=
  let fl := flGet s (stFl x)
  let frame := Int.ofNat picture + fnum x.f 0x4304 0
  let line := (Int.ofNat (first + count) + fnum x.f 0x4305 0) * 65536 + fnum x.f 0x4306 0
  idxPos fl (frame * Int.ofNat (flLines fl) * 65536 + line)

/-- Scanout of a band starts at line FIRST_LINE + LINE_OFFSET of frame PICTURE + FRAME_OFFSET (07). -/
def scanStart (s : State) (x : Stream) (picture first : Nat) : Pos :=
  let fl := flGet s (stFl x)
  let frame := Int.ofNat picture + fnum x.f 0x4304 0
  idxPos fl (frame * Int.ofNat (flLines fl) * 65536 + (Int.ofNat first + fnum x.f 0x4305 0) * 65536)

/-- Has the active view reached a position, so many lines on, on fall line `fl`? -/
def reached (s : State) (fl : Nat) (p : Pos) (extraLines : Nat) : Bool :=
  match flNow s fl with
  | some i => decide (posIdx (flGet s fl) p + Int.ofNat (extraLines * 65536) ≤ i)
  | none => false

/-- Is a job's deadline strictly past? -/
def pastDeadline (s : State) (x : Stream) (j : Job) : Bool :=
  match j.deadline, flNow s (jobFl x j) with
  | some p, some i => decide (posIdx (flGet s (jobFl x j)) p < i)
  | _, _ => false

/-- SLICE_LINES of a decode stream, or the lines of the last band where the stream gives none. -/
def bandLines (x : Stream) : Nat :=
  match fopt x.f 0x720A with
  | some n => n
  | none => max 1 x.dec.expCount

/-- Does band `slice` of a picture lie before the expected band? -/
def beforeExpected (d : DecState) (picture slice : Nat) : Bool :=
  d.running && (later32 d.expPic picture || (d.expPic == picture && decide (slice < d.expSlice)))

/-- The expectation moves on from band `slice` of a picture, lines `first` on (R163); it never goes back. -/
def expectAfter (x : Stream) (picture slice first count : Nat) (last : Bool) : Stream :=
  if beforeExpected x.dec picture slice then x else
  let d := x.dec
  let stop := last || decide (stHeight x ≤ first + count)
  let pic := if stop then (picture + 1) % 2 ^ 32 else picture
  let f := if stop then 0 else first + count
  let x' := { x with dec := { d with running := true, expCount := if stop then d.expCount else count } }
  { x' with dec := { x'.dec with
      expPic := pic, expSlice := if stop then 0 else slice + 1, expFirst := f
      expCount := min (bandLines { x' with dec := { x'.dec with expCount := count } }) (stHeight x - f) } }

/-- The 64 x 64 regions of lines `first` on, `count` lines, by number (R174). -/
def regionsOf (x : Stream) (first count : Nat) : List Nat :=
  let cols := (stWidth x + 63) / 64
  ((List.range ((first + count + 63) / 64 - first / 64)).map (fun r =>
    (List.range cols).map (fun c => (first / 64 + r) * cols + c))).flatten

/-- Regions of a picture marked dirty. -/
def markDirty (picture : Nat) (l : List Nat) (x : Stream) : Stream :=
  let old := tgetD x.dec.dirty picture []
  { x with dec := { x.dec with dirty := tput x.dec.dirty picture (old ++ l.filter (fun r => !(old.contains r))) } }

/-- The dirty regions of a picture in lines `first` on, `count` lines. -/
def dirtyIn (x : Stream) (picture first count : Nat) : Nat :=
  (tgetD x.dec.dirty picture []).countP (fun r => (regionsOf x first count).contains r)

/-- A recovery request is raised, or repeated (R176): the event, and with RECOVERY_NODE set a RECOVER
message, which waits among the port's frames to send (`sent`). -/
def announce (n : Nat) (r : RecReq) (again : Bool) (s : State) : State :=
  match stGet s n with
  | none => s
  | some x =>
    let s := event x.owner 0x0404 [n, r.reason, bit01 again, r.picture, r.first, r.count, r.seq] s
    match fopt x.f 0x721A with
    | none => s
    | some node =>
      let msg : Frame :=
        { urg := 32, cls := 2, src := 0, fdf := false, dkind := 0, dst := node, flow := (fopt x.f 0x721B).getD 0,
          seq := 0, frag := 3, len := 24, auth := false, kph := false, hcrcOk := true, bodyOk := true, tagOk := true,
          payload := [0x20, BitVec.ofNat 8 r.reason] ++ leBytes 2 ((fopt x.f 0x721C).getD 0) ++ leBytes 4 r.picture ++
            leBytes 2 r.first ++ leBytes 2 r.count ++ leBytes 4 (x.dec.lastSeq.getD 0) ++ leBytes 2 r.seq ++ leBytes 6 0 }
      let s := stCount n ctrRecovSent 1 s
      { s with bus := { s.bus with recovers := s.bus.recovers ++ [msg] } }

/-- The first damage in a picture raises a recovery request (R176). -/
def requestRecovery (n picture first count kind : Nat) (s : State) : State :=
  match stGet s n with
  | none => s
  | some x =>
    if kind = 5 || x.dec.reqs.any (fun r => r.picture == picture) then s
    else
      let q := (x.dec.reqSeq + 1) % 65536
      let r : RecReq := { seq := q, picture := picture, first := first, count := count, reason := kind, sentAt := s.keel.frc }
      announce n r false (stSet s n { x with dec := { x.dec with reqSeq := q, reqs := x.dec.reqs ++ [r] } })

/-- The concealment mode in force: in SNOWPLOUGH, FREEZE whatever the setting (07, after Table 7-8). -/
def concealMode (s : State) (x : Stream) : Nat := if s.eng == .snowplough then 0 else fnat x.f 0x7215 1

/-! ### The concealment unit (R170) -/

/-- May the unit take an area: it waits for no verdict, or its deadline is there (R173)? -/
def areaReady (s : State) (a : Area) : Bool :=
  !a.waiting || (match a.deadline with | some p => reached s a.fl p 0 | none => true)

/-- The active-view time of an area's deadline. -/
def areaTime (s : State) (a : Area) : Option Ticks := a.deadline.bind (posTime s a.fl)

/-- Is area `a` due before `b`? One whose fall line gives no time comes last. -/
def areaBefore (s : State) (a b : Area) : Bool :=
  match areaTime s a, areaTime s b with
  | some p, some q => decide (p < q)
  | some _, none => true
  | none, _ => false

/-- The area that the unit takes next, with its stream: in deadline order over all streams. -/
def nextArea (s : State) : Option (Nat × Area) :=
  ((s.arr.streams.map (fun e => (e.2.dec.areas.filter (areaReady s)).map (fun a => (e.1, a)))).flatten).foldl
    (fun b e => match b with
      | none => some e
      | some c => if areaBefore s e.2 c.2 then some e else some c) none

/-- The area that the unit works on, where it still stands. -/
def concealNow (s : State) : Option (Nat × Area × Nat) :=
  match s.arr.concealing with
  | none => none
  | some (n, id, t) => ((stGet s n).bind (fun x => x.dec.areas.find? (fun a => a.id == id))).map (fun a => (n, a, t))

/-- The unit starts an area when it is idle (R170). -/
def takeArea (s : State) : State :=
  if (concealNow s).isSome then s
  else { s with arr := { s.arr with concealing := (nextArea s).map (fun e => (e.1, e.2.id, s.keel.frc)) } }

/-- A band is damaged (R168): it is counted and reported, waits for a verdict under HOST while its deadline
lies ahead (R173), is else to be concealed at once, and a recovery request goes out (R176). The area may be a part of its
job's band. -/
def damage (n kind picture slice first count : Nat) (job : Option Job) (s : State) : State :=
  match stGet s n with
  | none => s
  | some x =>
    let id := x.dec.nextDmg
    let (bf, bc) := match job with | some j => (j.first, j.count) | none => (first, count)
    let dl := hwDeadline s x picture bf bc
    let dl := match job.bind (fun j => j.deadline) with | some p => p | none => dl
    let fl := match job with | some j => jobFl x j | none => stFl x
    let host := concealMode s x == 3 && !(reached s fl dl 0)
    let mode := concealMode s x
    let s := if mode = 3 && !host then hostMiss x.owner (stCount n ctrHostMiss 1 s) else s
    let area : Area :=
      { id := id, picture := picture, slice := slice, first := first, count := count,
        job := match job with | some j => j.seq | none => 2 ^ 32
        kind := kind, mode := if mode = 3 then 0 else mode, display := false, deadline := some dl, fl := fl, waiting := host,
        userTag := match job with | some j => j.userTag | none => 0 }
    let s := stCount n (ctrDamage kind) 1 s
    let s := stMod n (fun x =>
      let x := expectAfter x picture slice bf bc (match job with | some j => j.eop | none => false)
      let x := markDirty picture (regionsOf x first count) x
      { x with dec := { x.dec with areas := x.dec.areas ++ [area], nextDmg := id + 1 } }) s
    let s := event x.owner 0x0402 [n, kind, 0, picture, first, count, min area.job (2 ^ 32 - 1), id] s
    takeArea (requestRecovery n picture first count kind s)

/-- A lost picture: nothing is written, and every region of every reference is dirty (Table 7-5). -/
def pictureLost (n picture : Nat) (s : State) : State :=
  match stGet s n with
  | none => s
  | some x =>
    let s := stCount n (ctrDamage 10) 1 s
    let s := stMod n (fun x =>
      let all := regionsOf x 0 (stHeight x)
      (x.donePics.map (fun e => e.1)).foldl (fun x p => markDirty p all x) (markDirty picture all x)) s
    let s := event x.owner 0x0402 [n, 10, 0, picture, 0, 0, 0, x.dec.nextDmg] s
    requestRecovery n picture 0 0 10 (stMod n (fun x => { x with dec := { x.dec with nextDmg := x.dec.nextDmg + 1 } }) s)

/-- Encode recovery (R126): the request waits for the first picture of which no job has been dispatched, with the RECOVERY
that stands at the request (class "next request"). A request for a picture before a sweep or key begun after it, or for a
picture already requested, is merged. -/
def recoverEncode (n picture : Nat) (s : State) : State :=
  match stGet s n with
  | none => s
  | some x =>
    let s := stCount n ctrRecovReq 1 s
    let e := x.enc
    let after := fun (o : Option Nat) => match o with | some p => later32 p picture | none => false
    if after e.lastKey || after e.sweepStart || e.asked.contains picture then stCount n ctrRecovMerged 1 s
    else stMod n (fun x => { x with enc := { x.enc with
      recoverAt := x.enc.recoverAt ++ [(picture, fnat x.f 0x531B (if fnat x.f 0x530E 0 = 0 then 1 else 0) == 0)]
      asked := (picture :: x.enc.asked).take 64 } }) s

end Sys2Proof.Machine
end

