-- ==== Sys2Proof/Machine/EncodeOps.lean ====
section
/-! DEFINITION. What an encode run is (05 R112-R128; 06 R140, R142): the fields that a picture and a job sampled, the
quantiser step, sweeps and references, source lines and colour conversion, hints and the coding of blocks, the QP of line
groups, scaling, and the form of the bitstream. -/

namespace Sys2Proof.Machine

/-! ### The quantiser step (06, quantities) -/

/-- 2^(k/6) in 1/2^32, rounded down. -/
def sixthRoots : List Nat := [4294967296, 4820937788, 5411319704, 6074000999, 6817835603, 7652761716]

/-- The AC quantiser of the AV1 specification at 8 bits, qindex 0 to 63. -/
def acQuant80 : List Nat :=
  [4, 8, 9, 10, 11, 12, 13, 14, 15, 16, 17, 18, 19, 20, 21, 22, 23, 24, 25, 26, 27, 28, 29, 30, 31, 32, 33, 34, 35,
   36, 37, 38, 39, 40, 41, 42, 43, 44, 45, 46, 47, 48, 49, 50, 51, 52, 53, 54, 55, 56, 57, 58, 59, 60, 61, 62, 63, 64,
   65, 66, 67, 68, 69, 70]

/-- The AC quantiser of the AV1 specification at 8 bits, qindex 64 to 127. -/
def acQuant81 : List Nat :=
  [71, 72, 73, 74, 75, 76, 77, 78, 79, 80, 81, 82, 83, 84, 85, 86, 87, 88, 89, 90, 91, 92, 93, 94, 95, 96, 97, 98, 99,
   100, 101, 102, 104, 106, 108, 110, 112, 114, 116, 118, 120, 122, 124, 126, 128, 130, 132, 134, 136, 138, 140, 142,
   144, 146, 148, 150, 152, 155, 158, 161, 164, 167, 170, 173]

/-- The AC quantiser of the AV1 specification at 8 bits, qindex 128 to 191. -/
def acQuant82 : List Nat :=
  [176, 179, 182, 185, 188, 191, 194, 197, 200, 203, 207, 211, 215, 219, 223, 227, 231, 235, 239, 243, 247, 251, 255,
   260, 265, 270, 275, 280, 285, 290, 295, 300, 305, 311, 317, 323, 329, 335, 341, 347, 353, 359, 366, 373, 380, 387,
   394, 401, 408, 416, 424, 432, 440, 448, 456, 465, 474, 483, 492, 501, 510, 520, 530, 540]

/-- The AC quantiser of the AV1 specification at 8 bits, qindex 192 to 255. -/
def acQuant83 : List Nat :=
  [550, 560, 571, 582, 593, 604, 615, 627, 639, 651, 663, 676, 689, 702, 715, 729, 743, 757, 771, 786, 801, 816, 832,
   848, 864, 881, 898, 915, 933, 951, 969, 988, 1007, 1026, 1046, 1066, 1087, 1108, 1129, 1151, 1173, 1196, 1219,
   1243, 1267, 1292, 1317, 1343, 1369, 1396, 1423, 1451, 1479, 1508, 1537, 1567, 1597, 1628, 1660, 1692, 1725, 1759,
   1793, 1828]

/-- The AC quantiser of the AV1 specification at 8 bits (PRESUMED, log 10). -/
def acQuant8 : List Nat := acQuant80 ++ acQuant81 ++ acQuant82 ++ acQuant83

/-- The AC quantiser of the AV1 specification at 10 bits, qindex 0 to 63. -/
def acQuant100 : List Nat :=
  [4, 9, 11, 13, 16, 18, 21, 24, 27, 30, 33, 37, 40, 44, 48, 51, 55, 59, 63, 67, 71, 75, 79, 83, 88, 92, 96, 100, 105,
   109, 114, 118, 122, 127, 131, 136, 140, 145, 149, 154, 158, 163, 168, 172, 177, 181, 186, 190, 195, 199, 204, 208,
   213, 217, 222, 226, 231, 235, 240, 244, 249, 253, 258, 262]

/-- The AC quantiser of the AV1 specification at 10 bits, qindex 64 to 127. -/
def acQuant101 : List Nat :=
  [267, 271, 275, 280, 284, 289, 293, 297, 302, 306, 311, 315, 319, 324, 328, 332, 337, 341, 345, 349, 354, 358, 362,
   367, 371, 375, 379, 384, 388, 392, 396, 401, 409, 417, 425, 433, 441, 449, 458, 466, 474, 482, 490, 498, 506, 514,
   523, 531, 539, 547, 555, 563, 571, 579, 588, 596, 604, 616, 628, 640, 652, 664, 676, 688]

/-- The AC quantiser of the AV1 specification at 10 bits, qindex 128 to 191. -/
def acQuant102 : List Nat :=
  [700, 713, 725, 737, 749, 761, 773, 785, 797, 809, 825, 841, 857, 873, 889, 905, 922, 938, 954, 970, 986, 1002,
   1018, 1038, 1058, 1078, 1098, 1118, 1138, 1158, 1178, 1198, 1218, 1242, 1266, 1290, 1314, 1338, 1362, 1386, 1411,
   1435, 1463, 1491, 1519, 1547, 1575, 1603, 1631, 1663, 1695, 1727, 1759, 1791, 1823, 1859, 1895, 1931, 1967, 2003,
   2039, 2079, 2119, 2159]

/-- The AC quantiser of the AV1 specification at 10 bits, qindex 192 to 255. -/
def acQuant103 : List Nat :=
  [2199, 2239, 2283, 2327, 2371, 2415, 2459, 2507, 2555, 2603, 2651, 2703, 2755, 2807, 2859, 2915, 2971, 3027, 3083,
   3143, 3203, 3263, 3327, 3391, 3455, 3523, 3591, 3659, 3731, 3803, 3876, 3952, 4028, 4104, 4184, 4264, 4348, 4432,
   4516, 4604, 4692, 4784, 4876, 4972, 5068, 5168, 5268, 5372, 5476, 5584, 5692, 5804, 5916, 6032, 6148, 6268, 6388,
   6512, 6640, 6768, 6900, 7036, 7172, 7312]

/-- The AC quantiser of the AV1 specification at 10 bits (PRESUMED, log 10). -/
def acQuant10 : List Nat := acQuant100 ++ acQuant101 ++ acQuant102 ++ acQuant103

/-- qstep(QP) in 1/2^32 (DESIGN CHOICE: rounded down there, log 10): 2^((QP - 4)/6) for HEVC, the AC quantiser of qindex
for AV1. -/
def qstepOf (x : Stream) (qp : Int) : Nat :=
  if fnat x.f 0x5301 0 = 1 then
    let n := (qp + 14).toNat
    (sixthRoots[n % 6]?).getD 0 * 2 ^ (n / 6) / 8
  else ((if fnat x.f 0x5307 10 = 8 then acQuant8 else acQuant10)[qp.toNat]?).getD 1 * 2 ^ 32

/-! ### Slices, tiles and column groups (R123, R125) -/

/-- Side of a superblock or CTB; AV1's is always 64. -/
def sbSize (x : Stream) : Nat := if fnat x.f 0x5301 0 = 1 ∧ fnat x.f 0x5314 64 = 32 then 32 else 64

/-- Slices of a picture (R123), and luma samples of slice `k`. -/
def sliceLines (x : Stream) : Nat := max 1 (fnat x.f 0x5312 1)
def sliceCount (x : Stream) : Nat := (stHeight x + sliceLines x - 1) / sliceLines x
def sliceSamples (x : Stream) (k : Nat) : Nat := stWidth x * min (sliceLines x) (stHeight x - k * sliceLines x)

/-- Superblock columns of a picture, and the columns of one refresh group (R125). -/
def sbCols (x : Stream) : Nat := (stWidth x + sbSize x - 1) / sbSize x
def groupCols (x : Stream) (len : Nat) : Nat := (sbCols x + len - 1) / max 1 len

/-- TILE_COLS, by default the smallest that is allowed. -/
def tileCount (x : Stream) : Nat :=
  max 1 (fnat x.f 0x5313 (if fnat x.f 0x5301 0 = 0 then (stWidth x + 4095) / 4096 else 1))

/-- The tiles of a slice, each with its first column and its width in superblocks: of equal width, the remainder in the
rightmost column (R123). -/
def tileCols (x : Stream) : List (Nat × Nat) :=
  let n := tileCount x
  let w := sbCols x / n
  (List.range n).map (fun i => (i * w, if i + 1 = n then sbCols x - i * w else w))

/-- How picture `picture` is coded. -/
def picInfo (x : Stream) (picture : Nat) : PicInfo :=
  tgetD x.enc.pics picture { key := false, pos := 0, len := 60, recovered := false }

/-- The share f of blocks that R120 forces to intra, as numerator over denominator (R140). -/
def intraShare (x : Stream) (picture : Nat) : Nat × Nat :=
  let p := picInfo x picture
  if p.key then (1, 1)
  else if p.sweep then
    let g := groupCols x p.len
    (min g (sbCols x - p.pos * g), max 1 (sbCols x))
  else (0, 1)

/-- The column group of a block of 16 x 16 samples. -/
def groupOf (x : Stream) (len bx : Nat) : Nat := (bx * 16 / sbSize x) / max 1 (groupCols x len)

/-! ### References (R91, R112, Table 5-2) -/

/-- The stream with the fields that wait for its next picture. -/
def nextView (x : Stream) : Stream := { x with f := fapply x.f (x.staged.map (fun e => ⟨e.1, e.2⟩)) }

/-- Pictures, newest first, back to the newest key picture and with it. -/
def sinceKeyPic (x : Stream) : List Nat → List Nat
  | [] => []
  | p :: r => if (picInfo x p).key then [p] else p :: sinceKeyPic x r

/-- The pictures before a picture in submission order, newest first. -/
def earlierPics (x : Stream) (picture : Nat) : List Nat := x.enc.order.filter (fun p => later32 picture p)

/-- The pictures that an inter picture references: its ACTIVE_REFS last ones (R112). -/
def encRefs (x : Stream) (picture : Nat) : List Nat := (sinceKeyPic x (earlierPics x picture)).take (fnat x.f 0x5311 1)

/-- Is a picture that begins now a key picture: the first, one with FORCE_KEY, after RC_RESTART or a KEY recovery, or in
its turn (R125, R126, R154)? -/
def keyNow (x : Stream) (picFlags : Nat) : Bool :=
  x.enc.dispatchedPic.isNone || bitOf picFlags 0 || x.enc.restart || x.enc.recoverAt.any (fun e => e.2) ||
    (fnat x.f 0x530E 0 != 0 && decide (fnat x.f 0x530F 240 ≤ x.enc.sinceKey + 1))

/-- The references that a job waits for (R91): a picture that has begun has its lists; one that has not is taken as a key
picture where that is sure already. -/
def jobRefs (x : Stream) (j : Job) : List Nat :=
  match x.kind with
  | .encode =>
    let v := nextView x
    if thas x.picF j.picture then (picInfo x j.picture).l0
    else if bitOf j.picFlags 0 || ((earlierPics x j.picture).all (thas x.picF) && keyNow v j.picFlags) then []
    else encRefs v j.picture
  | _ => j.refs

/-! ### Source lines (R114, R115, Table 5-4) -/

/-- SRC_FORMAT: NV12 0, P010 1, T10 2, RGBA8 3, RGB10A2 4. -/
def srcFormat (x : Stream) : Nat := fnat x.f 0x5309 2

/-- Bytes of `n` samples of a line. -/
def lineBytes (fmt n : Nat) : Nat :=
  match fmt with
  | 0 => n
  | 1 => 2 * n
  | 2 => n * 5 / 4
  | _ => 4 * n

/-- The reads of a run: its own source lines, and the chroma lines that match them (R115). -/
def sourceReads (x : Stream) (j : Job) : List HostRead :=
  let fmt := srcFormat x
  let b := lineBytes fmt (stWidth x)
  let luma : HostRead := { addr := j.src.addr + j.first * j.src.pitch, pitch := j.src.pitch, lines := j.count, bytes := b }
  let chroma : HostRead :=
    { addr := j.src.addr + j.src.chroma + j.first / 2 * j.src.pitch, pitch := j.src.pitch, lines := (j.count + 1) / 2, bytes := b }
  if 3 ≤ fmt then [luma] else [luma, chroma]

/-- The block of host memory that a read of `n` bytes at an address falls into. -/
def hostBlk (mem : List HostBlk) (addr n : Nat) : Option HostBlk :=
  mem.find? (fun b => decide (b.addr ≤ addr) && decide (addr + n ≤ b.addr + b.data.length))

/-- The bytes that a read finds, and how many times it fails before. -/
def hostBytes (mem : List HostBlk) (addr n : Nat) : Option (List Byte × Nat) :=
  (hostBlk mem addr n).map (fun b => ((b.data.drop (addr - b.addr)).take n, b.fails))

/-- The lines of a block of reads that memory gives, by their place, and the most failures of one of them. -/
def readLines (mem : List HostBlk) (r : HostRead) : List (Nat × List Byte) × Nat :=
  let got := (List.range r.lines).filterMap (fun k => (hostBytes mem (r.addr + k * r.pitch) r.bytes).map (fun e => (k, e)))
  (got.map (fun e => (e.1, e.2.1)), (got.map (fun e => e.2.2)).foldl max 0)

/-- Samples of `w` bits in bytes, the first in the lowest bits. -/
def unpackBits (w : Nat) : Nat → Nat → List Nat
  | 0, _ => []
  | k + 1, v => v % 2 ^ w :: unpackBits w k (v / 2 ^ w)

/-- The samples of a line of a 4:2:0 format (Table 5-4). -/
def unpackLine (fmt : Nat) (l : List Byte) : List Nat :=
  match fmt with
  | 0 => l.map (fun b => b.toNat)
  | 1 => (unpackBits 16 (l.length / 2) (leNat l)).map (fun v => v / 64)
  | _ => unpackBits 10 (l.length * 4 / 5) (leNat l)

/-- The entries at even places, and those at odd ones. -/
def alternate {α : Type} : List α → List α × List α
  | a :: b :: r => let (x, y) := alternate r; (a :: x, b :: y)
  | [a] => ([a], [])
  | [] => ([], [])

/-- Red, green and blue of a pixel. -/
def pixelOf (fmt : Nat) (v : Nat) : Nat × Nat × Nat :=
  if fmt = 3 then (v % 256, v / 256 % 256, v / 65536 % 256) else (v % 1024, v / 1024 % 1024, v / 1048576 % 1024)

/-- The weights of red and blue in luma, in 1/10,000 (COLOUR; PRESUMED, log 83). -/
def lumaWeights (x : Stream) : Int × Int := if fnat x.f 0x530A 0 = 0 then (2126, 722) else (2627, 593)

/-- `a / b` to the nearest, ties up, within the range of a sample. -/
def sampleRound (bits : Nat) (a b : Int) : Nat := (clampI (Int.fdiv (2 * a + b) (2 * b)) 0 (2 ^ bits - 1)).toNat

/-- Luma of a pixel in 1/10,000 of a source step. -/
def lumaSum (x : Stream) (p : Nat × Nat × Nat) : Int :=
  let (kr, kb) := lumaWeights x
  kr * Int.ofNat p.1 + (10000 - kr - kb) * Int.ofNat p.2.1 + kb * Int.ofNat p.2.2

/-- A luma sample: `n` in 1/10,000 of a step of `top`, by RANGE LIMITED 0 or FULL 1. -/
def lumaSample (x : Stream) (top : Int) (n : Int) : Nat :=
  let d := fnat x.f 0x5307 10
  if fnat x.f 0x530B 0 = 0 then sampleRound d (2 ^ (d - 8) * (219 * n + 16 * 10000 * top)) (10000 * top)
  else sampleRound d ((2 ^ d - 1) * n) (10000 * top)

/-- A chroma sample: the colour difference `n` over `top`, a value in -1/2 to 1/2. -/
def chromaSample (x : Stream) (n top : Int) : Nat :=
  let d := fnat x.f 0x5307 10
  if fnat x.f 0x530B 0 = 0 then sampleRound d (2 ^ (d - 8) * (224 * n + 128 * top)) top
  else sampleRound d ((2 ^ d - 1) * n + 2 ^ (d - 1) * top) top

/-- A difference filtered [1 2 1]/4 along its line, at every second sample from the first: sited left (R114). The line's
first sample stands for the one before it (DESIGN CHOICE, log 83). -/
def filterLine (l : List Int) : List Int :=
  let at_ := fun (i : Nat) => (l[i]?).getD ((l.getLast?).getD 0)
  (List.range ((l.length + 1) / 2)).map (fun i => at_ (2 * i - 1) + 2 * at_ (2 * i) + at_ (2 * i + 1))

/-- Two RGB lines become two luma lines and one line of each chroma (R114). -/
def convertPair (x : Stream) (a b : List (Nat × Nat × Nat)) : List Nat × List Nat × List Nat × List Nat :=
  let top : Int := if srcFormat x = 3 then 255 else 1023
  let (kr, kb) := lumaWeights x
  let blue := fun (l : List (Nat × Nat × Nat)) => filterLine (l.map (fun p => 10000 * Int.ofNat p.2.2 - lumaSum x p))
  let red := fun (l : List (Nat × Nat × Nat)) => filterLine (l.map (fun p => 10000 * Int.ofNat p.1 - lumaSum x p))
  let luma := fun (l : List (Nat × Nat × Nat)) => l.map (fun p => lumaSample x top (lumaSum x p))
  let chroma := fun (k : Int) (u v : List Int) => (u.zip v).map (fun e => chromaSample x (e.1 + e.2) (16 * (10000 - k) * top))
  (luma a, luma b, chroma kb (blue a) (blue b), chroma kr (red a) (red b))

/-- The 4:2:0 samples that source lines give, by line number of the picture. -/
def sourcePlanes (x : Stream) (j : Job) (luma chroma : List (Nat × List Byte)) : Planes :=
  let fmt := srcFormat x
  if 3 ≤ fmt then
    let px := fun (l : List Byte) => (unpackBits 32 (l.length / 4) (leNat l)).map (pixelOf fmt)
    let pairs := (List.range ((j.count + 1) / 2)).filterMap (fun k => match tget luma (2 * k), tget luma (2 * k + 1) with
      | some a, some b => some (k, convertPair x (px a) (px b))
      | _, _ => none)
    { y := pairs.flatMap (fun e => [(j.first + 2 * e.1, e.2.1), (j.first + 2 * e.1 + 1, e.2.2.1)])
      cb := pairs.map (fun e => (j.first / 2 + e.1, e.2.2.2.1)), cr := pairs.map (fun e => (j.first / 2 + e.1, e.2.2.2.2)) }
  else
    let c := chroma.map (fun e => (e.1, alternate (unpackLine fmt e.2)))
    { y := luma.map (fun e => (j.first + e.1, unpackLine fmt e.2))
      cb := c.map (fun e => (j.first / 2 + e.1, e.2.1)), cr := c.map (fun e => (j.first / 2 + e.1, e.2.2)) }

/-! ### Scaling (R133) -/

/-- One sample of a line scaled from `n` to `m` samples: 8 taps for luma, 4 for chroma, about the source position; taps
beyond an edge take the edge's sample. -/
def scaleSample (luma : Bool) (l : List Nat) (m i : Nat) : Nat :=
  let n := l.length
  let k := if luma then 8 else 4
  let base := Int.ofNat (i * n / max 1 m) - Int.ofNat (k / 2 - 1)
  let sum := ((List.range k).map (fun t =>
    let p := (clampI (base + Int.ofNat t) 0 (Int.ofNat n - 1)).toNat
    Config.scaleTap luma n m i t * Int.ofNat ((l[p]?).getD 0))).sum
  sampleRound 10 sum 64

/-- A line scaled to `m` samples. -/
def scaleLine (luma : Bool) (m : Nat) (l : List Nat) : List Nat :=
  if l.length = m then l else (List.range m).map (scaleSample luma l m)

/-- Line `i` of a plane of `n` lines scaled to `m` lines. -/
def scaleRow (luma : Bool) (p : List (Nat × List Nat)) (n m i : Nat) : Option (List Nat) :=
  if n = m then tget p i
  else
    let k := if luma then 8 else 4
    let base := Int.ofNat (i * n / max 1 m) - Int.ofNat (k / 2 - 1)
    let rows := (List.range k).map (fun t => tget p (clampI (base + Int.ofNat t) 0 (Int.ofNat n - 1)).toNat)
    if rows.all (fun r => r.isSome) then
      let rows := rows.map (fun r => r.getD [])
      some ((List.range ((rows.head?.map List.length).getD 0)).map (fun c =>
        sampleRound 10 ((rows.zipIdx.map (fun e => Config.scaleTap luma n m i e.2 * Int.ofNat ((e.1[c]?).getD 0))).sum) 64))
    else none

/-- The lines that a transcode job takes from a decoded picture of `w` x `h` (R133). -/
def scaledPlanes (x : Stream) (j : Job) (h : Nat) (f : Planes) : Planes :=
  let plane := fun (luma : Bool) (p : List (Nat × List Nat)) (src dst width first count : Nat) =>
    (List.range count).filterMap (fun k => (scaleRow luma p src dst (first + k)).map (fun l => (first + k, scaleLine luma width l)))
  let chroma := fun (p : List (Nat × List Nat)) =>
    plane false p (h / 2) (stHeight x / 2) (stWidth x / 2) (j.first / 2) ((j.count + 1) / 2)
  { y := plane true f.y h (stHeight x) (stWidth x) j.first j.count, cb := chroma f.cb, cr := chroma f.cr }

/-! ### Hints and the coding of blocks (R119-R121) -/

/-- The hints of a run: what each kind gives, where it is used and sound, and whether one was disabled. -/
structure Hints where
  error : Bool := false
  mv    : List (Nat × List Nat) := []
  mask  : List (Nat × List Nat) := []
  cam   : Option (List Int × Nat) := none
deriving DecidableEq, Repr

/-- A 32-bit two's complement number. -/
def signed32 (v : Nat) : Int := if v < 2 ^ 31 then Int.ofNat v else Int.ofNat v - 2 ^ 32

/-- The rows of an array that start at their own pitch; none where a read fails. -/
def hintRows (mem : List HostBlk) (base pitch bytes : Nat) (rows : List Nat) (unpack : List Byte → List Nat) :
    Option (List (Nat × List Nat)) :=
  rows.foldr (fun r acc => match acc, hostBytes mem (base + r * pitch) bytes with
    | some l, some (b, 0) => some ((r, unpack b) :: l)
    | _, _ => none) (some [])

/-- A run reads the hint header and the rows of its own blocks; a version other than 1, a read error, or an offset or
pitch outside the header's rules disables the hint (R121, Table 5-6). -/
def readHints (x : Stream) (j : Job) (mem : List HostBlk) : Hints :=
  let useMv := bitOf j.picFlags 1
  let useCam := bitOf j.picFlags 2
  let useMask := bitOf j.picFlags 3
  if j.src.hint = 0 ∨ !(useMv || useCam || useMask) then {}
  else match hostBytes mem j.src.hint 96 with
    | some (b, 0) =>
      let w := fun (off : Nat) => leAt b off 4
      if w 0 % 4 != 1 then { error := true }
      else
        let rows := (List.range ((j.first + j.count + 15) / 16 - j.first / 16)).map (fun k => j.first / 16 + k)
        let cols := (stWidth x + 15) / 16
        let mv := if !useMv || w 4 == 0 then some []
          else if w 4 % 64 != 0 || w 8 % 64 != 0 || decide (w 8 < 4 * cols) then none
          else hintRows mem (j.src.hint + w 4) (w 8) (4 * cols) rows (fun l => unpackBits 32 (l.length / 4) (leNat l))
        let mask := if !useMask || w 12 == 0 then some []
          else if w 12 % 64 != 0 || w 16 % 8 != 0 || decide (w 16 < (stWidth x + 127) / 128) then none
          else hintRows mem (j.src.hint + w 12) (w 16) ((stWidth x + 127) / 128) rows (fun l => l.map (fun b => b.toNat))
        { error := mv.isNone || mask.isNone, mv := mv.getD [], mask := mask.getD []
          cam := if useCam && bitOf (w 0) 2 then
              some ((List.range 9).map (fun k => signed32 (w (32 + 4 * k))), w 0 / 8 % 8)
            else none }
    | _ => { error := true }

/-- A slot that is not in use falls back to slot 0 (R120). -/
def refSlot (p : PicInfo) (ref : Nat) : Nat := if ref < p.l0.length then ref else 0

/-- A candidate clipped to the search range, in quarter samples (R120). -/
def clipVec (x : Stream) (mx my : Int) : Int × Int :=
  let h := 4 * Int.ofNat (fnat x.f 0x5316 512)
  let v := 4 * Int.ofNat (fnat x.f 0x5317 256)
  (clampI mx (-h) h, clampI my (-v) v)

/-- A field of a vector entry as a signed number. -/
def signedField (v lo w : Nat) : Int :=
  let n := v / 2 ^ lo % 2 ^ w
  if n < 2 ^ (w - 1) then Int.ofNat n else Int.ofNat n - 2 ^ w

/-- The camera candidate of a block, in quarter samples to the nearest (log 84); none where w is not positive. -/
def cameraVec (h : List Int) (bx by_ : Nat) : Option (Int × Int) :=
  let at_ := fun (k : Nat) => (h[k]?).getD 0
  let cx := Int.ofNat (16 * bx + 8)
  let cy := Int.ofNat (16 * by_ + 8)
  let w := at_ 6 * cx + at_ 7 * cy + at_ 8
  if w ≤ 0 then none
  else
    let q := fun (a c : Int) => Int.fdiv (8 * a + w) (2 * w) - 4 * c
    some (q (at_ 0 * cx + at_ 1 * cy + at_ 2) cx, q (at_ 3 * cx + at_ 4 * cy + at_ 5) cy)

/-- How a block is coded: the first rule of R120 that applies. -/
def codeBlock (x : Stream) (p : PicInfo) (h : Hints) (bx by_ : Nat) : Coding :=
  let masked := match tget h.mask by_ with
    | some row => !(bitOf ((row[bx / 8]?).getD 255) (bx % 8))
    | none => false
  let entry := ((tget h.mv by_).bind (fun row => row[bx]?)).getD 0
  let cam := h.cam.bind (fun c => (cameraVec c.1 bx by_).map (fun v => (clipVec x v.1 v.2, refSlot p c.2)))
  if p.key || (p.sweep && groupOf x p.len bx == p.pos) then .intra
  else if masked then .skip
  else if bitOf entry 31 then
    let v := clipVec x (signedField entry 0 14) (signedField entry 14 13)
    .vector v.1 v.2 (refSlot p (entry / 2 ^ 27 % 8)) (bitOf entry 30)
  else match cam with
    | some (v, r) => .camera v.1 v.2 r
    | none => .search

/-- The coding of a run's blocks, row by row; a fallback slice has no search: zero-motion skip, or DC in an intra slice
(05, "Overflow, late jobs and fallback slices"). -/
def codeBlocks (x : Stream) (j : Job) (fallback : Bool) (h : Hints) : List Coding :=
  let p := picInfo x j.picture
  (List.range ((j.first + j.count + 15) / 16 - j.first / 16)).flatMap (fun r =>
    (List.range ((stWidth x + 15) / 16)).map (fun bx =>
      if fallback then (if p.key then .intra else .skip) else codeBlock x p h bx (j.first / 16 + r)))

/-! ### Coded vectors (R122, R125) -/

/-- The right edge of what a reference has refreshed, for a picture in the same sweep; none where all of it is clean. -/
def refreshedEdge (x : Stream) (p : PicInfo) (ref : Nat) : Option Nat :=
  let r := picInfo x ref
  if r.key || !r.sweep || !p.sweep || r.recovered || decide (p.pos ≤ r.pos) then none
  else some ((r.pos + 1) * groupCols x p.len * sbSize x)

/-- Half the taps of the interpolation filters, in samples (PRESUMED, log 84). -/
def tapReach : Int := 4

/-- A coded vector points within the search range, taps included, and in a refreshed column group it predicts only from
at least 12 samples inside what its reference has refreshed (R122, R125). -/
def vecOk (x : Stream) (p : PicInfo) (v : CodedVec) : Bool :=
  let reach := fun (m : Int) => Int.ofNat ((m.natAbs + 7) / 8) + (if Int.emod m 8 = 0 then 0 else tapReach)
  let clean := match (p.l0[v.ref]?).bind (refreshedEdge x p) with
    | some edge => !(p.sweep && decide (groupOf x p.len v.bx < p.pos)) ||
        decide (Int.ofNat (16 * v.bx + 16) + Int.fdiv (v.mvx + 7) 8 + (if Int.emod v.mvx 8 = 0 then 0 else tapReach) + 12 ≤
          Int.ofNat edge)
    | none => true
  decide (reach v.mvx ≤ Int.ofNat (fnat x.f 0x5316 512)) && decide (reach v.mvy ≤ Int.ofNat (fnat x.f 0x5317 256)) && clean

/-! ### The QP of line groups (06 R142) -/

/-- Line groups of a slice. -/
def groupCount (x : Stream) (j : Job) : Nat := (j.count + sbSize x - 1) / sbSize x

/-- The QP after line group `k` (from 1) of `n`, `spent` bits having been spent against `budget` bytes: up where spent
exceeds 1.25 times the share, down where it is below 0.75 times; within the limits and the span about the QP `mid` that
the coding starts from. -/
def adaptQp (x : Stream) (lo hi mid : Int) (budget n k spent : Nat) (qp : Int) : Int :=
  let hevc := fnat x.f 0x5301 0 == 1
  let (up, down, span) : Int × Int × Int := if hevc then (2, 1, 6) else (8, 4, 24)
  let share := 8 * budget * k
  let q := if 5 * share < 4 * spent * n then qp + up else if 4 * spent * n < 3 * share then qp - down else qp
  clampI (clampI q (mid - span) (mid + span)) lo hi

/-- The QPs of the line groups that follow, from the bits spent after each. -/
def adaptFrom (x : Stream) (lo hi mid : Int) (budget n : Nat) : Nat → Nat → Int → List Nat → List Int
  | 0, _, _, _ => []
  | f + 1, k, qp, spent =>
    qp :: (match spent with
      | b :: r => adaptFrom x lo hi mid budget n f (k + 1) (adaptQp x lo hi mid budget n k b qp) r
      | [] => adaptFrom x lo hi mid budget n f (k + 1) qp [])

/-- The QP of each line group of a run that starts at QP `q` (R142); `adapt` is off in CQP and under a HOST entry of kind
QP, which ignore ROW_ADAPT. -/
def groupQps (x : Stream) (j : Job) (q : Int) (adapt : Bool) (spent : List Nat) : List Int :=
  let n := groupCount x j
  if adapt && fnat x.f 0x610C 1 == 1 then
    adaptFrom x (fnum x.f 0x6108 (qpLow x.f)) (fnum x.f 0x6109 (qpHigh x.f)) q j.budget n n 1 q spent
  else List.replicate n q

/-- The mean QP of a slice over its lines, rounded down (Table 5-8; log 85). -/
def meanQp (x : Stream) (j : Job) (qps : List Int) : Int :=
  let lines := fun (k : Nat) => min (sbSize x) (j.count - k * sbSize x)
  Int.fdiv ((qps.zipIdx.map (fun e => e.1 * Int.ofNat (lines e.2))).sum) (Int.ofNat (max 1 j.count))

/-! ### The form of the bitstream (R128, R153) -/

/-- leb128 of AV1: the value and the bytes behind it. -/
def leb128 : Nat → Nat → Nat → List Byte → Option (Nat × List Byte)
  | 0, _, _, _ => none
  | _, _, _, [] => none
  | f + 1, sh, acc, b :: r =>
    let v := acc + (b.toNat % 128) * 2 ^ sh
    if b.toNat < 128 then some (v, r) else leb128 f (sh + 7) v r

/-- The OBUs of a bitstream as type, payload and size in bytes; none where one has no size field or is cut short. -/
def obus : Nat → List Byte → Option (List (Nat × List Byte × Nat))
  | _, [] => some []
  | 0, _ => none
  | f + 1, b :: r =>
    let v := b.toNat
    let l := if bitOf v 2 then r.drop 1 else r
    if !(bitOf v 1) || bitOf v 7 || bitOf v 0 then none
    else match leb128 8 0 0 l with
      | some (n, l) =>
        if l.length < n then none
        else (obus f (l.drop n)).map (fun us => (v / 8 % 16, l.take n, 1 + (r.length - l.length) + n) :: us)
      | none => none

/-- The bytes up to the next start code, and those behind it. -/
def untilStart : List Byte → List Byte × Option (List Byte)
  | 0 :: 0 :: 0 :: 1 :: r => ([], some r)
  | b :: r => let (h, t) := untilStart r; (b :: h, t)
  | [] => ([], none)

/-- The NAL units behind 4-byte start codes. -/
def startCodeUnits : Nat → List Byte → List (List Byte)
  | 0, _ => []
  | f + 1, l => match untilStart l with
    | (u, some r) => u :: startCodeUnits f r
    | (u, none) => [u]

/-- The NAL units behind 4-byte big-endian lengths; none where one is cut short. -/
def lengthUnits : Nat → List Byte → Option (List (List Byte))
  | _, [] => some []
  | 0, _ => none
  | f + 1, l =>
    let n := leNat ((l.take 4).reverse)
    if l.length < 4 + n then none else (lengthUnits f (l.drop (4 + n))).map (fun r => (l.drop 4).take n :: r)

/-- The NAL units of a bitstream as type, payload and size with its framing, by FRAMING. -/
def nals (x : Stream) (l : List Byte) : Option (List (Nat × List Byte × Nat)) :=
  let units := if fnat x.f 0x531A 0 = 1 then lengthUnits l.length l
    else match l with
      | 0 :: 0 :: 0 :: 1 :: r => some (startCodeUnits l.length r)
      | _ => none
  units.bind (fun us => if us.all (fun u => decide (2 ≤ u.length)) then
    some (us.map (fun u => (((u.head?).map (fun b => b.toNat / 2 % 64)).getD 0, u.drop 2, u.length + 4))) else none)

/-- The units of a bitstream by CODEC. -/
def units (x : Stream) (l : List Byte) : Option (List (Nat × List Byte × Nat)) :=
  if fnat x.f 0x5301 0 = 0 then obus l.length l else nals x l

/-- The type of a filler unit: AV1 padding OBU, HEVC filler data NAL unit (R153). -/
def fillerType (x : Stream) : Nat := if fnat x.f 0x5301 0 = 0 then 15 else 38

/-- Filler bytes of a bitstream, its units' headers and framing among them (log 86). -/
def fillerBytes (x : Stream) (l : List Byte) : Nat :=
  (((units x l).getD []).map (fun u => if u.1 == fillerType x then u.2.2 else 0)).sum

/-- The payload type of an SEI unit's message. -/
def seiType (u : List Byte) : Nat := ((u.head?).map (fun b => b.toNat)).getD 255

/-- Is a slice segment's NAL unit type one of an IRAP picture? -/
def irapType (t : Nat) : Bool := decide (16 ≤ t) && decide (t ≤ 23)

/-- The unit types that the first slice of a picture puts before its own: the delimiter, the headers of a key picture, the
frame header or the SEI messages (R128). -/
def frontUnits (x : Stream) (p : PicInfo) : List Nat :=
  if fnat x.f 0x5301 0 = 0 then (if p.key then [2, 1, 3] else [2, 3])
  else [35] ++ (if p.key then [32, 33, 34] else []) ++ p.sei.map (fun _ => 39)

/-- The slice's own unit is a tile group, with tile_start_and_end_present_flag set in all but the first slice, or a slice
segment of the picture's kind (R128). -/
def sliceUnitOk (x : Stream) (p : PicInfo) (j : Job) (u : Nat × List Byte × Nat) : Bool :=
  if fnat x.f 0x5301 0 = 0 then
    u.1 == 4 && (j.slice == 0 || (match u.2.1 with | b :: _ => bitOf b.toNat 7 | [] => false))
  else decide (u.1 < 32) && irapType u.1 == p.key

/-- The bitstream of a packet is complete and self-delimiting: the units that R128 and R153 give it in their order, filler
last and only where it is allowed. -/
def bitstreamOk (x : Stream) (j : Job) (filler : Bool) (l : List Byte) : Bool :=
  let p := picInfo x j.picture
  let front := if j.slice = 0 then frontUnits x p else []
  match units x l with
  | none => false
  | some us =>
    let body := us.filter (fun u => u.1 != fillerType x)
    (us.take body.length == body) && (filler || us.length == body.length) &&
    (body.take front.length).map (fun u => u.1) == front &&
    (match body.drop front.length with
     | [u] => sliceUnitOk x p j u
     | _ => false) &&
    (fnat x.f 0x5301 0 == 0 || j.slice != 0 ||
      (body.filter (fun u => u.1 == 39)).map (fun u => seiType u.2.1) == p.sei)

end Sys2Proof.Machine
end

