-- ==== Sys2Proof/Machine/RateOps.lean ====
section
/-! DEFINITION. The rate-control unit (06): the decision of a job's QP and budget at its first dispatch,
the charge at its commit, and the model between them. Bits and bytes are whole numbers, rounded down
(log 22). -/

namespace Sys2Proof.Machine

/-- RC_MODE by position: CQP 0, CBR 1, VBR 2, CVBR 3, LINE_BUDGET 4, HOST 5. -/
def rcMode (x : Stream) : Nat := fnat x.f 0x6101 1

/-- CBR with HRD_SIGNAL ON: pictures follow one another, and the last slice of each carries filler (R153). -/
def cbrHrd (x : Stream) : Bool := rcMode x == 1 && fnat x.f 0x6110 0 == 1

/-- SOURCE DECODE. -/
def srcDecode (x : Stream) : Bool := fnat x.f 0x5308 0 == 1

/-- P as ns over a denominator: the fall line's frame period, times PICTURE_STEP for SOURCE DECODE. -/
def rcPeriod (s : State) (x : Stream) : Nat × Nat :=
  let fl := flGet s (stFl x)
  (flPeriodNum fl * (if srcDecode x then fnat x.f 0x530D 1 else 1), flDen fl)

/-- `rate` bit/s over `k` picture periods, in bits. -/
def bitsOver (s : State) (x : Stream) (rate k : Nat) : Nat :=
  let (a, b) := rcPeriod s x
  rate * a * k / (b * 1000000000)

/-- TARGET_BPS. -/
def rcTarget (x : Stream) : Nat := fnat x.f 0x6102 0

/-- PEAK_BPS, by default twice TARGET_BPS clipped to the level (R144). -/
def rcPeak (x : Stream) : Nat :=
  match fopt x.f 0x6103 with
  | some p => p
  | none => min (2 * rcTarget x) (levelRate x.f)

/-- BUF_BITS, by default four pictures clipped to the level (R144). In CVBR, where TARGET_BPS need not be given, the
default takes an absent one as 0 bit/s, and the buffer is 0 bits (DESIGN CHOICE, log 87). -/
def rcBuf (s : State) (x : Stream) : Nat :=
  match fopt x.f 0x6104 with
  | some b => b
  | none => min (4 * bitsOver s x (rcTarget x) 1) (levelBuf x.f)

/-- Drain rate D and size of the virtual buffer (Table 6-2). -/
def rcDrain (x : Stream) : Nat :=
  match rcMode x with
  | 1 => rcTarget x
  | 2 => rcPeak x
  | 3 => rcPeak x
  | _ => levelRate x.f
def rcSize (s : State) (x : Stream) : Nat :=
  match rcMode x with
  | 1 => rcBuf s x
  | 2 => rcBuf s x
  | 3 => rcBuf s x
  | _ => levelBuf x.f

/-- Default of a QP field: the HEVC value or the AV1 value. -/
def qpDefault (x : Stream) (hevc av1 : Int) : Int := if fnat x.f 0x5301 0 = 1 then hevc else av1

/-- MIN_QP, MAX_QP, MAX_QP_STEP, INIT_QP, QUALITY, QP_INTRA and QP_INTER of Table 6-1. -/
def rcMinQp (x : Stream) : Int := fnum x.f 0x6108 (qpLow x.f)
def rcMaxQp (x : Stream) : Int := fnum x.f 0x6109 (qpHigh x.f)
def rcStep (x : Stream) : Int := fnum x.f 0x610A (qpDefault x 4 16)
def rcInit (x : Stream) : Int := fnum x.f 0x610B (qpDefault x 32 128)
def rcQuality (x : Stream) : Int := fnum x.f 0x6107 (qpDefault x 30 120)
def rcIntra (x : Stream) : Int := fnum x.f 0x6105 (qpDefault x 32 128)
def rcInter (x : Stream) : Int := fnum x.f 0x6106 (qpDefault x 34 136)

/-- x(s) of R140, in bits times 1/2^32 of a quantiser step. -/
def modelX (x : Stream) (picture : Nat) (m : RcModel) : Nat :=
  let (a, b) := intraShare x picture
  ((b - a) * m.xp + a * m.xi) / b

/-- bits(s, q) of R140. -/
def modelBits (x : Stream) (picture q : Nat) (m : RcModel) : Nat := m.h + modelX x picture m / max 1 q

/-- qp_ref of a slice index in a picture of its type, or INIT_QP (R140). -/
def qpRef (x : Stream) (picture slice : Nat) : Int :=
  match tget (if (picInfo x picture).key then x.rc.refKey else x.rc.refInter) slice with
  | some q => q
  | none => rcInit x

/-- The fallback bound of a slice, in bytes (R130). -/
def sliceBound (x : Stream) (k : Nat) : Nat := fallbackBound (sliceSamples x k)

/-- bits(r, q_ref) of a slice index, or its area share where it has no model (R145). -/
def splitBits (x : Stream) (picture r : Nat) : Nat :=
  match tget x.rc.models r with
  | some m => modelBits x picture (qstepOf x (qpRef x picture r)) m
  | none =>
    let known := (List.range (sliceCount x)).filter (fun k => thas x.rc.models k)
    let bits := (known.map (fun k => match tget x.rc.models k with
      | some m => modelBits x picture (qstepOf x (qpRef x picture k)) m
      | none => 0)).sum
    let area := (known.map (sliceSamples x)).sum
    if area = 0 then sliceSamples x r else sliceSamples x r * bits / area

/-- Bits in flight of an uncommitted job: its budget, or, where it has not been decided, its predicted bits at the
latest QP (R139). One whose slice index has no model yet counts as 0 bits (DESIGN CHOICE, log 88). -/
def jobBits (x : Stream) (j : Job) : Nat :=
  match j.qp with
  | some _ => 8 * j.budget
  | none =>
    match tget x.rc.models j.slice with
    | some m => modelBits x j.picture (qstepOf x (x.rc.lastQp.getD (rcInit x))) m
    | none => 0

/-- Bits in flight of those of the stream's jobs before `seq` that `p` names (R139). -/
def inflightBits (x : Stream) (seq : Nat) (p : Job → Bool) : Nat :=
  (x.jobs.map (fun j => if later32 seq j.seq && p j then jobBits x j else 0)).sum

/-- C of R145: the bits of the picture's earlier slices, committed or in flight. -/
def spentBits (x : Stream) (j : Job) : Nat :=
  (picInfo x j.picture).c + inflightBits x j.seq (fun k => k.picture == j.picture)

/-- V, as a decision sees it: what jobs of earlier pictures have in flight counts as spent (R139). -/
def seenV (x : Stream) (j : Job) : Nat := x.rc.v + inflightBits x j.seq (fun k => k.picture != j.picture)

/-- Bytes that a job may have by the hard cap of R147: they must not raise V + C above the buffer size. The committed bits
of a picture's earlier slices stand both in V and in C (DEDUCED: the rule's words, log 89). -/
def bufferRoom (s : State) (x : Stream) (j : Job) : Nat := (rcSize s x - (x.rc.v + spentBits x j)) / 8

/-- The share of a target that slice `k` takes of what remains (R145), in bits. -/
def shareOf (x : Stream) (picture k : Nat) (left : Int) : Nat :=
  let total := ((List.range (sliceCount x - k)).map (fun i => splitBits x picture (k + i))).sum
  if total = 0 then 0 else (Int.toNat left) * splitBits x picture k / total

/-- The lowest QP whose qstep reaches what a budget of `bytes` needs, clamped (R140). -/
def qpForBudget (x : Stream) (picture slice bytes : Nat) (lo hi : Int) : Int :=
  match tget x.rc.models slice with
  | none => clampI (rcInit x) lo hi
  | some m =>
    let need := modelX x picture m / max (8 * bytes - m.h) 256
    let cands := (List.range (qpHigh x.f - qpLow x.f + 1).toNat).map (fun i => qpLow x.f + Int.ofNat i)
    let q := (cands.find? (fun q => decide (need ≤ qstepOf x q))).getD (qpHigh x.f)
    let r := qpRef x picture slice
    clampI (clampI q lo hi) (r - rcStep x) (r + rcStep x)

/-- The shaper that carries a stream's output: a bus shaper, or the host-link shaper of the owning function. -/
inductive OutShaper | bus (n : Nat) | host (fn : Nat)
deriving DecidableEq, Repr

/-- The shaper that LB_SHAPER names (Table 6-1). -/
def lbShaper (x : Stream) : OutShaper :=
  match tget x.f 0x6111 with
  | some (.num n) => .bus n.toNat
  | _ => .host x.owner

/-- Is a stream's output carried by a shaper: it names it in LINE_BUDGET, or the TX flow or host link that takes its
OUTPUT_QUEUE uses it (R148)? -/
def usesShaper (s : State) (sh : OutShaper) (x : Stream) : Bool :=
  x.kind == .encode &&
  ((rcMode x == 4 && lbShaper x == sh) ||
   (match (outQueue x).bind (fun q => (qGet s q).map (fun y => (q, y))) with
    | some (q, y) =>
      (match sh with
       | .host fn => qConsumer y.w == 2 && qFn y.w == fn
       | .bus n =>
         let flows := fun (v : Port) => v.tx.any (fun e => fopt e.2.f 0xA903 == some q && e.2.shaper == some n)
         flows s.bus.oa || flows s.bus.ob)
    | none => false))

/-- Tokens in 1/65,536 byte, rate in bit/s and backlog in bytes of a shaper, brought up to the present cycle (R148, R149).
A function without a host-link shaper has the link's rate. -/
def shaperTerms (s : State) : OutShaper → Int × Nat × Nat
  | .bus n =>
    match tget s.sched.shapers n with
    | some sh =>
      let b := refill sh.b s.keel.frc
      (b.tokens, b.rate, shaperBacklog s n sh.overhead)
    | none => (0, 0, 0)
  | .host fn =>
    match (tgetD s.sched.fns fn {}).b with
    | some b =>
      let b := refill b s.keel.frc
      (b.tokens, b.rate, fnBacklog s fn)
    | none => (0, 52000000000 * 8, fnBacklog s fn)

/-- In-flight budgets of every job whose output uses the shaper (R148). -/
def lbInflight (s : State) (sh : OutShaper) : Nat :=
  (s.arr.streams.map (fun e =>
    if usesShaper s sh e.2 then (e.2.jobs.map (fun j => if j.qp.isSome then j.budget else 0)).sum else 0)).sum

/-- The denominator of `lbAvail`. -/
def availDen : Int := 8000000000 * 65536

/-- avail of R148, exactly, in bytes times `availDen`. -/
def lbAvail (s : State) (x : Stream) (j : Job) : Int :=
  let sh := lbShaper x
  let (tokens, rate, backlog) := shaperTerms s sh
  let fl := flGet s (jobFl x j)
  let now := activeNow s
  let tWire := match j.deadline with
    | some p => (flTimeOf fl (posIdx fl p + fnum x.f 0x6112 0 * 65536)).getD now
    | none => now
  tokens * 8000000000 + Int.ofNat rate * (tWire - now) - Int.ofNat (backlog + lbInflight s sh) * availDen

/-- The entry that HOST_QUEUE gives a job: earlier and malformed entries are removed and counted in HOST_STALE (R150). -/
def takeHostEntry (n : Nat) (x : Stream) (j : Job) : Nat → State → State × Option RcEntry
  | 0, s => (s, none)
  | k + 1, s =>
    let q := fnat x.f 0x6114 0
    match headWhole q s with
    | (s, none) => (s, none)
    | (s, some p) =>
      let e := parseRc ((p.cells.map (fun c => c.data)).flatten)
      let bad := !((e.kind == 1 || e.kind == 2) && e.rsvdOk &&
        (e.kind == 2 || (decide (qpLow x.f ≤ e.qp) && decide (e.qp ≤ qpHigh x.f))))
      let hit := e.picture == j.picture && e.slice == j.slice
      let earlier := later32 j.picture e.picture || (e.picture == j.picture && decide (e.slice < j.slice))
      if p.abort.isSome then takeHostEntry n x j k (dropRestOp q s)
      else if hit && bad then (stCount n ctrHostStale 1 (popHead q s), none)
      else if hit then (popHead q s, some e)
      else if earlier then takeHostEntry n x j k (stCount n ctrHostStale 1 (popHead q s))
      else (s, none)

/-- The host's input of a job, looked for through the whole queue; while PERST_N is asserted it is missing (01 R27). -/
def hostInput (n : Nat) (x : Stream) (j : Job) (s : State) : State × Option RcEntry :=
  if s.link.perst then (s, none)
  else takeHostEntry n x j (((qGet s (fnat x.f 0x6114 0)).map (fun y => y.pkts.length + 1)).getD 0) s

/-! ### Pictures (R145, R146, R151) -/

/-- The largest number below `lo + 2^k`, at least `lo`, whose fifth power is at most `n`. -/
def root5 (n : Nat) : Nat → Nat → Nat
  | 0, lo => lo
  | k + 1, lo => root5 n k (if (lo + 2 ^ k) ^ 5 ≤ n then lo + 2 ^ k else lo)

/-- c^0.6 of a picture's cost, in 1/65,536, rounded down (R151; log 22). -/
def costWeight (c : Nat) : Nat := root5 (c ^ 3 * 2 ^ 80) 64 0

/-- The pictures of a stream after a picture, in submission order. -/
def laterPics (x : Stream) (picture : Nat) : List Nat := (x.enc.order.filter (fun p => later32 p picture)).reverse

/-- The costs of the analysed pictures from a picture on, at most LOOKAHEAD + 1 of them, none missing between (R151). -/
def laCosts (x : Stream) (picture : Nat) : List Nat :=
  (((picture :: laterPics x picture).take (fnat x.f 0x610E 0 + 1)).takeWhile (thas x.enc.laDone)).map
    (fun p => tgetD x.enc.laDone p 0)

/-- T weighted over the analysed pictures (R151); where their costs are all 0 the weight is open (log 90). -/
def laTarget (t : Int) (costs : List Nat) : Int :=
  let w := (costs.map costWeight).sum
  match costs with
  | [] => t
  | c :: _ =>
    if w = 0 then Config.laEven t costs.length
    else Int.fdiv (t * Int.ofNat costs.length * Int.ofNat (costWeight c)) (Int.ofNat w)

/-- The picture before a picture in submission order, and Δ. -/
def prevPic (x : Stream) (picture : Nat) : Option Nat := (earlierPics x picture).head?
def picDelta (x : Stream) (picture : Nat) : Nat :=
  match prevPic x picture with
  | some p => (picture + 2 ^ 32 - p) % 2 ^ 32
  | none => 1

/-- Bits of the previous picture: committed, and what it still has in flight (R139, R146; log 91). -/
def prevBits (x : Stream) (j : Job) : Nat :=
  match prevPic x j.picture with
  | some p => (picInfo x p).c + inflightBits x j.seq (fun k => k.picture == p)
  | none => 0

/-- At the decision of a picture's slice 0, V drains and the picture target is set (R145-R147). -/
def beginPictureRc (s : State) (x : Stream) (j : Job) : Stream :=
  let delta := picDelta x j.picture
  let size := Int.ofNat (rcSize s x)
  let x := { x with rc := { x.rc with v := x.rc.v - bitsOver s x (rcDrain x) delta } }
  let v := Int.ofNat (seenV x j)
  let aim := Int.ofNat (bitsOver s x (rcTarget x) delta)
  let window := max 1 (fnat x.f 0x610D 10)
  let most := Int.ofNat (rcTarget x * window)
  let a := clampI (x.rc.a + aim - Int.ofNat (prevBits x j)) (-most) most
  let (pn, pd) := rcPeriod s x
  let t := match rcMode x with
    | 1 => aim + Int.fdiv (size - 2 * v) 16
    | 2 => aim + Int.fdiv (a * Int.ofNat pn) (Int.ofNat (pd * 1000000000 * window))
    | 3 => Int.fdiv (size - v) 2
    | _ => 0
  let t := if 0 < fnat x.f 0x610E 0 then laTarget t (laCosts x j.picture) else t
  { x with rc := { x.rc with a := if rcMode x = 2 then a else x.rc.a }
           enc := { x.enc with pics := tput x.enc.pics j.picture { picInfo x j.picture with t := t } } }

/-! ### Decisions and charges (R136-R141) -/

/-- What a decision comes to: QP, budget in bytes, the further cap of LINE_BUDGET, and the limits of the QP that a HOST entry
of kind BUDGET gives (R148, R150). -/
structure Decided where
  qp     : Int
  budget : Nat
  cap    : Option Nat := none
  limits : Option (Int × Int) := none
deriving DecidableEq, Repr

/-- The decision of a job by its mode (R140, R145-R150). A slice decided before its picture's slice 0 has no target yet, and
takes the bound (DEDUCED, log 92). In CQP, and in HOST for an entry of kind QP or a missing one, the spec gives no budget:
the fallback bound stands for it and counts as in flight (DESIGN CHOICE, log 93). -/
def decision (n : Nat) (x : Stream) (j : Job) (s : State) : State × Decided :=
  let bound := sliceBound x j.slice
  let lo := rcMinQp x
  let hi := rcMaxQp x
  let left := (picInfo x j.picture).t - Int.ofNat (spentBits x j)
  let share := shareOf x j.picture j.slice left
  let by_ := fun (b : Nat) => { qp := qpForBudget x j.picture j.slice b lo hi, budget := b : Decided }
  match rcMode x with
  | 0 => (s, { qp := clampI (if (picInfo x j.picture).key then rcIntra x else rcInter x) lo hi, budget := bound })
  | 3 =>
    let want := match tget x.rc.models j.slice with
      | some m => modelBits x j.picture (qstepOf x (rcQuality x)) m
      | none => share
    (s, by_ (max (min want share / 8) bound))
  | 4 =>
    let avail := lbAvail s x j
    let b := max (Int.fdiv (avail * Int.ofNat (fnat x.f 0x6113 14)) (16 * availDen)).toNat bound
    let s := if avail < Int.ofNat bound * availDen then stCount n ctrStarved 1 s else s
    (s, { by_ b with cap := some (max (Int.fdiv avail availDen).toNat bound) })
  | 5 =>
    match hostInput n x j s with
    | (s, some e) =>
      if e.kind = 1 then (s, { qp := clampI e.qp lo hi, budget := bound })
      else (s, { qp := qpForBudget x j.picture j.slice e.budget e.minQp e.maxQp, budget := e.budget
                 limits := some (e.minQp, e.maxQp) })
    | (s, none) =>
      (hostMiss x.owner (stCount n ctrHostMiss 1 s), { qp := clampI (x.rc.lastQp.getD (rcInit x)) lo hi, budget := bound })
  | _ => (s, by_ (max (share / 8) bound))

/-- The fields of class "next job" that a decided job goes by, with the limits that its HOST entry gives (R150, R154). -/
def decidedFields (f live : Tbl RVal) (d : Decided) : Tbl RVal :=
  let f := overlay rcJobFields f live
  match d.limits with
  | some (lo, hi) => tput (tput f 0x6108 (.num lo)) 0x6109 (.num hi)
  | none => f

/-- The decision of a job at its first dispatch, under the fields of class "next job" as they stand (R136-R150, R154). -/
def decideJob (n seq : Nat) (s : State) : State :=
  match stGet s n with
  | none => s
  | some x0 =>
    match jobGet x0 seq with
    | none => s
    | some j =>
      if j.qp.isSome then s
      else
        let x := jobView x0 j
        let x := if j.slice = 0 then beginPictureRc s x j else x
        let (s, d) := decision n x j (stSet s n { x0 with rc := x.rc, enc := x.enc })
        let key := (picInfo x j.picture).key
        let s := setJob n seq (fun j => { j with
          qp := some d.qp, budget := d.budget, cap := d.cap, byBudget := d.limits.isSome
          f := some (decidedFields (j.f.getD []) x0.f d) }) s
        stMod n (fun x => { x with rc := { x.rc with
          lastQp := some d.qp
          refKey := if key then tput x.rc.refKey j.slice d.qp else x.rc.refKey
          refInter := if key then x.rc.refInter else tput x.rc.refInter j.slice d.qp } }) s

/-- The model of a slice index after a commit (R141): averaged by a quarter, or set by the first update. XI (or XP) of
which a first update says nothing starts at 0, and its own first value is averaged from there (DESIGN CHOICE, log 94). -/
def updateModel (x : Stream) (j : Job) (qpAvg : Int) (r : RunReport) : Stream :=
  let q := qstepOf x qpAvg
  let (a, b) := intraShare x j.picture
  let old := tget x.rc.models j.slice
  let avg := fun (o v : Nat) => (Int.ofNat o + Int.fdiv (Int.ofNat v - Int.ofNat o) 4).toNat
  let xi := if a = 0 then none else some (q * r.intraBits * b / a)
  let xp := if b ≤ a then none else some (q * r.interBits * b / (b - a))
  let m : RcModel := match old with
    | some o => { h := avg o.h r.hdrBits
                  xi := match xi with | some v => avg o.xi v | none => o.xi
                  xp := match xp with | some v => avg o.xp v | none => o.xp }
    | none => { h := r.hdrBits, xi := xi.getD 0, xp := xp.getD 0 }
  { x with rc := { x.rc with models := tput x.rc.models j.slice m } }

/-- The charge of a committed packet of `bytes`, slice record included (R138); `r` is what a slice other than a fallback
slice teaches the model. -/
def chargeJob (n bytes : Nat) (j : Job) (r : Option (Int × RunReport)) (s : State) : State :=
  stMod n (fun x =>
    let bits := 8 * bytes
    let p := picInfo x j.picture
    let x := { x with
      rc := { x.rc with v := x.rc.v + bits }
      enc := { x.enc with pics := if thas x.enc.pics j.picture then tput x.enc.pics j.picture { p with c := p.c + bits }
                                  else x.enc.pics }
      ctr := cinc x.ctr ctrCharged bits }
    match r with
    | some (qpAvg, r) => updateModel x j qpAvg r
    | none => x) s

/-! ### The QP of a run (R137, R142, Table 5-8) -/

/-- The QP that a run's coding starts from after `k` overflow retries (R137). -/
def retryQp (x : Stream) (q : Int) (k : Nat) : Int :=
  if k = 0 then q else min (q + Int.ofNat (k * fnat x.f 0x531D 8)) (rcMaxQp x)

/-- Does the QP move inside the slice (R142)? CQP and a HOST entry of kind QP ignore ROW_ADAPT; a missing entry, which
gives a QP and no budget, is treated as one (log 93). -/
def rowAdapts (x : Stream) (j : Job) : Bool :=
  match rcMode x with
  | 0 => false
  | 5 => j.byBudget
  | _ => true

/-- QP_AVG of a slice that starts at QP `q` (Table 5-8): the mean over its line groups; in CQP the blocks forced to intra
have QP_INTRA (Table 6-1), and a fallback slice has the highest QP in an intra picture (log 85). -/
def qpAverage (x : Stream) (j : Job) (q : Int) (retries : Nat) (fallback : Bool) (spent : List Nat) : Int :=
  let p := picInfo x j.picture
  if fallback then (if p.key then qpHigh x.f else q)
  else if rcMode x = 0 ∧ !p.key then
    let (a, b) := intraShare x j.picture
    let qi := retryQp x (clampI (rcIntra x) (rcMinQp x) (rcMaxQp x)) retries
    Int.fdiv (qi * Int.ofNat a + q * Int.ofNat (b - a)) (Int.ofNat b)
  else meanQp x j (groupQps x j q (rowAdapts x j) spent)

/-- With CBR and HRD_SIGNAL, V after a picture's last slice is at least TARGET_BPS x P (R153). -/
def fillerOk (s : State) (x : Stream) (j : Job) (bytes : Nat) : Bool :=
  let (a, b) := rcPeriod s x
  !(cbrHrd x && j.eop) || decide (rcTarget x * a ≤ (x.rc.v + 8 * bytes) * (b * 1000000000))

end Sys2Proof.Machine
end

