-- ==== Sys2Proof/Machine/CoreOps.lean ====
section
/-! DEFINITION. What cores, runs and commits share (04, 05, 07): clock steps and rates, references, the
start of a run, the writing of jobs, the linking of chains, band records and host writes of pixels. -/

namespace Sys2Proof.Machine

/-! ### Clock steps, lanes and rates (R88, R105, R106) -/

/-- The clock step a core runs at: the lower clock of its thermal step and the array step. -/
def coreStep (s : State) (c : Nat) : Nat := max (coreGet s c).step s.arr.arrayStep

/-- Enabled pixel lanes and entropy lanes of a lane mask. -/
def pixelLanes (m : Nat) : Nat := (List.range 4).countP (fun k => bitOf m k)
def entropyLanes (m : Nat) : Nat := (List.range 2).countP (fun k => bitOf m (4 + k))

/-- A rate at 1.2 GHz with all lanes, scaled to a core's clock and lanes (R88). -/
def scaleRate (s : State) (c rate : Nat) : Nat :=
  let r := rate * (4 - coreStep s c) / 4
  if pixelLanes (coreGet s c).lanes < 4 then r * 3 / 4 else r

/-- A rate on a core normalised to 1.2 GHz and all lanes (R97). -/
def normRate (s : State) (c rate : Nat) : Nat :=
  let r := rate * 4 / max 1 (4 - coreStep s c)
  if pixelLanes (coreGet s c).lanes < 4 then r * 4 / 3 else r

/-- The time at its clock step is added to a core's residency counters (R110), from its entry into service on. -/
def settle (c : Nat) (s : State) : State :=
  let x := coreGet s c
  let d := if x.served then s.keel.frc - x.resSince else 0
  let x := { x with resSince := s.keel.frc }
  coreSet s c (match coreStep s c with
    | 0 => { x with res0 := x.res0 + d }
    | 1 => { x with res1 := x.res1 + d }
    | _ => { x with res2 := x.res2 + d })

/-- Nanoseconds that `p` pixels take at a rate. -/
def pixelNs (p rate : Nat) : Nat := (p * 1000000000 + max 1 rate - 1) / max 1 rate

/-- All cores' residency counters brought up to date. -/
def settleAll (s : State) : State := (List.range 16).foldl (fun s c => settle c s) s

/-- Cores that are ONLINE or parked, and cores that may take a run. -/
def inServiceCore (x : Core) : Bool := x.st == .online
def freeCores (s : State) : List Nat :=
  (List.range 16).filter (fun c =>
    let x := coreGet s c
    x.st == .online && x.run.isNone && (s.arr.selftest.map (fun t => t.next)) != some c && (s.eng == .piste || c == 0))

/-- A run that has not reported yet is predicted anew at its core's present rate, the pixels before being reckoned at the
rate before (R97). -/
def rerate (c : Nat) (s : State) : State :=
  let k := coreGet s c
  match k.run with
  | none => s
  | some r =>
    match stGet s r.stream with
    | none => s
    | some x =>
      if r.reported then s
      else
        let now := max s.keel.frc r.estAt
        let done := min r.pixels (r.estDone + r.rate * (now - r.estAt) / 1000000000)
        let rate := scaleRate s c x.rate
        coreSet s c { k with run := some { r with
          estDone := done, estAt := now, rate := rate, fin := now + pixelNs (r.pixels - done) rate } }

/-- Every run is predicted anew after a change of the array step. -/
def rerateAll (s : State) : State := (List.range 16).foldl (fun s c => rerate c s) s

/-! ### References and waiting jobs (R91, R134, R151) -/

/-- Lines of a picture reconstructed: those before the first uncommitted slice, or damaged band that has no job; where
filtering crosses slice edges the last 8 of them wait for the next slice (R124). -/
def reconLines (x : Stream) (picture : Nat) : Nat :=
  let got := tgetD x.recon picture 0
  let open_ := (x.jobs.filter (fun j => j.picture == picture)).map (fun j => j.first) ++
    (x.dec.areas.filter (fun a => a.picture == picture && !a.display)).map (fun a => a.first)
  let l := open_.foldl min got
  let across := x.kind == .encode && (fnat x.f 0x5301 0 == 0 || fnat x.f 0x5315 (if fnat x.f 0x530E 0 = 0 then 0 else 1) == 1)
  if across && decide (l < stHeight x) then l - 8 else l

/-- Has every job of a picture committed, the placeholders of damaged bands without a job among them (R91, 07 R168)? -/
def pictureDone (x : Stream) (picture : Nat) : Bool :=
  !(x.jobs.any (fun j => j.picture == picture)) && !(x.dec.areas.any (fun a => a.picture == picture && !a.display))

/-- Does a reference satisfy R91 for a job? -/
def refReady (x : Stream) (j : Job) (ref : Nat) : Bool :=
  match x.kind with
  | .encode => decide (min (stHeight x) (j.first + j.count + fnat (jobView x j).f 0x430A 264) ≤ reconLines x ref)
  | _ => pictureDone x ref

/-- A job of a SOURCE DECODE stream waits for the lines it scales from (R134). -/
def sourceReady (s : State) (x : Stream) (j : Job) : Bool :=
  if x.kind == .encode && srcDecode x then
    match (fopt x.f 0x530C).bind (stGet s) with
    | none => true
    | some d =>
      let hs := stHeight d
      let h := max 1 (stHeight x)
      let through := min hs (((j.first + j.count) * hs + h - 1) / h + 5)
      decide (through ≤ reconLines d (j.picture * fnat x.f 0x530D 1))
  else true

/-- A job's lookahead wait is over: its picture and the LOOKAHEAD ones after it are analysed, or it was released
(R151). -/
def laReady (x : Stream) (j : Job) : Bool :=
  let n := fnat x.f 0x610E 0
  let next := (laterPics x j.picture).take n
  !j.laWait || (thas x.enc.laDone j.picture && next.length == n && next.all (thas x.enc.laDone))

/-- May a WAITING job become ELIGIBLE? -/
def jobReady (s : State) (x : Stream) (j : Job) : Bool :=
  !j.ended && j.damage == 0 && (jobRefs x j).all (refReady x j) && sourceReady s x j && laReady x j

/-! ### How long decoded pictures stay (R135) -/

/-- The encode streams that take their pictures from decode stream `n`. -/
def takers (s : State) (n : Nat) : Tbl Stream :=
  s.arr.streams.filter (fun e => e.2.kind == .encode && srcDecode e.2 && fopt e.2.f 0x530C == some n)

/-- Does a decode stream still need a picture: work of it is open, a job names it as a reference, or it is among the
newest 16 (DESIGN CHOICE, log 96)? -/
def decNeeds (x : Stream) (picture : Nat) : Bool :=
  !(pictureDone x picture) || x.jobs.any (fun j => j.refs.contains picture) ||
    decide (x.recon.countP (fun e => later32 e.1 picture) < 16)

/-- Must a decoded picture stay: its stream needs it, a stream that encodes it has jobs of it, or output of it has not
been delivered (R135)? -/
def pictureStays (s : State) (n : Nat) (x : Stream) (picture : Nat) : Bool :=
  decNeeds x picture ||
  (takers s n).any (fun e =>
    let step := max 1 (fnat e.2.f 0x530D 1)
    picture % step == 0 && (e.2.jobs.any (fun j => j.picture == picture / step) ||
      e.2.enc.toWrite.any (fun w => w.1 == picture / step))) ||
  s.sched.units.any (fun u => u.pic == some (n, picture))

/-- Decoded pictures that nothing needs leave HBM (R135). -/
def dropFrames (s : State) : State :=
  { s with arr := { s.arr with streams := tmap s.arr.streams (fun n x =>
      if x.kind == .decode then
        let keep := fun (p : Nat) => pictureStays s n x p
        { x with recon := x.recon.filter (fun e => keep e.1), donePics := x.donePics.filter (fun e => keep e.1)
                 frames := x.frames.filter (fun e => keep e.1) }
      else x) } }

/-- Jobs leave WAITING as soon as they can (R91), and pictures leave HBM (R135). -/
def releaseWaiting (s : State) : State :=
  let s := { s with arr := { s.arr with streams := tmap s.arr.streams (fun _ x =>
      { x with jobs := x.jobs.map (fun j =>
          if j.st == .waiting && jobReady s x j then { j with st := .eligible } else j) }) } }
  dropFrames s

/-! ### Writing jobs -/

/-- The 64 bytes of a descriptor that the engine writes (Table 4-4). -/
def jobBytes (kind picture first count slice tag : Nat) (eop : Bool) : List Byte :=
  leBytes 4 (kind + bit01 eop * 2048) ++ leBytes 4 picture ++ leBytes 2 first ++ leBytes 2 count ++ leBytes 2 slice ++
    leBytes 2 0 ++ leBytes 8 0 ++ leBytes 4 0 ++ leBytes 4 tag ++ leBytes 32 0

/-- The pictures of an encode stream with one more in front; those that no open job can reference any more go. -/
def orderWith (x : Stream) (picture : Nat) : List Nat :=
  if x.enc.order.contains picture then x.enc.order
  else
    let oldest := x.jobs.head?.map (fun j => j.picture)
    picture :: (x.enc.order.takeWhile (fun p => some p != oldest) ++
      (x.enc.order.dropWhile (fun p => some p != oldest)).take 9)

/-- A job is accepted into a stream's job queue: its packet takes the queue's next sequence number (R62, R90), and it
takes the fields of class "next job" (R17). The answer is the job as accepted. -/
def addJob (n : Nat) (data : List Byte) (j : Job) (s : State) : State × Option Job :=
  match stGet s n with
  | none => (s, none)
  | some x =>
    let q := jobQueue x
    if !(hasCredit s q 1) then (if ((qGet s q).map (fun y => y.blocked)).getD false then s else overrun q s, none)
    else
      let seq := match qGet s q with | some y => y.seq | none => 0
      let s := writePacket q data true { userTag := j.userTag, deadline := j.deadline, jobSeq := seq } s
      let j := { j with seq := seq, born := s.keel.frc, f := some (sampled jobFields x.f) }
      let j := { j with key := keyOf s x j }
      (stMod n (fun x => { x with
        jobs := x.jobs ++ [j]
        jobSeq := (seq + 1) % 2 ^ 32
        linkNext := if x.jobs.isEmpty && x.linkNext == x.jobSeq then seq else x.linkNext
        enc := if x.kind == .encode then { x.enc with order := orderWith x j.picture } else x.enc
        recon := tput x.recon j.picture (max (tgetD x.recon j.picture 0) (j.first + j.count)) }) s, some j)

/-- Slice `k` of a picture that a transcode stream encodes is written as a job, with USER_TAG zero (R134). -/
def writeTranscodeJob (n picture k : Nat) (s : State) : State :=
  match stGet s n with
  | none => s
  | some x =>
    let first := k * sliceLines x
    let count := min (sliceLines x) (stHeight x - first)
    let eop := k + 1 == sliceCount x
    (addJob n (jobBytes 1 picture first count k 0 eop)
      { seq := 0, st := .waiting, picture := picture, first := first, count := count, slice := k, eop := eop,
        deadline := some (hwDeadline s x picture first count), host := false,
        laWait := decide (0 < fnat x.f 0x610E 0) } s).1

/-- The jobs that a transcode stream still has to write, as far as its job queue has credit and its fall line runs (R49,
R134; log 95). -/
def writeDue (n : Nat) : Nat → State → State
  | 0, s => s
  | k + 1, s =>
    match stGet s n with
    | none => s
    | some x =>
      match x.enc.toWrite with
      | [] => s
      | (p, i) :: r =>
        if x.stopped || !(hasCredit s (jobQueue x) 1) || flSource (flGet s (stFl x)) == 3 then s
        else writeDue n k (writeTranscodeJob n p i (stMod n (fun x => { x with enc := { x.enc with toWrite := r } }) s))

/-- The engine writes the encode jobs of a selected decode picture (R134). -/
def writeTranscode (n picture : Nat) (s : State) : State :=
  match stGet s n with
  | none => s
  | some x =>
    let step := max 1 (fnat x.f 0x530D 1)
    let p := picture / step
    if picture % step != 0 || x.stopped || (x.sub.any && !(later32 p x.sub.picture)) then s
    else
      let todo := (List.range (sliceCount x)).map (fun i => (p, i))
      writeDue n todo.length (stMod n (fun x => { x with
        sub := { x.sub with any := true, picture := p, eop := true }
        enc := { x.enc with toWrite := x.enc.toWrite ++ todo } }) s)

/-! ### Linking (R63, R81, R127) -/

/-- The 32 bytes of a band record (Table 7-4). -/
def bandBytes (r : BandRec) : List Byte :=
  leBytes 4 r.jobSeq ++ leBytes 4 r.picture ++ leBytes 2 r.slice ++ leBytes 2 r.flags ++ leBytes 2 r.first ++
    leBytes 2 r.count ++ leBytes 1 r.damage ++ leBytes 1 0 ++ leBytes 2 r.dirty ++ leBytes 4 r.userTag ++
    leBytes 4 (min r.runNs (2 ^ 32 - 1)) ++ leBytes 4 0

/-- The core and run of a job of a stream (its first run). -/
def runOf (s : State) (n seq : Nat) : Option (Nat × Run) :=
  (List.range 16).findSome? (fun c => match (coreGet s c).run with
    | some r => if r.stream == n && r.job == seq then some (c, r) else none
    | none => none)

/-- The staged chain of a job's only run, when the job has become the lowest unlinked one: its cells move
into an open packet of the queue, and it is linked as it is written from then on (R63). -/
def linkStaged (n q : Nat) (x : Stream) (s : State) : State :=
  match jobGet x x.linkNext, runOf s n x.linkNext, qGet s q with
  | some j, some (c, r), some y =>
    match y.chains.find? (fun e => e.job == j.seq && e.core == c) with
    | none => s
    | some ch =>
      if j.st != .running || j.whole || r.linking || ch.cells.isEmpty || (qOpen y).isSome || y.blocked then s
      else
        let d0 := qDepth y
        let s := openPkt q { userTag := j.userTag, deadline := j.deadline, jobSeq := j.seq } s
        let s := qMod q (fun y =>
          let y := { y with mode := some ch.mode, chains := y.chains.map (fun e =>
            if e.job == j.seq && e.core == c then { e with cells := [] } else e) }
          match qOpen y with
          | none => y
          | some p =>
            let p := { p with cells := ch.cells, bytes := (ch.cells.map (fun e => e.data.length)).sum }
            let (glide, _, th, _) := y.mode.getD (false, false, 0, 0)
            let (y, p) := if glide && decide (th ≤ p.cells.length) then makeVisible s.keel.frc y p else (y, p)
            { y with pkts := putOpen p y.pkts }) s
        let k := coreGet s c
        noteDepth q d0 (coreSet s c { k with run := some { r with linking := true } })
  | _, _, _ => s

/-- Committed chains are linked in job order (R63); a job-result record is written when its turn comes. -/
def linkReady (n : Nat) : Nat → State → State
  | 0, s => s
  | k + 1, s =>
    match stGet s n with
    | none => s
    | some x =>
      match outQueue x with
      | none => s
      | some q =>
        match (qGet s q).bind (fun y =>
          if y.blocked then none else y.chains.find? (fun c => c.job == x.linkNext && c.slice.isSome)) with
        | none => linkStaged n q x s
        | some c =>
          let next := fun (s : State) => linkReady n k (stMod n (fun x => { x with linkNext := (x.linkNext + 1) % 2 ^ 32 }) s)
          if c.core != 16 || hasCredit s q 1 then next (linkOne q c s) else s

/-- Flags of a slice record (Table 5-8). -/
def sliceFlags (x : Stream) (j : Job) (run : Run) (late : Bool) : Nat :=
  let p := picInfo x j.picture
  bit01 p.key + bit01 (j.slice == 0) * 2 + bit01 j.eop * 4 + bit01 j.lateDispatch * 8 + bit01 late * 16 +
    bit01 run.retryFlag * 32 + bit01 run.fallback * 64 + bit01 run.input.srcError * 128 + bit01 run.input.hintError * 256 +
    bit01 p.recovered * 512

/-- A job fails (R104): for an encode stream a job-result record stands in its place, a decode band is
damaged JOB_FAILED by the caller, and the job is removed. R127 and R104 fix the record's RESULT, BYTES, STATUS and USER_TAG;
it names its job, picture and slice, its other flags, QP_AVG, RETRIES and RUN_NS being 0 (DESIGN CHOICE, log 97). -/
def failRecord (n : Nat) (x : Stream) (j : Job) (s : State) : State :=
  match outQueue x with
  | none => s
  | some q =>
    if x.kind != .encode then s
    else
      let r : SliceRec := { jobSeq := j.seq, picture := j.picture, slice := j.slice, flags := 1024, bytes := 0,
                            userTag := j.userTag, qpAvg := 0, status := statusCode .integrity, retries := 0, runNs := 0 }
      let c : Chain := { job := j.seq, core := 16, cells := [], done := true, slice := some r, deadline := j.deadline }
      linkReady n 64 (qMod q (fun y => { y with chains := y.chains ++ [c] }) s)

/-- The job leaves its stream and its job queue (R20). -/
def removeJob (n : Nat) (x : Stream) (seq : Nat) (s : State) : State :=
  let s := stMod n (fun x => { x with jobs := x.jobs.filter (fun j => j.seq != seq) }) s
  if x.kind == .texture then s else removePkt (jobQueue x) seq s

/-! ### Pixels and band records (R157, R165, R167) -/

/-- Bytes of `count` lines in the stream's OUT_FORMAT (Tables 5-4, 7-3). -/
def pixelBytes (x : Stream) (count : Nat) : Nat :=
  let p := stWidth x * count
  match fnat x.f 0x720E 2 with
  | 0 => p * 3 / 2
  | 1 => p * 3
  | 2 => p * 15 / 8
  | 3 => p * 4
  | _ => p * 6

/-- Host address of a band's first line (R167). -/
def bandAddr (x : Stream) (picture first : Nat) : Nat :=
  let bufs := max 1 (fnat x.f 0x7213 3)
  let i := (Int.emod (Int.ofNat picture + fnum x.f 0x4304 0) (Int.ofNat bufs)).toNat
  fnat x.f 0x720F 0 + i * fnat x.f 0x7212 0 + first * fnat x.f 0x7210 0

/-- A unit of DECODE_OUT or ASSET work waits for the link (R319). -/
def putUnit (u : HUnit) (s : State) : State :=
  { s with sched := { s.sched with units := s.sched.units ++ [{ u with order := s.sched.nextUnit, born := s.keel.frc }],
                                   nextUnit := s.sched.nextUnit + 1 } }

/-- May a band record be committed now: REPAIR at any time, else in job sequence order (R167)? -/
def recTurn (s : State) (n : Nat) (x : Stream) (r : BandRec) : Bool :=
  bitOf r.flags 4 ||
  !(s.sched.units.any (fun u => match u.band with
      | some (m, b) => m == n && !(bitOf b.flags 4) && decide (b.jobSeq < r.jobSeq)
      | none => false) ||
    x.dec.recs.any (fun b => !(bitOf b.flags 4) && decide (b.jobSeq < r.jobSeq)) ||
    x.jobs.any (fun j => later32 r.jobSeq j.seq && !(x.dec.concealed.contains (j.picture, j.slice))))

/-- Records whose turn has come are committed to RESULT_QUEUE, against its credit (R167). -/
def flushRecs (n : Nat) : Nat → State → State
  | 0, s => s
  | k + 1, s =>
    match stGet s n with
    | none => s
    | some x =>
      match x.dec.recs.find? (recTurn s n x) with
      | none => s
      | some r =>
        let s' := stMod n (fun x => { x with dec := { x.dec with recs := x.dec.recs.erase r } }) s
        match fopt x.f 0x7214 with
        | none => flushRecs n k s'
        | some q =>
          if hasCredit s q 1 then
            flushRecs n k (qMod q (fun y => { y with pkts := y.pkts.map (fun p =>
                if p.jobSeq == r.jobSeq && p.userTag == r.userTag && p.band.isNone then { p with band := some r } else p) })
              (writePacket q (bandBytes r) true { userTag := r.userTag, jobSeq := r.jobSeq } s'))
          else s

/-- A band's pixels go to the host where the stream writes them, `bytes` of them in `rows`, and its record follows them; a
record without pixels is ready at once (R167). -/
def emitBand (n : Nat) (r : BandRec) (pixels : Bool) (bytes : Nat) (rows : List (Nat × List Byte)) (dl : Option Pos) (fl : Nat)
    (s : State) : State :=
  match stGet s n with
  | none => s
  | some x =>
    if pixels && fnat x.f 0x720D 0 == 0 && decide (0 < bytes) then
      putUnit { asset := false, fn := x.owner, bytes := bytes, order := 0, prio := 0
                addr := bandAddr (picView x r.picture) r.picture r.first
                key := (dl.bind (posTime s fl)).map (fun t => (frcOfActive s t).toNat), band := some (n, r)
                pic := some (n, r.picture), rows := rows } s
    else flushRecs n 16 (stMod n (fun x => { x with dec := { x.dec with recs := x.dec.recs ++ [r] } }) s)

/-- Measured rate of DECODE_OUT over the last 100 us, in bytes (R321). -/
def decodeWindow (s : State) : Nat :=
  (s.sched.window.map (fun e => if !e.2.1 && decide (s.keel.frc ≤ e.1 + 100000) then e.2.2.2 else 0)).sum

/-- Is a late band's write in time for scanout (R165, BEFORE_SCAN)? -/
def beforeScan (s : State) (x : Stream) (j : Job) (bytes : Nat) : Bool :=
  let w := decodeWindow s
  match posTime s (jobFl x j) (scanStart s (jobView x j) j.picture j.first) with
  | none => false
  | some t => decide (0 < w) &&
      decide ((activeNow s) * Int.ofNat w + Int.ofNat (bytes * 100000 * 65536) ≤ t * Int.ofNat w)

end Sys2Proof.Machine
end

