-- ==== Sys2Proof/Machine/CrcOps.lean ====
section
/-! DEFINITION. The computation of check values and the presets (14 R340, R341, R344, R347), for the check-value units and
for the bitstreams of decode jobs (07 R159). -/

namespace Sys2Proof.Machine

/-! ### The computation (R340, R341) -/

/-- The low `w` bits of `v` in reverse order. -/
def reflect : Nat → Nat → Nat
  | 0, _ => 0
  | w + 1, v => (v % 2) * 2 ^ w + reflect w (v / 2)

/-- One bit folded into the running value (R340). -/
def crcBit (p : CrcParams) (v : Nat) (bit : Bool) : Nat :=
  let next := v * 2 % 2 ^ p.width
  if (bitOf v (p.width - 1)) != bit then Nat.xor next p.poly else next

/-- The `n` most significant bits of a byte, after any reflection (R340, R341). -/
def crcByte (p : CrcParams) (n v : Nat) (b : Byte) : Nat :=
  let b := if p.refin then reflect 8 b.toNat else b.toNat
  (List.range n).foldl (fun v i => crcBit p v (bitOf b (7 - i))) v

/-- Bytes folded in ascending order, all of them whole but the last where `lastBits` is not zero. -/
def crcFeed (p : CrcParams) (lastBits : Nat) : Nat → List Byte → Nat
  | v, [] => v
  | v, [b] => crcByte p (if lastBits = 0 then 8 else lastBits) v b
  | v, b :: r => crcFeed p lastBits (crcByte p 8 v b) r

/-- The check value of a running value (R340). -/
def crcFinal (p : CrcParams) (v : Nat) : Nat := Nat.xor (if p.refout then reflect p.width v else v) p.xorout

/-- Bytes of a check value (R344). -/
def valueBytes (p : CrcParams) : Nat := (p.width + 7) / 8

/-- A check value in ORDER (R344). -/
def orderBytes (p : CrcParams) (v : Nat) : List Byte :=
  if p.big then (leBytes (valueBytes p) v).reverse else leBytes (valueBytes p) v

/-! ### Presets (R347) -/

/-- Table 14-3. -/
def presetOf : Nat → Option CrcParams
  | 1 => some ⟨16, 0x8BB7, 0xFFFF, false, false, 0, true⟩
  | 2 => some ⟨32, 0x1EDC6F41, 0xFFFFFFFF, true, true, 0xFFFFFFFF, false⟩
  | 3 => some ⟨64, 0x42F0E1EBA9EA3693, 0xFFFFFFFFFFFFFFFF, false, false, 0xFFFFFFFFFFFFFFFF, false⟩
  | 4 => some ⟨8, 0x07, 0, false, false, 0, true⟩
  | 5 => some ⟨16, 0x8BB7, 0, false, false, 0, true⟩
  | 6 => some ⟨16, 0x1021, 0xFFFF, false, false, 0, true⟩
  | 7 => some ⟨32, 0x04C11DB7, 0xFFFFFFFF, true, true, 0xFFFFFFFF, false⟩
  | 8 => some ⟨64, 0x42F0E1EBA9EA3693, 0xFFFFFFFFFFFFFFFF, true, true, 0xFFFFFFFFFFFFFFFF, false⟩
  | _ => none

/-- The CRC-32C of bytes (Table 14-3). -/
def crc32c (l : List Byte) : Nat :=
  match presetOf 2 with
  | some p => crcFinal p (crcFeed p 0 p.init l)
  | none => 0

end Sys2Proof.Machine
end

