-- ==== Sys2Proof/Machine/Textures.lean ====
section
/-! DEFINITION. Asset containers and textures as bytes: the HAC header and chunk table, the texture descriptor, the sizes of
mip levels, and the records of host-assisted forms (08 Tables 8-2, 8-3, 8-9, 8-10, R186, R195, R196, R198). -/

namespace Sys2Proof.Machine

/-! ### The container (Tables 8-2, 8-3) -/

/-- MAGIC "HAC1", VERSION 1, and HEADER_CRC over bytes 0-503 (R186 step 1). -/
def hacMagicOk (f : HacFacts) : Bool :=
  f.header.length == 512 && leAt f.header 0 4 == 0x31434148 && leAt f.header 4 2 == 1 &&
  (match presetOf 3 with
   | some p => leAt f.header 504 8 == crcFinal p (crcFeed p 0 p.init (f.header.take 504))
   | none => false)

/-- CONTAINER_BYTES, CHUNK_COUNT, POLICY and CONTAINER_ID of the header. -/
def hacBytes (f : HacFacts) : Nat := leAt f.header 8 8
def hacCount (f : HacFacts) : Nat := leAt f.header 16 4
def hacPolicy (f : HacFacts) : Nat := leAt f.header 20 4
def hacId (f : HacFacts) : Nat := leAt f.header 24 16

/-- An entry of the chunk table. -/
def parseChunk (l : List Byte) : ChunkEntry :=
  { offset := leAt l 0 8, stored := leAt l 8 4, outBytes := leAt l 12 4, outPos := leAt l 16 8, coding := leAt l 24 1
    hostBytes := leAt l 28 4 }

/-- The decrypted chunk table. -/
def hacTable (f : HacFacts) : List ChunkEntry := (List.range (f.table.length / 32)).map (fun i => parseChunk (f.table.drop (32 * i)))

/-- The table is the one that the header describes: TABLE_BYTES, TABLE_OFFSET and CHUNK_COUNT. -/
def hacShapeOk (f : HacFacts) : Bool :=
  f.table.length == 32 * hacCount f && leAt f.header 48 4 == 32 * hacCount f && leAt f.header 40 8 % 4096 == 0

/-- Entries are consistent (R186 step 6): valid CODING, the chunk inside the container, sizes in range, and outputs that rise. -/
def tableOk (bytes : Nat) (l : List ChunkEntry) : Bool :=
  decide (1 ≤ l.length) && decide (l.length ≤ 1048576) &&
  l.all (fun e => decide (e.coding ≤ 3) && e.offset % 16 == 0 && decide (e.offset + e.stored ≤ bytes) &&
    decide (56 ≤ e.stored) && decide (e.stored ≤ 4194304 + 56) && decide (1 ≤ e.outBytes) && decide (e.outBytes ≤ 67108864)) &&
  (l.zip (l.drop 1)).all (fun e => decide (e.1.outPos + e.1.outBytes ≤ e.2.outPos))

/-! ### Textures (Tables 8-9, 8-10, R195, R196) -/

/-- WIDTH, HEIGHT, TARGET and MIP_LEVELS of a texture descriptor. -/
def texWidth (d : List Byte) : Nat := leAt d 0 2
def texHeight (d : List Byte) : Nat := leAt d 2 2
def texTarget (d : List Byte) : Nat := leAt d 4 1
def texMips (d : List Byte) : Nat := leAt d 5 1

/-- The targets in the order of Table 8-9. -/
def texTargets : List Nat := [0x01, 0x02, 0x03, 0x11, 0x12, 0x13, 0x20, 0x21]

/-- Width and height of the ASTC block footprint of a target. -/
def texBlock (target : Nat) : Nat := match target % 16 with | 1 => 4 | 2 => 6 | _ => 8

/-- Dimensions of the levels (R196). -/
def texLevels (d : List Byte) : List (Nat × Nat) :=
  (List.range (texMips d)).map (fun l => (max 1 (texWidth d / 2 ^ l), max 1 (texHeight d / 2 ^ l)))

/-- Bytes of a level of `w` x `h` texels (R196). -/
def levelBytes (target : Nat) (w h : Nat) : Nat :=
  if target < 0x20 then ((w + texBlock target - 1) / texBlock target) * ((h + texBlock target - 1) / texBlock target) * 16
  else w * h * 4

/-- Texels of all levels. -/
def texTexels (d : List Byte) : Nat := ((texLevels d).map (fun e => e.1 * e.2)).sum

/-- Sum of the level sizes. -/
def texBytes (d : List Byte) : Nat := ((texLevels d).map (fun e => levelBytes (texTarget d) e.1 e.2)).sum

/-- Rate of a target in texels per second of one core at 1.2 GHz (Table 8-10). -/
def texRate (target : Nat) : Nat :=
  match target with
  | 0x01 => 1000000000
  | 0x02 => 1600000000
  | 0x03 => 2000000000
  | 0x11 => 500000000
  | 0x12 => 800000000
  | 0x13 => 1000000000
  | _ => 2000000000

/-- Is the descriptor of a payload of `payload` bytes in its ranges (Table 8-9)? SRGB goes with LDR targets only. -/
def texDescOk (d : List Byte) (payload : Nat) : Bool :=
  let w := texWidth d
  let h := texHeight d
  let hdr := decide (0x11 ≤ texTarget d) && decide (texTarget d ≤ 0x13)
  decide (1 ≤ w) && decide (w ≤ 8192) && decide (1 ≤ h) && decide (h ≤ 4352) && decide (w * h ≤ 35651584) &&
  texTargets.contains (texTarget d) && decide (1 ≤ texMips d) && decide (texMips d ≤ Nat.log2 (max w h) + 1) &&
  decide (leAt d 6 1 < 2) && !(hdr && leAt d 6 1 == 1) && decide (leAt d 7 1 < 4) &&
  decide (64 + leAt d 8 4 + leAt d 12 4 ≤ payload) && decide (leAt d 16 48 = 0)

/-- Does a texture chunk fit its table entry: the sum of the level sizes is OUT_BYTES, and in the host-assisted form level 0
behind the descriptor is HOST_BYTES (R196, R198)? -/
def texFits (form : Bool) (d : List Byte) (e : ChunkEntry) : Bool :=
  texDescOk d (e.stored - 56) && texBytes d == e.outBytes && (!form || 64 + texWidth d * texHeight d * 4 == e.hostBytes)

/-! ### Host-assisted forms (R198) -/

/-- The record in front of an entry of the stage buffer. -/
def stageRecord (c : Nat) (e : ChunkEntry) : List Byte :=
  leBytes 4 c ++ leBytes 1 e.coding ++ leBytes 3 0 ++ leBytes 4 e.hostBytes ++ leBytes 4 e.outBytes ++ leBytes 8 e.outPos ++
  leBytes 8 0

end Sys2Proof.Machine
end

