-- ==== Sys2Proof/Machine/AssetOps.lean ====
section
/-! DEFINITION. The asset path's shared operations (08 R186-R199): requests, chunks, staging,
decompression units, texture jobs and the ending of requests. -/

namespace Sys2Proof.Machine

/-! ### Ports, counters and requests -/

/-- A storage port by name. -/
def stPort (s : State) : StPort → StorePort
  | .s0 => s.asset.s0
  | .s1 => s.asset.s1

/-- The state with a storage port replaced. -/
def setStPort (s : State) (p : StPort) (v : StorePort) : State :=
  match p with
  | .s0 => { s with asset := { s.asset with s0 := v } }
  | .s1 => { s with asset := { s.asset with s1 := v } }

/-- The number of a storage port, and the base of its fault sources (Table 8-11). -/
def stNum : StPort → Nat
  | .s0 => 0
  | .s1 => 1
def stBase : StPort → Nat
  | .s0 => 0x240
  | .s1 => 0x250

/-- Counters by number: READS 0, BYTES_IN 1, BYTES_OUT 2, CHUNKS 3, CRC_FAILS 4, TAG_FAILS 5, REREADS 6,
FORMAT_ERRORS 7, TEXTURE_CHUNKS 8, FASTPATH_BLOCKS 9, HOST_FORM_CHUNKS 10, REMOVALS 11 (Table 8-11). -/
def assetCount (p : StPort) (i d : Nat) (s : State) : State :=
  let s := setStPort s p { stPort s p with ctr := cinc (stPort s p).ctr i d }
  { s with asset := { s.asset with ctr := cinc s.asset.ctr i d } }

/-- Request `r`. -/
def reqGet (s : State) (r : Nat) : Option AssetReq := tget s.asset.reqs r

/-- Request `r` changed by `f`. -/
def reqMod (r : Nat) (f : AssetReq → AssetReq) (s : State) : State :=
  { s with asset := { s.asset with reqs := tmod s.asset.reqs r f } }

/-- The chunk of a request that is in progress under number `c`. -/
def chunkGet (q : AssetReq) (c : Nat) : Option ChunkRun := q.chunks.find? (fun x => x.chunk == c)

/-- Chunk `c` of request `r` changed by `f`. -/
def chunkMod (r c : Nat) (f : ChunkRun → ChunkRun) (s : State) : State :=
  reqMod r (fun q => { q with chunks := q.chunks.map (fun x => if x.chunk == c then f x else x) }) s

/-- The table entry of one of a request's chunks, and the request's port. -/
def chunkEntry (q : AssetReq) (c : Nat) : Option ChunkEntry := q.hac.table[c]?
def reqPort (q : AssetReq) : StPort := q.port

/-! ### Staging (R191) -/

/-- Staging that the engine has: 16 MiB of SRAM and ASSET_HBM_STAGING. -/
def stagingSize (s : State) : Nat := (16 + s.asset.hbmStaging) * 1048576

/-- Staging taken, with its peak. -/
def takeStaging (n : Nat) (s : State) : State :=
  let used := s.asset.staging + n
  { s with asset := { s.asset with staging := used, stagingPeak := max s.asset.stagingPeak used } }

/-- Staging freed. -/
def freeStaging (n : Nat) (s : State) : State :=
  { s with asset := { s.asset with staging := s.asset.staging - n } }

/-- Staging that a chunk holds while it is in progress. -/
def heldBytes (q : AssetReq) (x : ChunkRun) : Nat :=
  match x.st with
  | .reading => ((chunkEntry q x.chunk).map (fun e => e.stored)).getD 0
  | .staged => ((chunkEntry q x.chunk).map (fun e => e.stored)).getD 0
  | .verified => ((chunkEntry q x.chunk).map (fun e => e.stored)).getD 0
  | _ => 0

/-- Staging in use as the requests' chunks hold it. -/
def recountStaging (s : State) : State :=
  { s with asset := { s.asset with staging :=
      (s.asset.reqs.map (fun e => (e.2.chunks.map (heldBytes e.2)).sum)).sum } }

/-! ### Decompression units (R194) -/

/-- Does a chunk of this coding go to unit `u`: Zstandard 0-11, Deflate 12-15? -/
def unitFits (coding u : Nat) : Bool :=
  (coding == 1 && decide (u < 12)) || (coding == 2 && decide (12 ≤ u) && decide (u < 16))

/-- Is the chunk given in its host-assisted form (R198)? -/
def hostForm (a : ReadArgs) (e : ChunkEntry) : Bool :=
  ((e.coding == 1 || e.coding == 2) && a.hostDecomp) || (e.coding == 3 && a.texHost)

/-- A free unit for a coding, other than one on which the chunk failed. -/
def freeUnit (s : State) (coding : Nat) (but : Option Nat) : Option Nat :=
  (List.range 16).find? (fun u => unitFits coding u && some u != but &&
    (let x := tgetD s.asset.units u {}; x.job.isNone && !x.disabled))

/-- Chunks that wait for a unit, in R189 order: request priority, then acceptance order, then index. -/
def unitWaiters (s : State) : List (Nat × Nat × Nat × Option Nat) :=
  let one := fun (e : Nat × AssetReq) =>
    e.2.chunks.filterMap (fun x =>
      match chunkEntry e.2 x.chunk with
      | some k => if x.st == .verified && x.unit.isNone && (k.coding == 1 || k.coding == 2) && !(hostForm e.2.a k) &&
          !(s.sched.units.any (fun u => u.chunk == some (e.1, x.chunk)))
        then some (e.1, x.chunk, k.coding, x.notUnit) else none
      | none => none)
  ((List.range 4).map (fun p => ((s.asset.reqs.filter (fun e => e.2.a.priority == p)).map one).flatten)).flatten

/-- Each free unit takes the first waiting chunk of its coding. -/
def assignUnits (s : State) : State :=
  (unitWaiters s).foldl (fun s w =>
    match freeUnit s w.2.2.1 w.2.2.2 with
    | some u =>
      let s := chunkMod w.1 w.2.1 (fun x => { x with unit := some u }) s
      let d : DecUnit := tgetD s.asset.units u {}
      { s with asset := { s.asset with units := tput s.asset.units u { d with job := some (w.1, w.2.1) } } }
    | none => s) s

/-! ### Output (R188, R198, R199) -/

/-- Size of a host-assisted form in the stage buffer. -/
def formBytes (e : ChunkEntry) : Nat := (32 + e.hostBytes + 63) / 64 * 64

/-- The stage offset of chunk `c`: the forms of the request's earlier chunks (R198). -/
def formOffset (a : ReadArgs) (table : List ChunkEntry) (c : Nat) : Nat :=
  ((List.range (c - a.first)).map (fun i =>
    match table[a.first + i]? with
    | some e => if hostForm a e then formBytes e else 0
    | none => 0)).sum

/-- The output of a session's chunk takes the next value of the session's counter (15 R371). -/
def takeCounter (r c : Nat) (q : AssetReq) (s : State) : State :=
  match (if q.a.session then tget s.keel.vault.sessions q.a.sessionId else none) with
  | none => s
  | some x =>
    let v := { s.keel.vault with sessions := tput s.keel.vault.sessions q.a.sessionId { x with counter := x.counter + 1 } }
    chunkMod r c (fun y => { y with ctr := some x.counter }) { s with keel := { s.keel with vault := v } }

/-- A verified chunk's output waits for the link in the ASSET class (R188, R198, R199, R319). -/
def queueOutput (r c : Nat) (s : State) : State :=
  match reqGet s r with
  | none => s
  | some q =>
    match chunkEntry q c with
    | some e =>
      let form := hostForm q.a e
      let base := ((q.hac.table[q.a.first]?).map (fun e => e.outPos)).getD 0
      let addr := if form then q.a.stageAddr + formOffset q.a q.hac.table c else q.a.dest + e.outPos - base
      let bytes := if form then formBytes e else e.outBytes + (if q.a.session then 32 else 0)
      let s := if form then assetCount (reqPort q) 10 1 s else s
      putUnit { asset := true, fn := q.h.fn, bytes := bytes, key := none, order := 0,
                prio := q.a.priority * 2 ^ 32 + q.order, addr := addr, chunk := some (r, c) } (takeCounter r c q s)
    | none => s

/-- The engine-owned streams that texture jobs run in, one for each target, so that each has the rate of its target (Table
8-10; 04 R108; DESIGN CHOICE, log 102): they stand behind the host's 4,096 contexts. -/
def textureStream (target : Nat) : Nat := 4096 + texTargets.idxOf target
def textureStreams : List Nat := (List.range 9).map (4096 + ·)

/-- A TEXTURE chunk becomes a TEXTURE_CHUNK job, with key now plus ASSET_HORIZON (R108). Its pixels are the texels of all its
levels, in which Table 8-10 gives the rates (DEDUCED, log 102). -/
def addTexture (r c : Nat) (desc : List Byte) (s : State) : State :=
  let n := textureStream (texTarget desc)
  let x : Stream := (stGet s n).getD { owner := 0, kind := .texture, rate := texRate (texTarget desc) }
  let j : Job := { seq := x.jobSeq, st := .eligible, picture := 0, first := 0, count := texTexels desc, slice := 0, eop := true,
                   host := false, asset := some (r, c), born := s.keel.frc }
  let j := { j with key := keyOf s x j }
  stSet s n { x with jobs := x.jobs ++ [j], jobSeq := x.jobSeq + 1 }

/-- A verified chunk goes on: to the host, to a decompression unit, or to the core lanes (R193). -/
def forwardChunk (r c : Nat) (desc : List Byte) (s : State) : State :=
  match reqGet s r with
  | none => s
  | some q =>
    match chunkEntry q c with
    | none => s
    | some e =>
      let s := chunkMod r c (fun x => { x with st := .verified, desc := desc }) s
      if e.coding = 3 then addTexture r c desc s
      else if e.coding = 0 || hostForm q.a e then queueOutput r c s
      else assignUnits s

/-! ### Endings -/

/-- A chunk fails: the request starts no further chunk, and its first failure decides status and detail
(R189, R192). -/
def failChunk (r c : Nat) (st : Status) (detail : Nat) (s : State) : State :=
  let s := reqMod r (fun q => { q with
    chunks := q.chunks.filter (fun x => x.chunk != c)
    failed := match q.failed with | some f => some f | none => some c
    status := if q.failed.isNone && !q.stopped then st else q.status
    detail := if q.failed.isNone && !q.stopped then detail else q.detail }) s
  recountStaging s

/-- A chunk's output is whole in host memory. -/
def chunkWritten (r c bytes : Nat) (s : State) : State :=
  let s := reqMod r (fun q => { q with
    chunks := q.chunks.filter (fun x => x.chunk != c), doneSet := q.doneSet ++ [c], bytesOut := q.bytesOut + bytes }) s
  recountStaging s

/-- The request stops: it starts no more, drops what `drop` says of its chunks, and ends with a status and
detail (R183, R187, R189, R190). -/
def stopReq (st : Status) (detail : Nat) (drop : ChunkRun → Bool) (q : AssetReq) : AssetReq :=
  if q.stopped then q
  else { q with stopped := true, chunks := q.chunks.filter (fun x => !(drop x))
                status := if q.failed.isNone then st else q.status, detail := if q.failed.isNone then detail else q.detail }

/-- Leading chunks whose output is whole. -/
def donePrefix (q : AssetReq) : Nat :=
  ((List.range q.a.count).takeWhile (fun i => q.doneSet.contains (q.a.first + i))).length

/-- The final completion of a request (R24, R188). -/
def endRequest (r : Nat) (s : State) : State :=
  match reqGet s r with
  | none => s
  | some q =>
    let s := { s with asset := { s.asset with reqs := tdel s.asset.reqs r } }
    let res := [0, Int.ofNat q.detail, Int.ofNat (min q.rereads 65535), Int.ofNat (donePrefix q), Int.ofNat q.bytesOut,
                Int.ofNat (q.failed.getD (2 ^ 32 - 1)), Int.ofNat q.a.userTag]
    recountStaging (endLongs (fun _ l => l == .assetRead r) q.status res s)

/-- Output that waits for chunks no longer in progress is dropped. -/
def pruneUnits (s : State) : State :=
  { s with sched := { s.sched with units := s.sched.units.filter (fun u =>
      match u.chunk with
      | some (r, c) => ((reqGet s r).bind (fun q => chunkGet q c)).isSome
      | none => true) }
           asset := { s.asset with units := tmap s.asset.units (fun _ x =>
      match x.job with
      | some (r, c) => if ((reqGet s r).bind (fun q => chunkGet q c)).isSome then x else { x with job := none }
      | none => x) } }

/-- The key slots that the volumes of a port use, and no open volume of the other. -/
def portSlots (p : StPort) (s : State) : List Nat :=
  ((s.asset.volumes.filter (fun e => e.2.port == p)).map (fun e => e.2.slot)).filter (fun k =>
    !(s.asset.volumes.any (fun e => e.2.port != p && e.2.slot == k)))

/-- Containers and their volumes of a port close, and their keys leave the vault (R183): the content keys, and the key slots
of the volumes, but for a slot that an open volume of the other port uses too (DEDUCED, log 106). -/
def closePort (p : StPort) (s : State) : State :=
  let vols := (s.asset.volumes.filter (fun e => e.2.port == p)).map (fun e => e.1)
  let conts := (s.asset.containers.filter (fun e => vols.contains e.2.volume)).map (fun e => e.1)
  { s with
    asset := { s.asset with volumes := tfilter s.asset.volumes (fun n _ => !(vols.contains n))
                            containers := tfilter s.asset.containers (fun n _ => !(conts.contains n)) }
    keel := { s.keel with vault := { s.keel.vault with
      content := tfilter s.keel.vault.content (fun n _ => !(conts.contains n))
      slots := tfilter s.keel.vault.slots (fun n _ => !((portSlots p s).contains n)) } } }

end Sys2Proof.Machine
end

