-- ==== Sys2Proof/Machine/TrustOps.lean ====
section
/-! DEFINITION. What the trust rules share (15): the lifecycle, random values and challenges, the vault and its
erasure, expiry, and the checks of a key blob. -/

namespace Sys2Proof.Machine

/-- The lifecycle state: the last one whose fuse group reads at least 5 of its 8 bits set, else BLANK (R354).
BLANK 0, PROVISIONED 1, FIELD 2, RMA 3. -/
def lifecycle (t : Trust) : Nat :=
  if 5 ≤ t.lcRma then 3 else if 5 ≤ t.lcField then 2 else if 5 ≤ t.lcProv then 1 else 0

/-- A random value of the trust block, and the state after it. -/
def takeRandom (s : State) : Nat × State :=
  (Config.random s.trust.drbg, { s with trust := { s.trust with drbg := s.trust.drbg + 1 } })

/-- A new challenge (R355, R371). -/
def newChallenge (session : Bool) (s : State) : Nat × State :=
  let (v, s) := takeRandom s
  (v, { s with trust := { s.trust with challenges :=
    s.trust.challenges ++ [{ value := v, frc := s.keel.frc, session := session }] } })

/-- Is the challenge outstanding and younger than 10 s? -/
def challengeOk (s : State) (session : Bool) (v : Nat) : Bool :=
  s.trust.challenges.any (fun c => c.value == v && c.session == session && decide (s.keel.frc < c.frc + 10000000000))

/-- A challenge serves one command. -/
def useChallenge (v : Nat) (s : State) : State :=
  { s with trust := { s.trust with challenges := s.trust.challenges.filter (fun c => c.value != v) } }

/-- Lowest SVN of a firmware image and of a configuration block (R360). -/
def minFwSvn (s : State) : Nat := max s.trust.fuseFw s.keel.shadowFw
def minCfgSvn (s : State) : Nat := max s.trust.fuseCfg s.keel.shadowCfg

/-- Step 5 of R357 on an image: its SVN, and a lifecycle mask that includes the state. -/
def imageAllowed (s : State) (lcMask svn : Nat) : Bool := bitOf lcMask (lifecycle s.trust) && decide (minFwSvn s ≤ svn)

/-- Secure time in whole seconds. -/
def secureSeconds (s : State) : Nat := (Int.fdiv s.keel.secure (65536 * 1000000000)).toNat

/-- Has a blob or a licence expired (R374)? -/
def expired (s : State) (expires : Bool) (expiry : Nat) : Bool :=
  expires && (!s.keel.secureValid || decide (expiry ≤ secureSeconds s))

/-- The vault is erased; containers and volumes, whose keys it held, close, and their requests and those that
use a session end with E_CANCELLED (R361, R371, R183). -/
def eraseVault (s : State) : State :=
  let s := { s with keel := { s.keel with vault := {} } }
  let s := { s with asset := { s.asset with reqs := tmap s.asset.reqs (fun _ r => stopReq .cancelled 0 (fun _ => true) r) } }
  recountStaging (closePort .s1 (closePort .s0 (pruneUnits s)))

/-- Requests that use a session that has ended (R371). -/
def endSession (id : Nat) (s : State) : State :=
  let s := { s with keel := { s.keel with vault := { s.keel.vault with sessions := tdel s.keel.vault.sessions id } } }
  let s := { s with asset := { s.asset with reqs := tmap s.asset.reqs (fun _ r =>
    if r.a.session && r.a.sessionId == id then stopReq .cancelled 0 (fun _ => true) r else r) } }
  recountStaging (pruneUnits s)

/-- Is the key of a blob's WRAP there (Table 15-6): PK is in the vault, DIK and DSK come from DUR? -/
def wrapAvailable (s : State) (b : BlobFacts) : Bool := if b.wrap = 1 then s.keel.vault.pk.isSome else b.wrap == 2 || b.wrap == 3

/-- The checks of R363 on a blob, in order, with the status of TRUST.KEY.LOAD; an engineering sample takes TEST blobs only (20
R463). -/
def blobCheck (s : State) (b : BlobFacts) : Except Status Unit := do
  need b.formOk .badArg
  need (wrapAvailable s b && b.deviceOk) .auth
  need b.tagOk .auth
  need (match lifecycle s.trust with | 1 => b.test | 2 => !b.test && !s.trust.es | _ => false) .noPerm
  need (decide (b.minSvn ≤ s.trust.svn)) .noPerm
  need (!(expired s b.expires b.expiry)) .auth

/-- May content, volume and session keys be opened at all (R354, R356)? -/
def keysAllowed (s : State) : Except Status Unit := need (!s.trust.debug && lifecycle s.trust != 0) .state

/-- The engine's DEVICE_ID (Table 15-7). -/
def deviceId : Nat := Config.sealedVal [0, Config.deviceCert]

/-- The fields of an attestation report, in the order of Table 15-9: MAGIC "HAR1" first, signature last (R372). -/
def attestReport (s : State) (nonce reportData session : Nat) : List Int :=
  let flags := bit01 s.keel.secureValid + 2 * bit01 s.trust.debug + 4 * bit01 (decide (0 < s.trust.tryN)) + 8 * bit01 s.trust.pcbOk
  let body : List Nat :=
    [0x31524148, 1, lifecycle s.trust, bit01 s.trust.runB, Config.fwVersion s.trust.meas, s.trust.svn, s.trust.pcbSvn, flags, s.trust.meas,
     Config.sealedVal [1, s.trust.pcbSvn], s.trust.rootHash, deviceId, secureSeconds s,
     (Int.emod (Int.fdiv s.keel.secure 65536) 1000000000).toNat, s.keel.frc, nonce, reportData, session]
  (body ++ [Config.sealedVal (2 :: body)]).map Int.ofNat

/-- Every key of a node on a port leaves the vault (R370). -/
def dropNodeKeys (p : BusPort) (node : Nat) (s : State) : State :=
  let left := s.keel.vault.nodeKeys.filter (fun k => !(k.port == p && k.src == node))
  { s with keel := { s.keel with vault := { s.keel.vault with nodeKeys := left } } }

/-- An enrollment exchange with the node in progress is not repeated: 0x016 is raised at once (R366). -/
def abortEnroll (p : BusPort) (node : Nat) (s : State) : State :=
  let v := portGet s p
  match tget v.enrolls node with
  | some e =>
    let s := setPort s p { v with enrolls := tdel v.enrolls node }
    if e.stage < 11 then raise 0x016 1 0 false s else s
  | none => s

/-- The session key derived for a session number (R371). -/
def sessionOf (owner key : Nat) : Session := { owner := owner, key := key, counter := 1 }

end Sys2Proof.Machine
end

