-- ==== Sys2Proof/Machine/Assets.lean ====
section
/-! DEFINITION. The ASSET commands (17 Table 17-8; 08 R184, R186-R188, R198, R200). -/

namespace Sys2Proof.Machine

/-- A storage port of a number: S0 0, S1 1. -/
def stPortOf (n : Nat) : Option StPort := if n = 0 then some .s0 else if n = 1 then some .s1 else none

/-- Is the port's device enumerated and in service (R179, R181)? -/
def stServes (s : State) (p : StPort) : Bool := (stPort s p).enumd && !(stPort s p).failed

/-- A number in its range, or E_BADARG. -/
def rangeArg {α : Type} (o : Option α) : Except Status α :=
  match o with
  | some a => .ok a
  | none => .error .badArg

/-- ASSET.VOLUME.OPEN (R184). -/
def execAssetVolumeOpen (h : Hdr) (port slot nsid scratchFirst scratchCount : Nat) (ns : NsFacts) (s : State) :
    Host.Outcome State Fault Refusal :=
  mbx { op := 0x0501, inS := false } h s fun s => do
    let p ← rangeArg (stPortOf port)
    need (decide (slot < 128) && (p == .s1 || (scratchFirst == 0 && scratchCount == 0))) .badArg
    need (stServes s p) .state
    keysAllowed s
    let k ← named (tget s.keel.vault.slots slot)
    owned h k.owner
    need (k.kind == 2) .badArg
    need ns.present .state
    need (decide (s.asset.volumes.countP (fun e => e.2.port == p) < 4)) .noRes
    need (!ns.meta_ && !ns.prot && (ns.lbaSize == 512 || ns.lbaSize == 4096) &&
      decide (scratchFirst + scratchCount ≤ ns.lbas)) .badArg
    let n := s.asset.nextVol
    let v : Volume := { owner := h.fn, port := p, slot := slot, nsid := nsid, scratchFirst := scratchFirst,
                        scratchCount := scratchCount, lba := ns.lbaSize }
    done { s with asset := { s.asset with volumes := tput s.asset.volumes n v, nextVol := n + 1 } } [Int.ofNat n]

/-- A volume or container that the caller names by its handle. -/
def ownVolume (h : Hdr) (s : State) (n : Nat) : Except Status Volume := do
  need (decide (n < 65536)) .badArg
  let v ← named (tget s.asset.volumes n)
  owned h v.owner
  .ok v
def ownContainer (h : Hdr) (s : State) (n : Nat) : Except Status Container := do
  need (decide (n < 65536)) .badArg
  let c ← named (tget s.asset.containers n)
  owned h c.owner
  .ok c

/-- Has the link begun to write the output of chunk `c` of request `r`? -/
def beingWritten (s : State) (r c : Nat) : Bool := s.sched.units.any (fun u => u.chunk == some (r, c) && u.sent != 0)

/-- Containers close: their keys and tables go, and requests on them end with E_CANCELLED, detail
CONTAINER_CLOSED, once the chunks already being written are finished (R187). -/
def closeContainers (l : List Nat) (s : State) : State :=
  let s := { s with
    asset := { s.asset with
      reqs := tmap s.asset.reqs (fun n r =>
        if l.contains r.a.container then stopReq .cancelled 3 (fun x => !(beingWritten s n x.chunk)) r else r)
      containers := tfilter s.asset.containers (fun n _ => !(l.contains n)) }
    keel := { s.keel with vault := { s.keel.vault with content := tfilter s.keel.vault.content (fun n _ => !(l.contains n)) } } }
  recountStaging (pruneUnits s)

/-- ASSET.VOLUME.CLOSE. -/
def execAssetVolumeClose (h : Hdr) (volume : Nat) (force : Bool) (s : State) : Host.Outcome State Fault Refusal :=
  mbx { op := 0x0502, inS := false } h s fun s => do
    let _ ← ownVolume h s volume
    let l := (s.asset.containers.filter (fun e => e.2.volume == volume)).map (fun e => e.1)
    need (force || l.isEmpty) .busy
    let s := closeContainers l s
    done { s with asset := { s.asset with volumes := tdel s.asset.volumes volume } }

/-- The checks of R186 in order; the answer says the first that fails, and whether it raises 0x283. -/
def hacCheck (s : State) (p : StPort) (f : HacFacts) : Option (Status × Bool) :=
  if !(hacMagicOk f) then some (.integrity, true)
  else if decide (32 ≤ hacPolicy f) || (bitOf (hacPolicy f) 3 && p == .s1) then some (.noPerm, false)
  else if !f.blobOk || expired s (bitOf (hacPolicy f) 4) f.expiry then some (.auth, false)
  else if !f.headerTagOk then some (.auth, true)
  else if !f.tableTagOk then some (.auth, true)
  else if !(hacShapeOk f && tableOk (hacBytes f) (hacTable f)) then some (.integrity, true)
  else none

/-- A command that a check of R186 ends. -/
def hacFail (e : Status × Bool) (s : State) : Except Status (State × Option Reply) :=
  .ok ((if e.2 then raise 0x283 1 0 false s else s), some (e.1, []))

/-- ASSET.CONTAINER.OPEN (R186). -/
def execAssetContainerOpen (h : Hdr) (volume offset : Nat) (f : HacFacts) (s : State) : Host.Outcome State Fault Refusal :=
  mbx { op := 0x0503, inS := false, res := 28 } h s fun s => do
    let v ← ownVolume h s volume
    need (offset % 4096 == 0) .badArg
    need (stServes s v.port) .state
    keysAllowed s
    need (decide (s.asset.containers.length < 256)) .noRes
    match hacCheck s v.port f with
    | some e => hacFail e s
    | none =>
      let n := s.asset.nextCont
      let c : Container := { owner := h.fn, volume := volume, offset := offset, policy := hacPolicy f, id := hacId f,
                             expires := bitOf (hacPolicy f) 4, expiry := f.expiry, table := hacTable f }
      let key := Config.sealedVal [4, hacId f]
      done { s with
        asset := { s.asset with containers := tput s.asset.containers n c, nextCont := n + 1 }
        keel := { s.keel with vault := { s.keel.vault with content := tput s.keel.vault.content n key } } }
        [Int.ofNat n, Int.ofNat (hacCount f), Int.ofNat (hacPolicy f), Int.ofNat (hacId f)]

/-- ASSET.CONTAINER.CLOSE (R187). -/
def execAssetContainerClose (h : Hdr) (container : Nat) (force : Bool) (s : State) : Host.Outcome State Fault Refusal :=
  mbx { op := 0x0504, inS := false } h s fun s => do
    let _ ← ownContainer h s container
    need (force || !(s.asset.reqs.any (fun e => e.2.a.container == container))) .busy
    done (closeContainers [container] s)

/-- Bytes of stage buffer that a request needs (R198). -/
def stageNeed (a : ReadArgs) (table : List ChunkEntry) : Nat := formOffset a table (a.first + a.count)

/-- Bytes of destination that a request needs (R188). -/
def destNeed (a : ReadArgs) (table : List ChunkEntry) : Nat :=
  match table[a.first]?, table[a.first + a.count - 1]? with
  | some e, some l => l.outPos + l.outBytes - e.outPos
  | _, _ => 0

/-- The fields of an ASSET.READ in their own ranges (R188). -/
def readFieldsOk (a : ReadArgs) : Bool :=
  let forms := a.hostDecomp || a.texHost
  decide (a.priority ≤ 3) && decide (1 ≤ a.count) && decide (a.count ≤ 65536) && (!forms || a.stageAddr % 64 == 0) &&
  !(a.session && forms) && (!a.session || a.tagAddr % 32 == 0)

/-- The fields that the container's table bounds (R188). -/
def readArgsOk (a : ReadArgs) (table : List ChunkEntry) : Bool :=
  decide (a.first + a.count ≤ table.length) && decide (destNeed a table ≤ a.destBytes) &&
  (!(a.hostDecomp || a.texHost) || decide (stageNeed a table ≤ a.stageBytes))

/-- The acceptance response has taken one of the request's two slots (R383). -/
def oneSlotLeft (h : Hdr) (s : State) : State :=
  let m := mbxGet s h.fn h.warden
  setMbx s h.fn h.warden
    { m with fetched := markFirst (fun f => f.started && f.tag == h.tag) (fun f => { f with opcode := 0 }) m.fetched }

/-- ASSET.READ (R188). -/
def execAssetRead (h : Hdr) (a : ReadArgs) (s : State) : Host.Outcome State Fault Refusal :=
  mbx { op := 0x0505, inS := false } h s fun s => do
    need (readFieldsOk a) .badArg
    let c ← ownContainer h s a.container
    let v ← named (tget s.asset.volumes c.volume)
    need (stServes s v.port) .state
    need (decide (s.asset.reqs.countP (fun e => e.2.h.fn == h.fn) < 256) && decide (s.asset.reqs.length < 1024)) .noRes
    need (readArgsOk a c.table) .badArg
    need ((!a.hostDecomp || bitOf c.policy 0) && (!a.texHost || bitOf c.policy 1) && (a.session || !(bitOf c.policy 2))) .noPerm
    need (!a.session || (match tget s.keel.vault.sessions a.sessionId with | some x => x.owner == h.fn | none => false)) .auth
    let n := s.asset.nextReq
    let r : AssetReq := { h := h, a := a, hac := c, port := v.port, order := n }
    let s := { s with asset := { s.asset with reqs := tput s.asset.reqs n r, nextReq := n + 1 } }
    let s := respond h.fn h.warden { tag := h.tag, status := .ok, more := true, noInt := h.noInt, op := 0x0505,
                                     result := [1, 0, 0, 0, 0, 2 ^ 32 - 1, Int.ofNat a.userTag] } (oneSlotLeft h s)
    .ok (outstanding h (.assetRead n) s, none)

/-- A chunk that fails on every read during an install: three failures, two of them read again (R192). -/
def installFail (crc : Bool) (s : State) : State :=
  let src := if crc then 0x281 else 0x280
  let one := fun s => raise src 1 0 false (assetCount .s0 (if crc then 5 else 4) 1 s)
  let s := one (assetCount .s0 6 1 (one (assetCount .s0 6 1 s)))
  raise 0x282 1 0 false (assetCount .s0 (if crc then 5 else 4) 1 s)

/-- ASSET.INSTALL (R200): `chunkCrc` says that the failing chunk's CRC-64 passed. -/
def execAssetInstall (h : Hdr) (src dst srcOffset dstLba : Nat) (f : HacFacts) (chunkOk chunkCrc : Bool) (s : State) :
    Host.Outcome State Fault Refusal :=
  mbx { op := 0x0506, inS := false } h s fun s => do
    let a ← ownVolume h s src
    let b ← ownVolume h s dst
    need (a.port == .s0 && b.port == .s1 && srcOffset % 4096 == 0) .badArg
    need (stServes s .s0 && stServes s .s1) .state
    keysAllowed s
    match hacCheck s .s0 f with
    | some e => hacFail e s
    | none =>
      if bitOf (hacPolicy f) 3 then .error .noPerm
      else
        let lbas := (hacBytes f + b.lba - 1) / max 1 b.lba
        if dstLba < b.scratchFirst ∨ b.scratchFirst + b.scratchCount < dstLba + lbas then .error .badArg
        else if !chunkOk then .ok (installFail chunkCrc s, some (if chunkCrc then .auth else .integrity, []))
        else done s [Int.ofNat (hacBytes f)]

/-- The twelve counters of a table, saturating at 64 bits. -/
def twelve (t : Tbl Nat) : List Int := (List.range 12).map (fun i => Int.ofNat (min (tgetD t i 0) (2 ^ 64 - 1)))

/-- ASSET.STATS.READ: PORT S0 0, S1 1, ALL 2. -/
def execAssetStatsRead (h : Hdr) (port : Nat) (clear : Bool) (s : State) : Host.Outcome State Fault Refusal :=
  mbx { op := 0x0507, pf := true, inS := false, res := 112 } h s fun s => do
    need (decide (port ≤ 2)) .badArg
    let t := if port = 0 then s.asset.s0.ctr else if port = 1 then s.asset.s1.ctr else s.asset.ctr
    let res := twelve t ++ [Int.ofNat s.asset.staging, Int.ofNat s.asset.stagingPeak]
    let a := s.asset
    let a' := if !clear then a
      else if port = 0 then { a with s0 := { a.s0 with ctr := [] } }
      else if port = 1 then { a with s1 := { a.s1 with ctr := [] } }
      else { a with ctr := [] }
    done { s with asset := a' } res

end Sys2Proof.Machine
end

