-- ==== Sys2Proof/Machine/Pictures.lean ====
section
/-! DEFINITION. Decoded pictures in HBM and what is written of them (07 R157, R167, R170-R172, Tables 5-4, 7-3, 7-6): lines in
the host's layout, decoded lines and vectors, and the pixels of concealed areas. -/

namespace Sys2Proof.Machine

/-! ### Lines in OUT_FORMAT (Tables 5-4, 7-3) -/

/-- Samples of `w` bits in one number, the first in the lowest bits. -/
def packBits (w : Nat) (l : List Nat) : Nat := l.foldr (fun v acc => v % 2 ^ w + 2 ^ w * acc) 0

/-- A sample of a picture of `depth` bits as OUT_FORMAT takes it: 8-bit samples are shifted left by 2 into 10-bit formats,
10-bit samples rounded to 8 bits for NV12. -/
def outSample (fmt depth v : Nat) : Nat :=
  if fmt = 0 then (if depth = 8 then v else min 255 ((v + 2) / 4)) else if depth = 8 then 4 * v else v

/-- The bytes of a line: NV12 0, P010 1, T10 2, P210 3, Y416P 4. -/
def outLine (fmt depth : Nat) (l : List Nat) : List Byte :=
  let l := l.map (outSample fmt depth)
  match fmt with
  | 0 => l.map (BitVec.ofNat 8)
  | 2 => leBytes ((10 * l.length + 7) / 8) (packBits 10 l)
  | 4 => l.flatMap (leBytes 2)
  | _ => l.flatMap (fun v => leBytes 2 (64 * v))

/-- Does a chroma format have OUT_FORMAT (Table 7-3)? -/
def formatFits (fmt chroma : Nat) : Bool :=
  if fmt = 3 then chroma == 2 else if fmt = 4 then chroma == 3 else decide (chroma ≤ 1)

/-- Luma lines for each chroma line, and luma samples for each chroma sample, of a chroma_format_idc. -/
def chromaV (chroma : Nat) : Nat := if chroma ≤ 1 then 2 else 1
def chromaH (chroma : Nat) : Nat := if chroma ≤ 2 then 2 else 1

/-- The chroma lines of luma lines `first` on. -/
def chromaLines (chroma first count : Nat) : List Nat :=
  let v := chromaV chroma
  (List.range ((first + count + v - 1) / v - first / v)).map (fun k => first / v + k)

/-- The two chroma lines `k`, at mid value in a monochrome picture. -/
def chromaPair (f : DecPic) (width k : Nat) : Option (List Nat × List Nat) :=
  if f.chroma = 0 then
    let l := List.replicate ((width + 1) / 2) (2 ^ (f.depth - 1))
    some (l, l)
  else match tget f.planes.cb k, tget f.planes.cr k with
    | some a, some b => some (a, b)
    | _, _ => none

/-- The lines `first` on of a picture as the host gets them, by address, from those that HBM holds (R167). -/
def outRowsOf (x : Stream) (picture first count : Nat) (f : DecPic) : List (Nat × List Byte) :=
  let fmt := fnat x.f 0x720E 2
  let base := bandAddr x picture 0
  let pitch := fnat x.f 0x7210 0
  let off := fnat x.f 0x7211 0
  let luma := (List.range count).filterMap (fun k =>
    (tget f.planes.y (first + k)).map (fun l => (base + (first + k) * pitch, outLine fmt f.depth l)))
  let chroma := (chromaLines f.chroma first count).map (fun k => match chromaPair f (stWidth x) k with
    | none => []
    | some (cb, cr) =>
      if fmt = 4 then
        [(base + off + k * pitch, outLine fmt f.depth cb), (base + 2 * off + k * pitch, outLine fmt f.depth cr)]
      else [(base + off + k * pitch, outLine fmt f.depth ((cb.zip cr).flatMap (fun e => [e.1, e.2])))])
  luma ++ chroma.flatten

/-! ### Decoded pictures -/

/-- A picture in HBM. -/
def decPicOf (x : Stream) (picture : Nat) : DecPic := tgetD x.frames picture {}

/-- Lines put among those of a plane. -/
def putLines (old new : List (Nat × List Nat)) : List (Nat × List Nat) := new.foldl (fun t e => tput t e.1 e.2) old

/-- Lines put into a picture's planes. -/
def putPlanes (old new : Planes) : Planes :=
  { y := putLines old.y new.y, cb := putLines old.cb new.cb, cr := putLines old.cr new.cr }

/-- The part of some planes that lies in luma lines `first` on. -/
def planesIn (chroma first count : Nat) (p : Planes) : Planes :=
  let rows := chromaLines chroma first count
  { y := p.y.filter (fun e => decide (first ≤ e.1) && decide (e.1 < first + count))
    cb := p.cb.filter (fun e => rows.contains e.1), cr := p.cr.filter (fun e => rows.contains e.1) }

/-- Does a block row lie in luma lines `first` on? -/
def rowIn (first count by_ : Nat) : Bool := decide (first ≤ 16 * by_) && decide (16 * by_ < first + count)

/-- Decoded lines, and the vectors of their blocks, go into the picture. -/
def storeLines (picture first count : Nat) (r : RunReport) (x : Stream) : Stream :=
  let f := decPicOf x picture
  { x with frames := tput x.frames picture { f with
      planes := putPlanes f.planes (planesIn r.chroma first count r.lines), depth := r.depth, chroma := r.chroma
      decoded := (first, count) :: f.decoded
      vecs := f.vecs.filter (fun v => !(rowIn first count v.by_)) ++ r.vectors.filter (fun v => rowIn first count v.by_)
      shown := f.shown || r.shown } }

/-- The previous shown picture of the stream (R170): its newest one before `picture`. -/
def sourceOf (x : Stream) (picture : Nat) : Option (Nat × DecPic) :=
  x.frames.foldl (fun b e =>
    if !e.2.shown || !(later32 picture e.1) then b
    else match b with
      | some a => if later32 e.1 a.1 then some e else b
      | none => some e) none

/-- The regions of a picture that predict from dirty regions of their reference (R174). -/
def dirtyByVectors (x : Stream) (r : RunReport) : List Nat :=
  let cols := (stWidth x + 63) / 64
  (r.vectors.filter (fun v =>
    let bad := tgetD x.dec.dirty v.ref []
    let px := Int.ofNat (16 * v.bx) + Int.fdiv v.mvx 8
    let py := Int.ofNat (16 * v.by_) + Int.fdiv v.mvy 8
    let at_ := fun (dx dy : Int) =>
      (clampI (py + dy) 0 (Int.ofNat (stHeight x) - 1)).toNat / 64 * cols + (clampI (px + dx) 0 (Int.ofNat (stWidth x) - 1)).toNat / 64
    !bad.isEmpty && [at_ 0 0, at_ 15 0, at_ 0 15, at_ 15 15].any bad.contains)).map
    (fun v => v.by_ / 4 * cols + v.bx / 4)

/-! ### Concealment (R170-R172, Table 7-6) -/

/-- The samples of a list that are all there. -/
def allThere {α : Type} : List (Option α) → Option (List α)
  | [] => some []
  | some a :: r => (allThere r).map (a :: ·)
  | none :: _ => none

/-- A sample of a plane of `h` lines; a position beyond an edge takes the edge's (log 99). -/
def sampleAt (plane : List (Nat × List Nat)) (h : Nat) (x y : Int) : Option Nat :=
  (tget plane (clampI y 0 (Int.ofNat h - 1)).toNat).bind (fun l => l[(clampI x 0 (Int.ofNat l.length - 1)).toNat]?)

/-- Lines of a plane, each sample displaced by its block's vector; `sx` and `sy` are the plane's subsampling. -/
def movedLines (plane : List (Nat × List Nat)) (w h sx sy : Nat) (rows : List Nat) (d : Nat → Nat → Int × Int) :
    List (Nat × List Nat) :=
  rows.filterMap (fun l =>
    (allThere ((List.range ((w + sx - 1) / sx)).map (fun c =>
      let v := d (c * sx / 16) (l * sy / 16)
      sampleAt plane ((h + sy - 1) / sy) (Int.ofNat c + Int.fdiv v.1 (Int.ofNat sx)) (Int.ofNat l + Int.fdiv v.2 (Int.ofNat sy))))).map
      (fun s => (l, s)))

/-- Lines `first` on of a picture taken from a source with a displacement for each block. -/
def movedPlanes (x : Stream) (src : DecPic) (first count : Nat) (d : Nat → Nat → Int × Int) : Planes :=
  let rows := chromaLines src.chroma first count
  let c := fun (p : List (Nat × List Nat)) =>
    if src.chroma = 0 then [] else movedLines p (stWidth x) (stHeight x) (chromaH src.chroma) (chromaV src.chroma) rows d
  { y := movedLines src.planes.y (stWidth x) (stHeight x) 1 1 ((List.range count).map (fun k => first + k)) d
    cb := c src.planes.cb, cr := c src.planes.cr }

/-- Mid-grey lines, where there is no shown picture to conceal from. -/
def greyPlanes (x : Stream) (depth chroma first count : Nat) : Planes :=
  let line := fun (w : Nat) => List.replicate w (2 ^ (depth - 1))
  let c := if chroma = 0 then [] else
    (chromaLines chroma first count).map (fun k => (k, line ((stWidth x + chromaH chroma - 1) / chromaH chroma)))
  { y := (List.range count).map (fun k => (first + k, line (stWidth x))), cb := c, cr := c }

/-- Does a picture have decoded pixels at a block row? -/
def decodedAt (f : DecPic) (by_ : Nat) : Bool := f.decoded.any (fun e => rowIn e.1 e.2 by_)

/-- The vector of a block in 1/8 sample: an intra block gives zero, and one that points elsewhere does not count unless
`any_` asks for it (R171). -/
def blockVec (f : DecPic) (src : Nat) (any_ : Bool) (bx by_ : Nat) : Option (Int × Int) :=
  match f.vecs.find? (fun v => v.bx == bx && v.by_ == by_) with
  | some v => if any_ || v.ref == src then some (v.mvx, v.mvy) else none
  | none => some (0, 0)

/-- The median of up to three numbers; that of two is their mean (DESIGN CHOICE, log 99). -/
def medianOf : List Int → Int
  | [a] => a
  | [a, b] => Int.fdiv (a + b) 2
  | [a, b, c] => max (min a b) (min (max a b) c)
  | _ => 0

/-- The extrapolated vector of a block in whole samples (R171): the nearest decoded blocks above and below within 64 lines
of the area, and the co-located block of the source, whose vector points from there on and always counts (DEDUCED from
the worked example, log 99). -/
def copyVec (f : DecPic) (src : Nat × DecPic) (first count bx by_ : Nat) : Int × Int :=
  let up := ((List.range 4).filter (fun k => decide (k < first / 16))).map (fun k => first / 16 - 1 - k)
  let down := (List.range 4).map (fun k => (first + count + 15) / 16 + k)
  let near := fun (l : List Nat) => (l.find? (decodedAt f)).bind (blockVec f src.1 false bx)
  let co := if decodedAt src.2 by_ then blockVec src.2 src.1 true bx by_ else none
  let l := [near up, near down, co].filterMap id
  let whole := fun (v : Int) => Int.fdiv (v + 4) 8
  (whole (medianOf (l.map (fun v => v.1))), whole (medianOf (l.map (fun v => v.2))))

/-- The displacement of a block whose centre the camera maps, in whole samples; none where w is not positive or the centre
leaves the picture (R172). -/
def hintVec (x : Stream) (h : List Int) (bx by_ : Nat) : Option (Int × Int) :=
  let at_ := fun (k : Nat) => (h[k]?).getD 0
  let cx := Int.ofNat (16 * bx + 8)
  let cy := Int.ofNat (16 * by_ + 8)
  let w := at_ 6 * cx + at_ 7 * cy + at_ 8
  if w ≤ 0 then none
  else
    let px := Int.fdiv (2 * (at_ 0 * cx + at_ 1 * cy + at_ 2) + w) (2 * w)
    let py := Int.fdiv (2 * (at_ 3 * cx + at_ 4 * cy + at_ 5) + w) (2 * w)
    if 0 ≤ px && px < Int.ofNat (stWidth x) && 0 ≤ py && py < Int.ofNat (stHeight x) then some (px - cx, py - cy) else none

/-- The displacement of a block in concealment mode `mode`: FREEZE 0, MOTION_COPY 1, HINT 2 (Table 7-6). -/
def concealVec (x : Stream) (f : DecPic) (src : Nat × DecPic) (mode : Nat) (hint : List Int) (first count bx by_ : Nat) : Int × Int :=
  match mode with
  | 1 => copyVec f src first count bx by_
  | 2 => (hintVec x hint bx by_).getD (copyVec f src first count bx by_)
  | _ => (0, 0)

/-- Lines of a picture are concealed: their pixels become its content in HBM (R168), and the picture is one that is shown
(DEDUCED, log 99). `fmt` is OUT_FORMAT. -/
def concealLines (fmt picture first count mode : Nat) (hint : List Int) (x : Stream) : Stream :=
  let f := decPicOf x picture
  let f := match sourceOf x picture with
    | some src =>
      { f with depth := src.2.depth, chroma := src.2.chroma
               planes := putPlanes f.planes (movedPlanes x src.2 first count (concealVec x f src mode hint first count)) }
    | none =>
      let c := if !f.decoded.isEmpty then f.chroma else if fmt = 3 then 2 else if fmt = 4 then 3 else 1
      { f with chroma := c, planes := putPlanes f.planes (greyPlanes x f.depth c first count) }
  { x with frames := tput x.frames picture { f with
      decoded := f.decoded.filter (fun e => decide (e.1 + e.2 ≤ first) || decide (first + count ≤ e.1))
      vecs := f.vecs.filter (fun v => !(rowIn first count v.by_)), shown := true } }

end Sys2Proof.Machine
end

