-- ==== Sys2Proof/Machine/RunCells.lean ====
section
/-! DEFINITION. The cells of a job run (03 R63, R70, R71, R73, R78, R81; 04 R100; 05 R131; 06 R147): output kept in the core,
staged and linked chains, and the coding of a slice again after an overflow. -/

namespace Sys2Proof.Machine

/-! ### Coding again (R131, R147) -/

/-- The slice overflowed its packet or its cap: it is coded again from its first block at a higher QP, and after two
retries as a fallback slice (R131, R147). `ctr` counts the retry. -/
def retryRun (n core ctr : Nat) (x : Stream) (j : Job) (s : State) : State :=
  let k := coreGet s core
  match k.run with
  | none => s
  | some r =>
    let again := { r with done := 0, estDone := 0, estAt := s.keel.frc, fin := s.keel.frc + pixelNs r.pixels r.rate }
    if r.retries < 2 then
      stCount n ctr 1 (coreSet s core { k with run := some { again with
        retries := r.retries + 1, retryFlag := true, qp := j.qp.map (fun q => retryQp (jobView x j) q (r.retries + 1)) } })
    else coreSet s core { k with run := some { again with
      fallback := true, input := { r.input with blocks := codeBlocks (jobView x j) j true {} } } }

/-! ### Chains of runs (R63, R81) -/

/-- The chain entry of a run, where it has one. -/
def chainOf (y : Queue) (job core : Nat) : Option Chain := y.chains.find? (fun e => e.job == job && e.core == core)

/-- The chain entry of a run replaced. -/
def putChain (q : Nat) (c : Chain) (s : State) : State :=
  qMod q (fun y => { y with chains := y.chains.filter (fun e => !(e.job == c.job && e.core == c.core)) ++ [c] }) s

/-- The run's packet has ended in a truncation: its further cells are discarded (R71), and it codes the slice again
(R131, R147). -/
def restartRun (n q core ctr : Nat) (x : Stream) (j : Job) (s : State) : State :=
  retryRun n core ctr x j (putChain q { job := j.seq, core := core, cells := [], done := false, discard := 1 }
    (freeChain q j.seq core s))

/-- A cell that is not FIRST while its run has no packet open: a truncation or a DROP_REST is discarding it, or it is
counted in ORPHAN_CELLS (R63, R71, R73). -/
def strayCell (q : Nat) (ch : Option Chain) (s : State) : State :=
  match ch with
  | some e => if e.discard = 1 then s else qMod q (fun y => { y with orphans := y.orphans + 1 }) s
  | none => qMod q (fun y => { y with orphans := y.orphans + 1 }) s

/-- Do so many bytes lift a run past a hard cap, of the buffer or of LINE_BUDGET (R147, R148)? A fallback slice has none
(log 89). -/
def passesCap (s : State) (x : Stream) (j : Job) (r : Run) (bytes : Nat) : Bool :=
  !r.fallback && ((match j.cap with | some b => decide (b < bytes) | none => false) ||
    decide (bufferRoom s (jobView x j) j < bytes))

/-- A staged chain ends within its packet for want of credit: it vanishes like a packet in hold mode (R64, R70, R71). -/
def starveChain (q : Nat) (s : State) : State :=
  qMod q (fun y => qFlag s.keel.frc 2 { y with rewound := y.rewound + 1 }) (overrun q s)

/-- A cell of a run that is still staged (R63, R131, R147). -/
def stagedCell (n q core : Nat) (x : Stream) (y : Queue) (j : Job) (r : Run) (c : CellIn) (s : State) : State :=
  let s := if c.first then freeChain q j.seq core s else s
  let old := if c.first then none else (chainOf y j.seq core).filter (fun e => e.discard == 0)
  if !c.first && old.isNone then strayCell q (chainOf y j.seq core) s
  else
    let cells := match old with | some e => e.cells | none => []
    let data := (match old with | some e => e.data | none => []) ++ c.data
    let mode := match old with | some e => e.mode | none => sampleMode y {}
    if mode.2.2.2 ≤ cells.length then restartRun n q core ctrOverflow x j s
    else if passesCap s x j r data.length then restartRun n q core ctrCapRetry x j s
    else
      match qGet s q with
      | none => s
      | some y =>
        if y.credit = 0 then
          if c.first then overrun q s else restartRun n q core ctrOverflow x j (starveChain q s)
        else
          let onDie := decide (y.creditSpill < y.credit)
          let cell : Cell := { index := pickIndex s.qm onDie, data := c.data, bad := c.bad, onDie := onDie, acked := false }
          let ch : Chain := { job := j.seq, core := core, cells := cells ++ [cell], done := c.last, mode := mode, data := data }
          let y := { y with credit := y.credit - 1, creditSpill := if onDie then y.creditSpill else y.creditSpill - 1 }
          linkStaged n q x (regrant q (putChain q ch (qSet { s with qm := { s.qm with serial := s.qm.serial + 1 } } q y)))

/-- The chain entry of a linking run: what it has written, and whether it is whole. -/
def markChain (q job core : Nat) (whole : Bool) (data : List Byte) (s : State) : State :=
  putChain q { job := job, core := core, cells := [], done := whole, data := data } s

/-- A cell of a linking run whose packet the consumer has ended, or a double fault has lost: it is discarded, its credit
stays with C, and it is counted in DROPPED_CELLS (R73, R78). -/
def droppedCell (q core : Nat) (j : Job) (c : CellIn) (data : List Byte) (s : State) : State :=
  markChain q j.seq core c.last data (qMod q (fun y => { y with droppedCells := y.droppedCells + 1 }) s)

/-- A cell of a run that is linked as it is written; the packet closes at the commit (R63, R131, R147). -/
def linkedCell (n q core : Nat) (x : Stream) (y : Queue) (j : Job) (r : Run) (c : CellIn) (s : State) : State :=
  let ch := chainOf y j.seq core
  let data := (if c.first then [] else match ch with | some e => e.data | none => []) ++ c.data
  if !c.first && (ch.filter (fun e => e.discard == 0)).isNone then strayCell q ch s
  else if !c.first && y.discard == 2 && (qOpen y).isNone then droppedCell q core j c data s
  else
    let s := if c.first then endOpen q 3 s else s
    match qGet s q with
    | none => s
    | some y =>
      let held := match qOpen y with | some p => p.cells.length + p.released | none => 0
      let (_, _, _, top) := y.mode.getD (sampleMode y {})
      if !c.first && decide (top ≤ held) then restartRun n q core ctrOverflow x j (truncate q 1 true s)
      else if passesCap s x j r data.length then restartRun n q core ctrCapRetry x j (endOpen q 3 s)
      else if y.credit = 0 then
        if c.first then overrun q s else restartRun n q core ctrOverflow x j (truncate q 2 true (overrun q s))
      else
        let s := if c.first then openPkt q { userTag := j.userTag, deadline := j.deadline, jobSeq := j.seq } s else s
        markChain q j.seq core c.last data (commitCell q c.data c.bad false false s)

/-- A cell that a run's core writes to its queue. -/
def runCell (q core : Nat) (c : CellIn) (s : State) : State :=
  match (coreGet s core).run, qGet s q with
  | some r, some y =>
    match stGet s r.stream with
    | none => s
    | some x =>
      match jobGet x r.job with
      | none => s
      | some j =>
        if r.linking then linkedCell r.stream q core x y j r c s else stagedCell r.stream q core x y j r c s
  | _, _ => s

/-! ### OUTPUT_HOLD (R100) -/

/-- Pixels that a run is reckoned to have processed by now (R97). -/
def runDone (s : State) (r : Run) : Nat :=
  min r.pixels (r.estDone + r.rate * (s.keel.frc - r.estAt) / 1000000000)

/-- Does OUTPUT_HOLD keep the run's output in its core: the share of the job's pixels has not been processed yet? -/
def outputHeld (s : State) (x : Stream) (j : Job) (r : Run) : Bool :=
  !r.freed && !r.linking && decide (runDone s r * 16 < fnat (jobView x j).f 0x4309 0 * r.pixels)

/-- The core writes the cells that it kept: the share is processed, or the run is to commit. -/
def flushCells (q core : Nat) (s : State) : State :=
  let k := coreGet s core
  match k.run with
  | none => s
  | some r =>
    r.cache.foldl (fun s c => runCell q core c s) (coreSet s core { k with run := some { r with cache := [], freed := true } })

/-- A core whose run has processed its share writes what it kept. -/
def flushDue (core : Nat) (s : State) : State :=
  match (coreGet s core).run with
  | none => s
  | some r =>
    match stGet s r.stream with
    | none => s
    | some x =>
      match jobGet x r.job, outQueue x with
      | some j, some q =>
        let ready := match qGet s q with | some y => !y.blocked && !y.stopped | none => false
        if r.cache.isEmpty || outputHeld s x j r || !ready then s else flushCells q core s
      | _, _ => s

/-- A core gives a cell of its run's output (R63): it is kept, or written behind those kept (R100). -/
def coreCell (q : Nat) (c : CellIn) (s : State) : State :=
  match c.core with
  | none => s
  | some core =>
    let k := coreGet s core
    match k.run with
    | none => s
    | some r =>
      match stGet s r.stream with
      | none => s
      | some x =>
        match jobGet x r.job with
        | none => s
        | some j =>
          if outQueue x != some q || j.seq != c.job then s
          else if outputHeld s x j r then coreSet s core { k with run := some { r with cache := r.cache ++ [c] } }
          else runCell q core c (flushCells q core s)

end Sys2Proof.Machine
end

