-- ==== Sys2Proof/Machine/Cores.lean ====
section
/-! DEFINITION. The core events (04; 05 R116-R135; 06 R136, R138, R151; 07 R162-R176; 08 R195-R197):
dispatch, progress, commit, faults, watchdog, lane tests, clock steps, slow cores, the power cap, lookahead. -/

namespace Sys2Proof.Machine

/-! ### Lanes and cores lost (R102, R109) -/

/-- The source of core `c` at an offset (Table 4-6). -/
def coreSource (c off : Nat) : Nat := 0x040 + 8 * c + off

/-- A core goes OFFLINE (R102): offset 6, and 0x0C4 when all 16 have been in service and none is left. -/
def coreOffline (core : Nat) (s : State) : State :=
  let s := coreSet s core { coreGet s core with st := .offline }
  let s := raise (coreSource core 6) 1 (addrCore core 15) false s
  if (List.range 16).all (fun c => (coreGet s c).st == .offline && (coreGet s c).served) then raise 0x0C4 1 0 false s else s

/-- Cores ONLINE other than `core`. -/
def onlineBut (s : State) (core : Nat) : Nat :=
  (List.range 16).countP (fun c => c != core && (coreGet s c).st == .online)

/-- A core comes back to service: parked while it is hot (R105), or while as many cores as the power cap's limit are
ONLINE (R106). -/
def coreBack (core : Nat) (s : State) : State :=
  let k := coreGet s core
  coreSet s core { k with st :=
    if k.hot then .parkedThermal
    else if s.eng == .piste && decide (s.arr.limit ≤ onlineBut s core) then .parkedCap else .online }

/-- A lane fails its test: its source is raised, it is disabled until the next RESET_N, and offset 5 is raised
(R102). -/
def loseLane (core : Nat) (s : State) (lane : Nat) : State :=
  let off := if lane < 4 then 0 else 1
  let num := if lane < 4 then lane else lane - 4
  let s := raise (coreSource core off) (2 + 2 * num) (addrCore core lane) false s
  let k := coreGet s core
  let s := coreSet s core { k with lanes := if bitOf k.lanes lane then k.lanes - 2 ^ lane else k.lanes }
  raise (coreSource core 5) 1 (addrCore core lane) false s

/-- A core left with fewer than 3 pixel lanes or with no entropy lane. -/
def tooFewLanes (k : Core) : Bool := decide (pixelLanes k.lanes < 3) || entropyLanes k.lanes == 0

/-- A core's self-test with the lanes that fail: PASS 0, LANE_DISABLED 1, OFFLINE 2 (17 Table 17-16). -/
def testCore (core : Nat) (fails : List (Nat × Nat)) (s : State) : State × Nat :=
  let l := (List.range 6).filter (fun k => fails.contains (core, k) && bitOf (coreGet s core).lanes k)
  if l.isEmpty then (s, 0)
  else
    let s := l.foldl (loseLane core) s
    if tooFewLanes (coreGet s core) then (coreOffline core s, 2) else (s, 1)

/-- DIAG.SELFTEST goes on while the core whose turn it is has no run: each ONLINE core is tested, and another
reads NOT_TESTED 3 (17 Table 17-16, R1). -/
def selftestRun : Nat → State → State
  | 0, s => s
  | k + 1, s =>
    match s.arr.selftest with
    | none => s
    | some t =>
      if 16 ≤ t.next then
        endLongs (fun _ l => l == .selftest) .ok (t.results.map Int.ofNat) { s with arr := { s.arr with selftest := none } }
      else
        let c := coreGet s t.next
        if c.st == .testing || (c.st == .online && c.run.isSome) then s
        else
          let (s, r) := if c.st == .online then testCore t.next t.fails s else (s, 3)
          selftestRun k { s with arr := { s.arr with selftest := some { t with next := t.next + 1, results := t.results ++ [r] } } }

/-! ### Dispatch (R94-R98, R108, R136) -/

/-- Pictures that a table keeps: those with jobs, and those at most 64 before `picture`. -/
def keepPic (x : Stream) (picture p : Nat) : Bool :=
  decide ((picture + 2 ^ 32 - p) % 2 ^ 32 < 64) || x.jobs.any (fun j => j.picture == p)

/-- The buffer model that a picture signals (R153). -/
def signalled (s : State) (x : Stream) : Option Hrd :=
  if fnat x.f 0x6110 0 = 1 then
    some { rate := rcDrain x, size := rcBuf s x, cbr := rcMode x == 1, delay := (rcBuf s x, 2 * rcDrain x) }
  else none

/-- V under the fields that a picture takes (06 R154): at half the buffer after RC_RESTART, scaled with BUF_BITS where the
mode uses it before and after, else as it was. -/
def carriedV (s : State) (old new : Stream) : Nat :=
  let sized := fun (x : Stream) => rcMode x == 1 || rcMode x == 2 || rcMode x == 3
  if new.enc.restart then rcSize s new / 2
  else if sized old && sized new && rcBuf s old != rcBuf s new && rcBuf s old != 0 then new.rc.v * rcBuf s new / rcBuf s old
  else new.rc.v

/-- How the picture that begins now is coded (R112, R125, R126, R153), with what that leaves of the sweep: a key picture
ends one; in LOW_LATENCY, and after a recovery request of kind SWEEP, pictures go through the column groups. -/
def startPicture (s : State) (x : Stream) (j : Job) : Stream :=
  let e := x.enc
  let low := fnat x.f 0x530E 0 == 0
  let hevc := fnat x.f 0x5301 0 == 1
  let key := keyNow x j.picFlags
  let fresh := !key && e.recoverAt.any (fun r => !r.2)
  let sweep := !key && (low || e.sweeping || fresh)
  let pos := if key || fresh || !e.sweeping then 0 else e.sweepPos
  let len := if pos = 0 then fnat x.f 0x5310 60 else e.sweepLen
  let done := sweep && decide (len ≤ pos + 1)
  let starts := sweep && pos == 0
  let refs := if key then [] else encRefs x j.picture
  let hrd := signalled s x
  let sei := if !hevc then [] else
    (if hrd.isSome && key then [0] else []) ++ (if hrd.isSome then [1] else []) ++ (if starts then [6] else [])
  let info : PicInfo :=
    { key := key, sweep := sweep, pos := pos, len := len, recovered := done || (key && e.sweeping && decide (0 < e.sweepPos))
      l0 := refs, l1 := if hevc then refs else [], sei := sei, hrd := hrd }
  { x with enc := { e with
    pics := tput (e.pics.filter (fun p => keepPic x j.picture p.1)) j.picture info
    sweepLen := len
    sweeping := sweep && !done
    sweepPos := if sweep && !done then pos + 1 else 0
    sweepStart := if starts then some j.picture else e.sweepStart
    lastKey := if key then some j.picture else e.lastKey
    sinceKey := if key then 0 else e.sinceKey + 1
    recoverAt := []
    dispatchedPic := some j.picture
    restart := false } }

/-- A picture begins at its first dispatch, once: fields of class "next picture" take effect for it (R17, 06 R154), and it
is settled how it is coded. -/
def beginPicture (n : Nat) (j : Job) (s : State) : State :=
  match stGet s n with
  | none => s
  | some x =>
    if x.kind == .texture || thas x.picF j.picture then s
    else
      let y := { nextView x with staged := [] }
      let y := { y with picF := tput (y.picF.filter (fun p => keepPic x j.picture p.1)) j.picture (sampled nextPictureFields y.f) }
      stSet s n (if y.kind == .encode then startPicture s { y with rc := { y.rc with v := carriedV s x y } } j else y)

/-- What comes before a run's first pixel: dispatch, and a context load where the core does not hold the context (R97,
R98). -/
def startNs (s : State) (n : Nat) (c : Nat) : Nat := 400 + (if (coreGet s c).ctx.contains n then 0 else 4000)

/-- Predicted duration of a new run of a job on core `c` (R97, R98). -/
def predictNs (s : State) (n : Nat) (x : Stream) (j : Job) (c : Nat) : Nat :=
  startNs s n c + pixelNs (jobPixels x j) (scaleRate s c x.rate)

/-- What an encode run takes in when it starts: its source lines, read once more after a failure (R115, R117), or the lines
that it scales (R133), its hints, and with them the coding of its blocks (R120, R121). -/
def runInput (s : State) (x : Stream) (j : Job) (fallback : Bool) (mem : List HostBlk) : RunInput × Nat :=
  if srcDecode x then
    let d := (fopt x.f 0x530C).bind (stGet s)
    let h := match d with | some d => stHeight d | none => stHeight x
    let lines := match d.bind (fun d => tget d.frames (j.picture * fnat x.f 0x530D 1)) with | some f => f.planes | none => {}
    ({ samples := scaledPlanes x j h lines, blocks := codeBlocks x j fallback {}, tiles := tileCols x }, 0)
  else
    let reads := sourceReads x j
    let got := reads.map (readLines mem)
    let fails : Nat := (got.map (fun g => g.2)).foldl max 0
    let bad := decide (2 ≤ fails)
    let lines := fun (i : Nat) => match got[i]? with | some g => g.1 | none => []
    let h := readHints x j mem
    ({ reads := reads, samples := if bad then {} else sourcePlanes x j (lines 0) (lines 1), srcError := bad
       hintError := h.error, blocks := codeBlocks x j (fallback || bad) h, tiles := tileCols x }, fails)

/-- What a decode run takes in: a host job's bitstream, read and checked, and both once more after a failure (07 R159);
where the command does not say what memory holds, the core reports what its reads came to. -/
def bitstreamInput (x : Stream) (j : Job) (mem : List HostBlk) : RunInput × Nat :=
  let op := fnat x.f 0x720C 0
  if !(fromHost x) then ({ op := op }, 0)
  else match hostBytes mem j.src.addr j.bsBytes with
    | none => ({ op := op, unread := true }, 0)
    | some (l, fails) =>
      let wrong := match j.src.crc with | some c => crc32c l != c | none => false
      ({ op := op, damage := if 2 ≤ fails then 7 else if wrong then 2 else 0 }, fails)

/-- A run starts on core `c` (R87, R89, R95, R96, R136), reading what it needs of host memory. -/
def startRun (mem : List HostBlk) (n : Nat) (j : Job) (c : Nat) (second : Bool) (s : State) : State :=
  let s := if second then s else beginPicture n j s
  let enc := match stGet s n with | some x => x.kind == .encode | none => false
  let s := if enc && !second then decideJob n j.seq s else s
  match stGet s n, (stGet s n).bind (fun x => jobGet x j.seq) with
  | some x, some j =>
    let v := jobView x j
    let late := !second && pastDeadline s x j
    let s := if late && !j.lateDispatch then stCount n ctrLateDisp 1 s else s
    let lateNow := j.lateDispatch || late
    let fallback := lateNow && enc && fnat v.f 0x531C 0 == 1
    let (input, fails) := if enc then runInput s v j fallback mem
      else if x.kind == .decode then bitstreamInput v j mem else ({}, 0)
    let s := (List.range (min fails 2)).foldl (fun s _ => readFailed x.owner s) s
    let s := if input.hintError then stCount n ctrHintErr 1 s else s
    let k := coreGet s c
    let held := k.ctx.contains n
    let dur := predictNs s n x j c
    let run : Run := { stream := n, job := j.seq, start := s.keel.frc, busyFrom := s.keel.frc, second := second, firstDur := dur,
                       pixels := jobPixels x j, lastRep := s.keel.frc, estAt := s.keel.frc + startNs s n c
                       rate := scaleRate s c x.rate, fin := s.keel.frc + dur, load := !held, qp := j.qp
                       fallback := fallback || input.srcError, input := input }
    let s := coreSet s c { k with
      run := some run, ctx := n :: (k.ctx.filter (· != n)).take 3, ctxLoads := k.ctxLoads + bit01 (!held)
      runsStarted := k.runsStarted + 1, secondStarted := k.secondStarted + bit01 second }
    setJob n j.seq (fun j => { j with st := if second then .running2 else .running, lateDispatch := lateNow }) s
  | _, _ => s

/-- Runs of texture jobs on cores. -/
def textureRuns (s : State) : Nat :=
  (List.range 16).countP (fun c => match (coreGet s c).run with
    | some r => textureStreams.contains r.stream
    | none => false)

/-- May a stream have one more run: it is not stopped, below MAX_RUNS, within its kind's limit (R95, R108)? -/
def mayRun (s : State) (n : Nat) (x : Stream) : Bool :=
  !x.stopped && (if x.kind == .texture then decide (textureRuns s < s.arr.assetMax)
    else decide ((coresOf s n).length < fnat x.f 0x4307 16))

/-- Is job `a` of stream `m` before job `b` of stream `n` in the order of R95? -/
def jobBefore (m : Nat) (a : Job) (n : Nat) (b : Job) : Bool :=
  if a.key != b.key then decide (a.key < b.key)
  else if a.requeued != b.requeued then a.requeued
  else if m != n then decide (m < n)
  else later32 b.seq a.seq

/-- The first job, in the order of R95, among candidates. -/
def firstJob (l : List (Nat × Job)) : Option (Nat × Job) :=
  l.foldl (fun b e => match b with
    | none => some e
    | some a => if jobBefore e.1 e.2 a.1 a.2 then some e else some a) none

/-- ELIGIBLE jobs that some of the free cores may take (R95, R104). -/
def eligibleJobs (s : State) (cores : List Nat) : List (Nat × Job) :=
  (s.arr.streams.map (fun e =>
    if mayRun s e.1 e.2 then
      (e.2.jobs.filter (fun j => j.st == .eligible && cores.any (fun c => j.banned != some c))).map (fun j => (e.1, j))
    else [])).flatten

/-- The free core for a job: one that holds its context, else the one with the fewest contexts, lowest
number first. -/
def pickCore (s : State) (n : Nat) (j : Job) (cores : List Nat) : Option Nat :=
  let l := cores.filter (fun c => j.banned != some c)
  match l.find? (fun c => (coreGet s c).ctx.contains n) with
  | some c => some c
  | none => l.foldl (fun b c => match b with
      | none => some c
      | some a => if (coreGet s c).ctx.length < (coreGet s a).ctx.length then some c else some a) none

/-- First runs: while a core is free and a job is eligible (R95). -/
def firstRuns (mem : List HostBlk) : Nat → State → State
  | 0, s => s
  | k + 1, s =>
    let cores := freeCores s
    match firstJob (eligibleJobs s cores) with
    | none => s
    | some (n, j) =>
      match pickCore s n j cores with
      | none => s
      | some c => firstRuns mem k (startRun mem n j c false s)

/-- Does a RUNNING job meet the conditions of a second run on core `c` (R98)? -/
def secondOk (s : State) (n : Nat) (x : Stream) (j : Job) (c : Nat) : Bool :=
  let margin := fnat x.f 0x4308 0
  j.st == .running && x.kind != .texture && decide (0 < margin) && !j.noReissue && j.banned != some c && mayRun s n x &&
  (match runOf s n j.seq, j.deadline with
   | some (d, r), some p =>
     let fl := flGet s (jobFl x j)
     d != c && !r.linking &&
     (match flTimeOf fl (posIdx fl p - Int.ofNat (margin * 65536)) with
      | some t => decide (frcOfActive s t ≤ Int.ofNat r.fin)
      | none => false) &&
     decide (s.keel.frc + predictNs s n x j c < r.fin)
   | _, _ => false)

/-- Second runs on one core that is still free (R98). -/
def secondRun (mem : List HostBlk) (c : Nat) (s : State) : State :=
  if !((freeCores s).contains c) then s
  else
    match firstJob ((s.arr.streams.map (fun e =>
      (e.2.jobs.filter (fun j => secondOk s e.1 e.2 j c)).map (fun j => (e.1, j)))).flatten) with
    | none => s
    | some (n, j) => startRun mem n j c true s

/-- Streams go on: result records and chains that wait are linked, and transcode jobs that waited for credit are written
(R63, R104, R134). -/
def streamsGoOn (s : State) : State :=
  (s.arr.streams.map (fun e => e.1)).foldl (fun s n =>
    writeDue n (((stGet s n).map (fun x => x.enc.toWrite.length)).getD 0) (linkReady n 64 s)) s

/-- DISPATCH_CYCLE: one dispatch decision (R95, R98); the runs that start find `mem` in host memory. -/
def execDispatchCycle (c : CycleFacts) (s : State) : Host.Outcome State Fault Refusal :=
  ev c.time s fun s =>
    if !(inService s) then s
    else
      let s := (List.range 16).foldl (fun s k => flushDue k s) (streamsGoOn s)
      let s := firstRuns c.mem 16 (releaseWaiting (selftestRun 17 s))
      if s.eng == .piste then (List.range 16).foldl (fun s k => secondRun c.mem k s) s else s

/-- PROGRESS_REPORT: every 4 us a running core reports the pixels of its run done so far (R97). -/
def execProgressReport (t core pixels : Nat) (s : State) : Host.Outcome State Fault Refusal :=
  evOn (decide (core < 16)) t s fun s =>
    let k := coreGet s core
    match k.run with
    | none => s
    | some r =>
      let d := s.keel.frc - r.lastRep
      if d < 4000 || pixels < r.done then s
      else
        let rate := (pixels - r.done) * 1000000000 / d
        flushDue core (coreSet s core { k with run := some { r with
          done := pixels, reported := true, lastRep := s.keel.frc, rate := rate, estDone := pixels, estAt := s.keel.frc
          fin := s.keel.frc + pixelNs (r.pixels - pixels) rate } })

/-! ### Commit (R81, R99, R104, R116, R117, R127, R138; 07 R163-R175; 08 R195-R197) -/

/-- The other run of a job ends because this one committed: its chain is freed and it is counted (R99). -/
def stopOther (n : Nat) (x : Stream) (core seq : Nat) (s : State) : State :=
  (List.range 16).foldl (fun s c =>
    let k := coreGet s c
    match k.run with
    | some r =>
      if c != core && r.stream == n && r.job == seq then
        let s := coreSet s c { k with run := none, runsLost := k.runsLost + 1, busyNs := k.busyNs + (s.keel.frc - r.busyFrom) }
        let s := stCount n ctrDiscards 1 s
        match outQueue x with
        | some q => freeChain q seq c (qMod q (fun y =>
            if y.chains.any (fun e => e.job == seq && e.core == c && !e.cells.isEmpty) then
              { y with secondDiscards := y.secondDiscards + 1 }
            else y) s)
        | none => s
      else s
    | none => s) s

/-- The core's part of a commit: it is free, its counters and its stream's measured rate move (R97, R110). -/
def coreCommit (n core : Nat) (r : Run) (s : State) : State :=
  let k := coreGet s core
  let dur := s.keel.frc - r.start
  let s := coreSet s core { k with
    run := none, runsCommitted := k.runsCommitted + 1, secondWon := k.secondWon + bit01 r.second
    busyNs := k.busyNs + (s.keel.frc - r.busyFrom), pixels := k.pixels + r.pixels }
  let got := normRate s core (r.pixels * 1000000000 / max 1 dur)
  stMod n (fun x => { x with rate := (7 * x.rate + got) / 8 }) s

/-- Several counters of a stream raised. -/
def countAll (n : Nat) (l : List (Nat × Nat)) (s : State) : State :=
  stMod n (fun x => { x with ctr := l.foldl (fun c e => cinc c e.1 e.2) x.ctr }) s

/-- The engine writes the slice record at the head of a run's output (R127). The first cell of a packet that glides may have
left by then with what the core wrote there; which values it had, the spec does not say (DESIGN CHOICE, log 98). -/
def stampRecord (r : SliceRec) : List Cell → List Cell
  | c :: l => { c with data := sliceBytes r ++ c.data.drop 32 } :: l
  | [] => []

/-- What the slice record of a run says when it commits (Table 5-8). -/
def recordOf (s : State) (x : Stream) (j : Job) (run : Run) (spent : List Nat) (bytes : Nat) : SliceRec :=
  { jobSeq := j.seq, picture := j.picture, slice := j.slice, flags := sliceFlags x j run (pastDeadline s x j), bytes := bytes
    userTag := j.userTag
    qpAvg := qpAverage (jobView x j) j (run.qp.getD 0) run.retries run.fallback spent
    status := 0, retries := run.retries, runNs := s.keel.frc - run.start }

/-- A committed run's output goes on: a linking packet closes, and a staged chain waits for its turn in job order (R63,
R81). -/
def commitChain (n core : Nat) (j : Job) (linking : Bool) (q : Nat) (rec_ : SliceRec) (s : State) : State :=
  let mine := fun (c : Chain) => c.job == j.seq && c.core == core
  if linking then
    let s := qMod q (fun y =>
      let y := { y with chains := y.chains.filter (fun c => !(mine c)), mode := none }
      match qOpen y with
      | some p =>
        let p := { p with cells := if p.released = 0 then stampRecord rec_ p.cells else p.cells }
        let (y, p) := makeVisible s.keel.frc y
          { p with closed := true, slice := some rec_, userTag := j.userTag, deadline := j.deadline }
        { y with pkts := putOpen p y.pkts }
      | none => y) s
    linkReady n 64 (stMod n (fun x => { x with linkNext := (j.seq + 1) % 2 ^ 32 }) s)
  else
    linkReady n 64 (qMod q (fun y => { y with chains := y.chains.map (fun c =>
      if mine c then { c with slice := some rec_, deadline := j.deadline, cells := stampRecord rec_ c.cells } else c) }) s)

/-- An encode run commits: its slice record, its chain in job order, its counters and events, its charge
(R116, R117, R127, R132, R138, 06 R153). `data` is what it has written, record included. -/
def commitEncode (n core : Nat) (x : Stream) (j : Job) (run : Run) (r : RunReport) (q : Nat) (data : List Byte) (s : State) : State :=
  let late := pastDeadline s x j
  let rec_ := recordOf s x j run r.groupBits (data.length - 32)
  let s := stopOther n x core j.seq s
  let s := coreCommit n core run s
  let s := removeJob n x j.seq s
  let s := commitChain n core j run.linking q rec_ s
  let s := jobCommitted x j .ok s
  let s := chargeJob n data.length j (if run.fallback then none else some (rec_.qpAvg, r)) s
  let s := countAll n [(ctrFallback, bit01 run.fallback), (ctrSrcErr, bit01 run.input.srcError), (ctrLateCommit, bit01 late),
    (ctrKeyPics, bit01 ((picInfo x j.picture).key && j.slice == 0)), (ctrBytesOut, rec_.bytes),
    (ctrFiller, fillerBytes x (data.drop 32))] s
  let s := if run.input.srcError then event x.owner 0x0401 [n, j.slice, j.picture, j.seq] s else s
  releaseWaiting s

/-- Is a band's concealment still ahead of its host write (R165)? -/
def concealWaits (s : State) (n : Nat) (x : Stream) (j : Job) : Bool :=
  x.dec.areas.any (fun a => a.display && a.picture == j.picture && a.slice == j.slice) ||
  s.sched.units.any (fun u => match u.band with
    | some (m, b) => m == n && b.picture == j.picture && b.slice == j.slice && bitOf b.flags 0 && u.sent == 0
    | none => false)

/-- The concealment of a band is abandoned (R165). -/
def abandonConceal (n : Nat) (j : Job) (s : State) : State :=
  let s := stMod n (fun x => { x with dec := { x.dec with
    areas := x.dec.areas.filter (fun a => !(a.display && a.picture == j.picture && a.slice == j.slice)) } }) s
  { s with sched := { s.sched with units := s.sched.units.filter (fun u => match u.band with
    | some (m, b) => !(m == n && b.picture == j.picture && b.slice == j.slice && bitOf b.flags 0 && u.sent == 0)
    | none => true) } }

/-- A picture of a decode stream is whole: dirty pictures are counted, and the first clean one after a
dirty one ends the recovery requests (R175). -/
def pictureEnd (n : Nat) (picture : Nat) (s : State) : State :=
  match stGet s n with
  | none => s
  | some x =>
    let dirty := !((tgetD x.dec.dirty picture []).isEmpty)
    let s := stMod n (fun x => { x with donePics := tput x.donePics picture s.keel.frc }) s
    if !(decPicOf x picture).shown then s
    else if dirty then stCount n ctrDirtyPics 1 (stMod n (fun x => { x with dec := { x.dec with wasDirty := true } }) s)
    else if x.dec.wasDirty then
      event x.owner 0x0405 [n, 0, picture]
        (stMod n (fun x => { x with dec := { x.dec with wasDirty := false, reqs := [] } }) s)
    else s

/-- A band of a picture has committed or was concealed for good: `last` says that it is the picture's last one; the picture is
whole when that and every other band is done. -/
def bandEnd (n picture : Nat) (last : Bool) (s : State) : State :=
  let s := stMod n (fun x =>
    let f := decPicOf x picture
    { x with frames := tput x.frames picture { f with ended := f.ended || last } }) s
  match stGet s n with
  | none => s
  | some x =>
    if (decPicOf x picture).ended && pictureDone x picture && !(thas x.donePics picture) then pictureEnd n picture s else s

/-- The encode streams that select this decode picture get their jobs (R134). -/
def feedTranscode (n picture : Nat) (s : State) : State :=
  (s.arr.streams.filter (fun e => e.2.kind == .encode && srcDecode e.2 && fopt e.2.f 0x530C == some n)).foldl
    (fun s e => writeTranscode e.1 picture s) s

/-- A picture that a commit causes to be output goes whole to the buffer of the commit's PICTURE (R157). -/
def wholeOutput (n : Nat) (x : Stream) (j : Job) (picture : Nat) (s : State) : State :=
  let s := stMod n (fun x => { x with frames := tput x.frames picture { decPicOf x picture with shown := true } }) s
  if fnat x.f 0x720D 0 != 0 || j.noOutput then s
  else putUnit { asset := false, fn := x.owner, bytes := pixelBytes x (stHeight x), order := 0, prio := 0
                 addr := bandAddr x j.picture 0, key := none, pic := some (n, picture)
                 rows := outRowsOf x j.picture 0 (stHeight x) (decPicOf x picture) } s

/-- Is film grain applied to what a commit writes (R157)? -/
def grainOn (x : Stream) (r : RunReport) : Bool := r.grain && fnat x.f 0x7219 1 == 1

/-- The lines of a band that the host gets: those decoded, with film grain where it is applied (R157). -/
def bandRows (x : Stream) (j : Job) (r : RunReport) : List (Nat × List Byte) :=
  let f := decPicOf x j.picture
  outRowsOf x j.picture j.first j.count
    (if grainOn x r then { f with planes := putPlanes f.planes (planesIn r.chroma j.first j.count r.grained) } else f)

/-- The flags of a committed band's record (Table 7-4). -/
def bandFlags (y : Stream) (late repair wantLate scanPassed grain : Bool) (picture dirty : Nat) : Nat :=
  let clean := y.dec.wasDirty && (tgetD y.dec.dirty picture []).isEmpty && (decPicOf y picture).shown
  bit01 late * 8 + bit01 repair * 16 + bit01 (repair && wantLate) * 32 + bit01 scanPassed * 64 +
    bit01 (decide (0 < dirty)) * 128 + bit01 clean * 256 + bit01 grain * 512

/-- What a decode commit leaves in its stream: the picture's lines and dirty regions, the expected band, the bitstream buffer
(R163, R165, R174). -/
def decodedInto (j : Job) (r : RunReport) (x : Stream) : Stream :=
  let x := markDirty j.picture (r.dirty ++ dirtyByVectors x r) (storeLines j.picture j.first j.count r x)
  let x := expectAfter x j.picture j.slice j.first j.count j.eop
  { x with dec := { x.dec with concealed := x.dec.concealed.filter (fun e => e != (j.picture, j.slice))
                               bsUsed := x.dec.bsUsed - j.bsBytes
                               unsupported := x.dec.unsupported && !r.headerOk } }

/-- A decode run commits its band (R163, R165, R167, R174, R175). -/
def commitDecode (n core : Nat) (x : Stream) (j : Job) (run : Run) (r : RunReport) (s : State) : State :=
  let v := jobView x j
  let late := pastDeadline s x j
  let waits := concealWaits s n x j
  let repair := x.dec.concealed.contains (j.picture, j.slice) && !waits
  let bytes := pixelBytes v j.count
  let inTime := beforeScan s x j bytes
  let mode := fnat v.f 0x7217 1
  let wantLate := mode == 2 || (mode == 1 && inTime)
  let pixels := r.shown && !j.noOutput && (!repair || wantLate)
  let s := stopOther n x core j.seq s
  let s := coreCommit n core run s
  let s := if waits then abandonConceal n j s else s
  let s := removeJob n x j.seq s
  let s := stMod n (decodedInto j r) s
  let s := feedTranscode n j.picture s
  match stGet s n with
  | none => s
  | some y =>
    let v := { y with f := v.f }
    let dirty := dirtyIn y j.picture j.first j.count
    let band : BandRec :=
      { jobSeq := j.seq, picture := j.picture, slice := j.slice
        flags := bandFlags y late repair wantLate (repair && mode == 1 && !inTime) (grainOn v r) j.picture dirty
        first := j.first, count := j.count, damage := 0, dirty := dirty, userTag := j.userTag
        runNs := s.keel.frc - run.start }
    let s := countAll n [(ctrDecLate, bit01 late), (ctrLateWrites, bit01 (repair && pixels))] s
    let s := emitBand n band pixels bytes (bandRows v j r) j.deadline (jobFl x j) s
    let s := match r.wholeOut with
      | some p => wholeOutput n v j p s
      | none => s
    let s := jobCommitted x j .ok s
    takeArea (releaseWaiting (bandEnd n j.picture (j.eop || decide (stHeight x ≤ j.first + j.count)) s))

/-- The line group of a decode stream: the one that the run found, at least the codec's least (Table 7-1). -/
def decLineGroup (x : Stream) (r : RunReport) : Nat := max r.lineGroup (if fnat x.f 0x7201 0 = 0 then 64 else 16)

/-- The job's lines do not lie on line-group boundaries (R162). -/
def badLayout (x : Stream) (j : Job) (r : RunReport) : Bool :=
  let g := decLineGroup x r
  j.first % g != 0 || ((j.first + j.count) % g != 0 && !j.eop && decide (j.first + j.count < stHeight x))

/-- The damage that a decode run ends in, 0 for none (Table 7-5): a failed read or check of a host job, an error of a queue
stream's bitstream buffer, a band layout error, a chroma format without OUT_FORMAT, or what the core finds in the
bitstream. -/
def runDamage (x : Stream) (j : Job) (run : Run) (r : RunReport) : Nat :=
  if run.input.damage != 0 then run.input.damage
  else if run.input.unread && (r.damage == 7 || (r.damage == 2 && j.src.crc.isSome)) then r.damage
  else if !(fromHost x) && r.damage == 8 then 8
  else if r.damage == 5 then 5
  else if badLayout x j r then 4
  else if r.damage == 4 then 4
  else if fnat x.f 0x720D 0 == 0 && !(formatFits (fnat x.f 0x720E 2) r.chroma) then 5
  else 0

/-- The first line that a damaged run conceals: for SYNTAX the line group of the first error, else the band's. -/
def damageFirst (x : Stream) (j : Job) (r : RunReport) (kind : Nat) : Nat :=
  let g := decLineGroup x r
  if kind = 4 ∧ !(badLayout x j r) then max j.first (min (r.errLine / g * g) (j.first + j.count - 1)) else j.first

/-- The first band that depends on a header that fails its checks raises DECODE_UNSUPPORTED, until a header passes (R156). -/
def noteHeader (n : Nat) (j : Job) (r : RunReport) (kind : Nat) (s : State) : State :=
  match stGet s n with
  | none => s
  | some x =>
    let old := x.dec.unsupported && !r.headerOk
    let now := kind == 5 && r.damage == 5
    let s := stMod n (fun x => { x with dec := { x.dec with unsupported := old || now } }) s
    if now && !old then event x.owner 0x0403 [n, 0, j.picture] s else s

/-- A decode run finds damage (R156, R159, R162): the run ends, the lines before a syntax error stay, and the band is
damaged. -/
def damageRun (n core : Nat) (x : Stream) (j : Job) (run : Run) (r : RunReport) (kind : Nat) (s : State) : State :=
  let s := if kind = 7 && run.input.unread then readFailed x.owner (readFailed x.owner s) else s
  let s := stopOther n x core j.seq s
  let k := coreGet s core
  let s := coreSet s core { k with run := none, busyNs := k.busyNs + (s.keel.frc - run.busyFrom) }
  let s := setJob n j.seq (fun j => { j with st := .waiting, damage := kind }) s
  let first := damageFirst x j r kind
  let s := stMod n (fun x =>
    if j.first < first then
      markDirty j.picture (r.dirty ++ dirtyByVectors x r) (storeLines j.picture j.first (first - j.first) r x)
    else x) s
  damage n kind j.picture j.slice first (j.first + j.count - first) (some j) (noteHeader n j r kind s)

/-- A texture run commits; a chunk that cannot be decoded, or whose descriptor does not fit its table entry, is a FORMAT
failure (08 R195-R198). -/
def commitTexture (n core : Nat) (x : Stream) (j : Job) (run : Run) (r : RunReport) (s : State) : State :=
  let s := coreCommit n core run s
  let s := removeJob n x j.seq s
  match j.asset with
  | none => s
  | some (q, c) =>
    match (reqGet s q).bind (fun y => chunkGet y c), reqGet s q with
    | some k, some y =>
      let p := reqPort y
      let fits := match chunkEntry y c with
        | some e => texFits (hostForm y.a e) k.desc e
        | none => false
      let s := assetCount p 8 1 (assetCount p 9 r.fastpath s)
      if r.outOk && fits then queueOutput q c s
      else raise 0x288 1 (addrAsset y.h.fn y.h.tag) false (failChunk q c .integrity 0x11 (assetCount p 7 1 s))
    | _, _ => s

/-! ### RUN_COMMIT (R81, R100, R103) -/

/-- Is a run's output whole in its core's chain? -/
def chainWhole (s : State) (x : Stream) (job core : Nat) : Bool :=
  match (outQueue x).bind (qGet s) with
  | some y => y.chains.any (fun c => c.job == job && c.core == core && c.done)
  | none => false

/-- Is the output of a run whole: its chain with the cells that OUTPUT_HOLD keeps behind it, or the bitstream that a band is
decoded from (R100, 07 R178)? -/
def outputWhole (s : State) (x : Stream) (r : Run) (core : Nat) : Bool :=
  match x.kind with
  | .encode => chainWhole s x r.job core || (match r.cache.getLast? with | some c => c.last | none => false)
  | .decode => fromHost x || ((jobGet x r.job).map (fun j => j.whole)).getD false
  | .texture => true

/-- Does a run on a core reach its commit in this cell cycle, among the rows that wait (R103, 02 R53)? -/
def commitDue (s : State) (core : Nat) : Bool :=
  s.pending.any (fun c => match c with
    | .runCommit t other _ =>
      decide (t ≤ s.keel.frc) && other == core &&
      (match (coreGet s core).run with
       | some r => (match stGet s r.stream with | some x => outputWhole s x r core | none => false)
       | none => false)
    | _ => false)

/-- Does a run of a job reach its commit in this cell cycle? -/
def jobCommitDue (s : State) (n seq : Nat) : Bool :=
  (List.range 16).any (fun c => (match (coreGet s c).run with
    | some r => r.stream == n && r.job == seq
    | none => false) && commitDue s c)

/-- Does the job's other run, issued first, reach its commit in this cell cycle too? It then takes the token (R81). -/
def rivalFirst (s : State) (core : Nat) (run : Run) : Bool :=
  (List.range 16).any (fun c => c != core && (match (coreGet s c).run with
    | some o => o.stream == run.stream && o.job == run.job &&
        (decide (o.start < run.start) || (o.start == run.start && run.second && !o.second))
    | none => false) && commitDue s c)

/-- While the queue that a commit links into, or the job queue that it removes the job from, is BLOCKED, the commit waits
(R77). -/
def commitStalls (s : State) (x : Stream) : Bool :=
  let stuck := fun (q : Nat) => match qGet s q with | some y => y.blocked | none => false
  (match outQueue x with | some q => stuck q | none => false) || (x.kind != .texture && stuck (jobQueue x))

/-- What an encode run wrote is what the spec asks of it: the form of the bitstream (05 R128), filler where HRD_SIGNAL wants it
(06 R153), vectors within their range (05 R122, R125). -/
def contentOk (s : State) (x : Stream) (j : Job) (r : RunReport) (data : List Byte) : Bool :=
  let v := jobView x j
  decide (32 ≤ data.length) && bitstreamOk v j (cbrHrd v && j.eop) (data.drop 32) && fillerOk s v j data.length &&
    r.vectors.all (vecOk v (picInfo x j.picture))

/-- An encode run reaches its end: the core writes what it kept, and a chain that is whole takes the job's token; a slice that
other commits have left no room for under a hard cap is coded again (R81, R100, 06 R147). -/
def endEncode (n core q : Nat) (r : RunReport) (s : State) : State :=
  let s := flushCells q core s
  match (coreGet s core).run, stGet s n, qGet s q with
  | some run, some x, some y =>
    match jobGet x run.job, chainOf y run.job core with
    | some j, some ch =>
      if !ch.done || !(contentOk s x j r ch.data) then s
      else if passesCap s x j run ch.data.length then
        restartRun n q core ctrCapRetry x j (if run.linking then endOpen q 3 s else s)
      else commitEncode n core x j run r q ch.data s
    | _, _ => s
  | _, _, _ => s

/-- RUN_COMMIT: a run whose output is whole takes its job's token (R81). -/
def execRunCommit (t core : Nat) (r : RunReport) (s : State) : Host.Outcome State Fault Refusal :=
  evOn (decide (core < 16)) t s fun s =>
    match (coreGet s core).run with
    | none => s
    | some run =>
      match stGet s run.stream with
      | none => s
      | some x =>
        match jobGet x run.job with
        | none => s
        | some j =>
          if rivalFirst s core run || commitStalls s x || !(outputWhole s x run core) then s
          else match x.kind with
          | .texture => commitTexture run.stream core x j run r s
          | .encode =>
            match outQueue x with
            | none => s
            | some q => endEncode run.stream core q r s
          | .decode =>
            match runDamage (jobView x j) j run r with
            | 0 => commitDecode run.stream core x j run r s
            | kind => damageRun run.stream core x j run r kind s

/-! ### Faults during a run (R101-R104) -/

/-- A job fails after repeated faults (R104). -/
def failJob (n : Nat) (x : Stream) (j : Job) (s : State) : State :=
  let s := match x.kind with
    | .encode =>
      let s := failRecord n x j (removeJob n x j.seq s)
      chargeJob n 0 j none (jobCommitted x j .integrity s)
    | .decode =>
      damage n 9 j.picture j.slice j.first j.count (some j)
        (setJob n j.seq (fun j => { j with st := .waiting, damage := 9 }) s)
    | .texture =>
      let s := removeJob n x j.seq s
      match j.asset with
      | some (q, c) => failChunk q c .integrity 0x13 s
      | none => s
  raise 0x0C0 1 (addrStream n) false (releaseWaiting s)

/-- Runs of a job end without being core faults. -/
def stopJobRuns (n seq : Nat) (s : State) : State :=
  (List.range 16).foldl (fun s c => match (coreGet s c).run with
    | some r => if r.stream == n && r.job == seq then endRun c s else s
    | none => s) s

/-- A core fault ends the run on a core (R101), and its job fails with the third one on at least two cores (R104); one in the
cycle of the run's commit affects only the core (R103). -/
def faultRun (core : Nat) (s : State) : State :=
  let k := coreGet s core
  match k.run with
  | none => s
  | some r =>
    if commitDue s core then s
    else
      let s := coreSet s core { k with runsFaulted := k.runsFaulted + 1 }
      let linked := r.linking
      let s := endRun core s
      match (stGet s r.stream).bind (fun x => jobGet x r.job), stGet s r.stream with
      | some j, some x =>
        let faults := j.faults ++ [core]
        let other := j.st == .running
        let one := faults.all (· == core)
        let s := setJob r.stream r.job (fun j => { j with
          faults := faults, whole := if x.kind == .encode then j.whole || linked else j.whole
          requeued := j.requeued || !other
          banned := if decide (3 ≤ faults.length) && one then some core else j.banned }) s
        if decide (3 ≤ faults.length) && !one then failJob r.stream x j (stopJobRuns r.stream r.job s)
        else if other then s else stCount r.stream ctrRequeues 1 s
      | _, _ => s

/-- CORE_FAULT: kind 0 a lane fault (the core then tests the lane, R102), 1 an uncorrectable cache error,
2 a failed context load (R89), 3 a corrected cache error, 4 a dispatcher parity error (Table 4-6). -/
def execCoreFault (t core kind lane : Nat) (s : State) : Host.Outcome State Fault Refusal :=
  evOn (decide (core < 16) && decide (lane < 6) && decide (kind < 5)) t s fun s =>
    match kind with
    | 0 =>
      let k := coreGet s core
      if k.st == .offline then s
      else
        let s := faultRun core s
        coreSet s core { coreGet s core with st := .testing }
    | 1 => raise (coreSource core 3) 1 (addrCore core 15) false (faultRun core s)
    | 2 =>
      match (coreGet s core).run with
      | some r =>
        if r.load then
          let s := coreSet s core { coreGet s core with ctx := (coreGet s core).ctx.filter (· != r.stream) }
          raise 0x0C1 1 (addrStream r.stream) false (faultRun core s)
        else s
      | none => s
    | 3 => raise (coreSource core 2) 1 (addrCore core 15) false s
    | _ => raise 0x0C3 1 0 false s

/-- RUN_WATCHDOG_EXPIRY: the later of 4 times the first predicted duration and 50 ms has passed (R103). -/
def execRunWatchdogExpiry (t core : Nat) (s : State) : Host.Outcome State Fault Refusal :=
  evOn (decide (core < 16)) t s fun s =>
    match (coreGet s core).run with
    | none => s
    | some r =>
      if s.keel.frc < r.start + max (4 * r.firstDur) 50000000 || commitDue s core then s
      else raise (coreSource core 4) 1 (addrCore core 15) false (faultRun core s)

/-- LANE_TEST_DONE: the result of a lane's test is raised once; a failed lane is disabled until the next
RESET_N, and a core left short of lanes goes OFFLINE (R102). -/
def execLaneTestDone (t core lane : Nat) (pass : Bool) (s : State) : Host.Outcome State Fault Refusal :=
  evOn (decide (core < 16) && decide (lane < 6)) t s fun s =>
    let k := coreGet s core
    if k.st != .testing then s
    else
      if pass then
        let off := if lane < 4 then 0 else 1
        let num := if lane < 4 then lane else lane - 4
        coreBack core (raise (coreSource core off) (1 + 2 * num) (addrCore core lane) false s)
      else
        let s := loseLane core s lane
        if tooFewLanes (coreGet s core) then coreOffline core s else coreBack core s

/-! ### Clock steps, slow cores and the power cap (R105-R107) -/

/-- A core at 0.6 GHz is too hot and is parked until it reads 95 °C (R105); one that the power cap parks, or that is being
tested, stays as it is meanwhile. -/
def heatCore (core : Nat) (k : Core) (s : State) : State :=
  coreSet s core { k with hot := true, st := if k.st == .online then .parkedThermal else k.st }

/-- A core has cooled to 95 °C: it resumes at 0.6 GHz (R105). -/
def coolCore (core : Nat) (k : Core) (s : State) : State :=
  let s := coreSet s core { k with hot := false, step := 2 }
  if k.st == .parkedThermal then coreBack core s else s

/-- A core's clock moves to a thermal step: the source is raised, and a run that has not reported is predicted anew (R97,
R105). -/
def moveStep (core step kind : Nat) (k : Core) (s : State) : State :=
  raise (coreSource core 7) kind (addrCore core 15) false (rerate core (coreSet s core { k with step := step }))

/-- THERMAL_EVALUATION: a core reads its sensor every 10 us and moves at most one step (R105); in SNOWPLOUGH C0 stays at
1.2 GHz (R109). -/
def execThermalEvaluation (t core : Nat) (temp : Int) (s : State) : Host.Outcome State Fault Refusal :=
  evOn (decide (core < 16)) t s fun s =>
    if !(inService s) then s
    else
      let s := settle core s
      let k := coreGet s core
      let k := { k with temp := some temp, peak := some (match k.peak with | some p => max p temp | none => temp)
                        coolSince := if temp ≤ 94 then some (k.coolSince.getD s.keel.frc) else none }
      let cool := match k.coolSince with
        | some c => decide (c + 10000000 ≤ s.keel.frc)
        | none => false
      if s.eng == .snowplough then coreSet s core k
      else if k.hot then (if temp ≤ 95 then coolCore core k s else coreSet s core k)
      else if 104 ≤ temp && coreStep s core == 2 then heatCore core k s
      else if 100 ≤ temp && decide (k.step < 2) then moveStep core (k.step + 1) 1 k s
      else if cool && decide (0 < k.step) then moveStep core (k.step - 1) 2 { k with coolSince := some s.keel.frc } s
      else coreSet s core k

/-- SLOW_CORE_CHECK: the rate over 100 ms stays below half of the core's Table 4-2 rate, of encode or decode (R107). The
source is raised once, and again only after the rate has been restored for 100 ms. -/
def execSlowCoreCheck (t core : Nat) (r : RateFacts) (s : State) : Host.Outcome State Fault Refusal :=
  evOn (decide (core < 16)) t s fun s =>
    let k := coreGet s core
    if !(inService s) || k.st == .offline then s
    else if 2 * r.rate < scaleRate s core (if r.decode then 2000000000 else 1000000000) then
      let s := coreSet s core { k with slow := true, okSince := none }
      if k.slow then s else raise 0x0C2 1 (addrCore core 15) false s
    else
      let since := k.okSince.getD s.keel.frc
      let slow := k.slow && decide (s.keel.frc < since + 100000000)
      coreSet s core { k with slow := slow, okSince := if slow then some since else none }

/-- Cores ONLINE. -/
def onlineCount (s : State) : Nat := (List.range 16).countP (fun c => (coreGet s c).st == .online)

/-- The limit has fallen: the highest-numbered ONLINE cores beyond it are parked (R106). -/
def applyFall (s : State) : State :=
  (List.range 16).reverse.foldl (fun s c =>
    let k := coreGet s c
    if k.st == .online && decide (s.arr.limit < onlineCount s) then coreSet s c { k with st := .parkedCap } else s) s

/-- The limit has risen: cores leave PARKED_CAP, the lowest number first (R106); one that is hot stays parked (R105). -/
def applyRise (s : State) : State :=
  (List.range 16).foldl (fun s c =>
    let k := coreGet s c
    if k.st == .parkedCap && decide (onlineCount s < s.arr.limit) then
      coreSet s c { k with st := if k.hot then .parkedThermal else .online }
    else s) s

/-- A telemetry device's reading on a tick (19 R445): three ticks in a row without an answer raise 0x341 and
exclude it; an excluded device is read on every 1,000th tick and returns at its first answer. -/
def readTelem (i : Nat) (v : Option Nat) (s : State) : State :=
  match tget s.board.telem i with
  | none => s
  | some d =>
    let n := (d.ticks + 1) % 1000
    let d' : Telem :=
      if d.excluded then
        if n = 0 && v.isSome then { d with silent := 0, excluded := false, ticks := 0 } else { d with ticks := n }
      else match v with
        | some _ => { d with silent := 0 }
        | none => { d with silent := d.silent + 1, excluded := decide (3 ≤ d.silent + 1), ticks := 0 }
    let s := { s with board := { s.board with telem := tput s.board.telem i d' } }
    if d'.excluded && !d.excluded then raise 0x341 1 0 false s else s

/-- Entries of a list beyond its last 16 are dropped. -/
def last16 (l : List Nat) : List Nat := l.drop (l.length - 16)

/-- The correction: readings over estimates of the last 16 ticks, held within 0.8 to 1.25; 0x342 at most
once a second when it would have left them (19 R446). -/
def telemetryTick (covered : Nat) (readings : List (Option Nat)) (s : State) : State :=
  let s := (List.range 8).foldl (fun s i => readTelem i (readings[i]?.join) s) s
  let valid := (List.range 8).filter (fun i => match tget s.board.telem i with
    | some d => !d.excluded && (readings[i]?.join).isSome
    | none => false)
  if s.board.telem.isEmpty then
    { s with board := { s.board with readSum := [], estSum := [], corrNum := 1, corrDen := 1 } }
  else if valid.isEmpty then s
  else
    let rs := last16 (s.board.readSum ++ [(valid.map (fun i => (readings[i]?.join).getD 0)).sum])
    let es := last16 (s.board.estSum ++ [covered])
    let num := rs.sum
    let den := max 1 es.sum
    let low := decide (num * 10 < den * 8)
    let high := decide (den * 5 < num * 4)
    let s := { s with board := { s.board with
      readSum := rs, estSum := es
      corrNum := if low then 4 else if high then 5 else num
      corrDen := if low then 5 else if high then 4 else den } }
    let due := match s.board.clampFrc with
      | some f => decide (f + 1000000000 ≤ s.keel.frc)
      | none => true
    if (low || high) && due then
      raise 0x342 1 0 false { s with board := { s.board with clampFrc := some s.keel.frc } }
    else s

/-- POWER_CAP_TICK: on each 1 ms tick the estimate is compared with the cap (R106, 19 R445, R446). -/
def execPowerCapTick (t onDie covered : Nat) (readings : List (Option Nat)) (s : State) :
    Host.Outcome State Fault Refusal :=
  ev t s fun s =>
    if s.eng != .piste then s
    else
      let s := telemetryTick covered readings s
      let p := onDie * s.board.corrNum / max 1 s.board.corrDen
      let s := { s with arr := { s.arr with estMw := some p } }
      if s.arr.capMw < p then
        let s := { s with arr := { s.arr with under := 0 } }
        if 2 < s.arr.limit then
          applyFall { s with arr := { s.arr with limit := s.arr.limit - 1, actions := 0 :: s.arr.actions } }
        else if s.arr.arrayStep < 2 then
          let s := settleAll s
          rerateAll { s with arr := { s.arr with arrayStep := s.arr.arrayStep + 1, actions := 1 :: s.arr.actions } }
        else event 0 0x0B01 [s.arr.capMw, p] (raise 0x340 1 0 false s)
      else
        if p + 2000 ≤ s.arr.capMw then
          if 15 ≤ s.arr.under then
            let s := { s with arr := { s.arr with under := 0 } }
            if 0 < s.arr.arrayStep then
              let s := settleAll s
              rerateAll { s with arr := { s.arr with arrayStep := s.arr.arrayStep - 1, actions := s.arr.actions.drop 1 } }
            else if s.arr.limit < 16 then
              applyRise { s with arr := { s.arr with limit := s.arr.limit + 1, actions := s.arr.actions.drop 1 } }
            else s
          else { s with arr := { s.arr with under := s.arr.under + 1 } }
        else { s with arr := { s.arr with under := 0 } }

/-! ### Lookahead (06 R151) -/

/-- LOOKAHEAD_ANALYSIS_DONE: a picture of a stream with LOOKAHEAD is analysed, with its cost, once its END_OF_PICTURE job has
been accepted. -/
def execLookaheadAnalysisDone (t stream picture cost : Nat) (s : State) : Host.Outcome State Fault Refusal :=
  ev t s fun s =>
    match stGet s stream with
    | none => s
    | some x =>
      if x.kind != .encode || fnat x.f 0x610E 0 == 0 || decide (tgetD x.recon picture 0 < stHeight x) then s
      else releaseWaiting (stSet s stream { x with enc := { x.enc with
        laDone := tput (x.enc.laDone.filter (fun e => decide ((picture + 2 ^ 32 - e.1) % 2 ^ 32 < 64))) picture cost } })

/-- LA_GUARD_RELEASE: a job's slack has fallen to LA_GUARD lines, and it leaves its lookahead wait. -/
def execLaGuardRelease (t stream job : Nat) (s : State) : Host.Outcome State Fault Refusal :=
  ev t s fun s =>
    match stGet s stream with
    | none => s
    | some x =>
      match jobGet x job with
      | none => s
      | some j =>
        let near := match j.deadline.bind (slackOf s (jobFl x j)) with
          | some k => decide (k ≤ Int.ofNat (fnat (jobView x j).f 0x610F 64 * 65536))
          | none => false
        if j.st == .waiting && j.laWait && !(laReady x j) && near then
          releaseWaiting (stCount stream ctrLaRel 1 (setJob stream job (fun j => { j with laWait := false }) s))
        else s

end Sys2Proof.Machine
end

