-- ==== Sys2Proof/Machine/Pins.lean ====
section
/-! DEFINITION. The PIN, POWER and DIAG commands (17 Tables 17-14 to 17-16; 17 R404, R405; 20 R451, R461). -/

namespace Sys2Proof.Machine

/-! ### Claimable pins and roles (R404, R405, R451) -/

/-- Objects of each KIND: CMP 0, TRIG 1, CAP 2, IC 3, GPIO 4. -/
def pinCount (kind : Nat) : Nat :=
  match kind with
  | 0 => 64
  | 1 => 8
  | 2 => 4
  | 3 => 4
  | _ => 14

/-- The function that holds a pin object. -/
def pinOwner (s : State) (kind i : Nat) : Option Nat :=
  match kind with
  | 0 => (tgetD s.tu.cmps i {}).owner
  | 1 => (tgetD s.tu.trigs i {}).owner
  | 2 => (tgetD s.tu.caps i {}).owner
  | 3 => (tgetD s.tu.caps (4 + i) {}).owner
  | _ => tget s.board.gpioOwner i

/-- Does the engine hold the object: the comparator of a running gate list? -/
def pinEngine (s : State) (kind i : Nat) : Bool := kind == 0 && (tgetD s.tu.cmps i {}).gate.isSome

/-- Is the fault role of the ball in force: its pair is enabled? -/
def faultRole (s : State) (gpio : Nat) : Bool :=
  ((gpio == 6 || gpio == 7) && bitOf s.keel.xfEnable 3) ||
  (decide (8 ≤ gpio) && decide (gpio < 14) && bitOf s.keel.xfEnable ((gpio - 8) / 2))

/-- Does a role of higher precedence hold the ball of a TRIG or GPIO object? -/
def shadowed (s : State) (kind i : Nat) : Bool :=
  (kind == 1 && faultRole s i) || (kind == 4 && (faultRole s i || (decide (i < 8) && (pinOwner s 1 i).isSome)))

/-- The state with a pin object held by a function, its settings at their defaults. -/
def pinGive (s : State) (kind i fn : Nat) : State :=
  match kind with
  | 0 => { s with tu := { s.tu with cmps := tput s.tu.cmps i { owner := some fn } } }
  | 1 => { s with tu := { s.tu with trigs := tput s.tu.trigs i { owner := some fn } } }
  | 2 => { s with tu := { s.tu with caps := tput s.tu.caps i { owner := some fn } } }
  | 3 => { s with tu := { s.tu with caps := tput s.tu.caps (4 + i) { owner := some fn } } }
  | _ => { s with board := { s.board with gpioOwner := tput s.board.gpioOwner i fn } }

/-- The state with a pin object free. -/
def pinFree (s : State) (kind i : Nat) : State :=
  match kind with
  | 0 => { s with tu := { s.tu with cmps := tdel s.tu.cmps i } }
  | 1 => { s with tu := { s.tu with trigs := tdel s.tu.trigs i } }
  | 2 => { s with tu := { s.tu with caps := tdel s.tu.caps i } }
  | 3 => { s with tu := { s.tu with caps := tdel s.tu.caps (4 + i) } }
  | _ => { s with board := { s.board with gpioOwner := tdel s.board.gpioOwner i, gpioOut := tdel s.board.gpioOut i } }

/-- The object that a claim takes: the one named, or the lowest free one. -/
def claimIndex (s : State) (kind : Nat) (fn : Nat) (index : Option Nat) : Except Status Nat :=
  match index with
  | some i =>
    if pinEngine s kind i then .error .conflict
    else match pinOwner s kind i with
      | some f => if f = fn then .ok i else .error .conflict
      | none => .ok i
  | none =>
    match (List.range (pinCount kind)).find? (fun i => (pinOwner s kind i).isNone && !(pinEngine s kind i)) with
    | some i => .ok i
    | none => .error .noRes

/-- PIN.CLAIM (R404, R405). -/
def execPinClaim (h : Hdr) (kind : Nat) (index : Option Nat) (s : State) : Host.Outcome State Fault Refusal :=
  mbx { op := 0x0C01 } h s fun s => do
    need (decide (kind < 5) && (match index with | some i => decide (i < pinCount kind) | none => true)) .badArg
    let i ← claimIndex s kind h.fn index
    let sh := shadowed s kind i
    done (if (pinOwner s kind i).isSome then s else pinGive s kind i h.fn) [Int.ofNat i, Int.ofNat (bit01 sh)]

/-- A pin object that the caller holds: E_STATE where none does, E_NOPERM where another does (R397). -/
def ownPin (h : Hdr) (s : State) (kind i : Nat) : Except Status Unit :=
  if pinEngine s kind i then .error .noPerm
  else match pinOwner s kind i with
    | none => .error .state
    | some f => need (f == h.fn) .noPerm

/-- PIN.RELEASE: an armed comparator needs FORCE, which disarms it. -/
def execPinRelease (h : Hdr) (kind : Nat) (force : Bool) (index : Nat) (s : State) : Host.Outcome State Fault Refusal :=
  mbx { op := 0x0C02 } h s fun s => do
    need (decide (kind < 5) && decide (index < pinCount kind)) .badArg
    ownPin h s kind index
    need (!(kind == 0 && (tgetD s.tu.cmps index {}).armed) || force) .busy
    done (pinFree s kind index)

/-- PIN.QUERY: OWNER is a function, 0xFE for the engine, 0xFF for none. -/
def execPinQuery (h : Hdr) (kind index : Nat) (s : State) : Host.Outcome State Fault Refusal :=
  mbx { op := 0x0C03, inH := true } h s fun s => do
    need (decide (kind < 5) && decide (index < pinCount kind)) .badArg
    let eng := pinEngine s kind index
    let o := if eng then 0xFE else (pinOwner s kind index).getD 0xFF
    done s [Int.ofNat o, Int.ofNat (bit01 (o != 0xFF && !(shadowed s kind index)))]

/-- PIN.GPIO.SET: DIR IN 0, OUT 1. -/
def execPinGpioSet (h : Hdr) (gpio dir level : Nat) (s : State) : Host.Outcome State Fault Refusal :=
  mbx { op := 0x0C04 } h s fun s => do
    need (decide (gpio < 14) && decide (dir < 2) && decide (level < 2)) .badArg
    ownPin h s 4 gpio
    let out := if dir = 1 then tput s.board.gpioOut gpio (level == 1) else tdel s.board.gpioOut gpio
    done { s with board := { s.board with gpioOut := out } }

/-- Are TRIG0-TRIG7 and GPIO high-impedance, as Table 19-7 says of a keel without power, RESET_N, START_HUT and
HALTED? -/
def pinsFloat (s : State) : Bool := !s.keel.powered || s.resetN || !(inService s)

/-- The level that the time-trigger role drives at a ball, none where it leaves the ball high-impedance (02
Table 2-12, R54). -/
def trigLevel (s : State) (i : Nat) : Option Bool :=
  let x := tgetD s.tu.trigs i {}
  let pulse := match x.pulseEnd with
    | some e => decide (s.keel.frc < e)
    | none => false
  if pinsFloat s || x.owner.isNone then none else if pulse then some (!x.low) else if x.highZ then none else some x.low

/-- The level at a GPIO ball: what its role in force drives, else what the board applies (R405). -/
def ballLevel (s : State) (i : Nat) (ballIn : Bool) : Bool :=
  if faultRole s i || pinsFloat s then ballIn
  else if i < 8 ∧ (pinOwner s 1 i).isSome then (trigLevel s i).getD ballIn
  else (tget s.board.gpioOut i).getD ballIn

/-- PIN.GPIO.READ. -/
def execPinGpioRead (h : Hdr) (gpio : Nat) (ballIn : Bool) (s : State) : Host.Outcome State Fault Refusal :=
  mbx { op := 0x0C05 } h s fun s => do
    need (decide (gpio < 14)) .badArg
    ownPin h s 4 gpio
    done s [Int.ofNat (bit01 (ballLevel s gpio ballIn))]

/-! ### Power -/

/-- POWER.CAP.SET (R106). -/
def execPowerCapSet (h : Hdr) (capMw : Nat) (s : State) : Host.Outcome State Fault Refusal :=
  mbx { op := 0x0B01, pf := true, inS := false } h s fun s => do
    need (decide (20000 ≤ capMw) && decide (capMw ≤ 58000)) .badArg
    done { s with arr := { s.arr with capMw := capMw } }

/-- A value that the spec leaves open where nothing has set it yet. -/
def orFree (o : Option Int) (s : State) : Int × State :=
  match o with
  | some v => (v, s)
  | none => let (k, s) := takeFree s; (Int.ofNat (Config.freeValue k), s)

/-- The highest TJ_PEAK among the cores. -/
def peakAll (s : State) : Option Int :=
  ((List.range 16).filterMap (fun c => (coreGet s c).peak)).foldl (fun o v => some (match o with | some p => max p v | none => v)) none

/-- POWER.QUERY. -/
def execPowerQuery (h : Hdr) (s : State) : Host.Outcome State Fault Refusal :=
  mbx { op := 0x0B02, inH := true } h s fun s =>
    let (est, s) := orFree (s.arr.estMw.map Int.ofNat) s
    let (tj, s) := orFree (peakAll s) s
    let feeds := bit01 s.keel.aGood + 2 * bit01 s.keel.bGood + 4 * bit01 s.keel.onB
    done s [est, Int.ofNat s.arr.capMw, Int.ofNat s.arr.limit, Int.ofNat s.arr.arrayStep, Int.ofNat feeds, tj]

/-- POWER.TELEMETRY.SET (R445): DEVICE 0 frees the index; RAIL names a main rail of Table 19-1. -/
def execPowerTelemetrySet (h : Hdr) (index smbusAddr device rail : Nat) (s : State) : Host.Outcome State Fault Refusal :=
  mbx { op := 0x0B03, pf := true } h s fun s => do
    need (decide (index < 8) && decide (device < 3) && decide (rail < 8) && decide (smbusAddr < 256)) .badArg
    let d : Telem := { addr := smbusAddr, device := device, rail := rail }
    let telem := if device = 0 then tdel s.board.telem index else tput s.board.telem index d
    done { s with board := { s.board with telem := telem } }

/-! ### Diagnostics -/

/-- STATE of Table 4-8. -/
def coreStCode : CoreSt → Nat
  | .online => 0
  | .parkedThermal => 1
  | .parkedCap => 2
  | .testing => 3
  | .offline => 4

/-- A 64-bit counter as it is read: it saturates (R110). -/
def sat64 (n : Nat) : Int := Int.ofNat (min n (2 ^ 64 - 1))

/-- The busy time of a core brought up to date. -/
def settleBusy (c : Nat) (s : State) : State :=
  let k := coreGet s c
  match k.run with
  | none => s
  | some r => coreSet s c { k with busyNs := k.busyNs + (s.keel.frc - r.busyFrom), run := some { r with busyFrom := s.keel.frc } }

/-- The busy time and the residencies of every core brought up to date. -/
def settleCores (s : State) : State := (List.range 16).foldl (fun s c => settleBusy c s) (settleAll s)

/-- The values of Table 4-8 for one core; a TJ_PEAK without a reading is free. -/
def coreStats (s : State) (c : Nat) : List Int :=
  let k := coreGet s c
  [Int.ofNat (coreStCode k.st), Int.ofNat (coreStep s c), Int.ofNat k.lanes, sat64 k.runsStarted, sat64 k.runsCommitted,
   sat64 k.secondStarted, sat64 k.secondWon, sat64 k.runsLost, sat64 k.runsFaulted, sat64 k.ctxLoads, sat64 k.busyNs,
   sat64 k.pixels, sat64 k.res0, sat64 k.res1, sat64 k.res2,
   k.peak.getD (Int.ofNat (Config.freeValue (s.free + c)))]

/-- A core after its statistics were read: TJ_PEAK is the present reading, and with CLEAR the counters are
zero. -/
def coreRead (clear : Bool) (k : Core) : Core :=
  let k := { k with peak := k.temp }
  if clear then
    { k with runsStarted := 0, runsCommitted := 0, secondStarted := 0, secondWon := 0, runsLost := 0, runsFaulted := 0,
             ctxLoads := 0, busyNs := 0, pixels := 0, res0 := 0, res1 := 0, res2 := 0 }
  else k

/-- DIAG.CORE.STATS (R110). -/
def execDiagCoreStats (h : Hdr) (clear : Bool) (s : State) : Host.Outcome State Fault Refusal :=
  mbx { op := 0x0F01, pf := true, res := 1632 } h s fun s =>
    let s := settleCores s
    let res := ((List.range 16).map (coreStats s)).flatten
    let s := (List.range 16).foldl (fun s c => coreSet s c (coreRead clear (coreGet s c))) s
    done { s with free := s.free + 16 } res

/-- DIAG.SELFTEST: long; each ONLINE core is tested in turn as the dispatcher frees it. -/
def execDiagSelftest (h : Hdr) (laneFail : List (Nat × Nat)) (s : State) : Host.Outcome State Fault Refusal :=
  mbx { op := 0x0F02, pf := true, inS := false } h s fun s => do
    need s.arr.selftest.isNone .busy
    let s := outstanding h .selftest s
    .ok (selftestRun 17 { s with arr := { s.arr with selftest := some { fails := laneFail, next := 0, results := [] } } }, none)

/-- DIAG.TEMP.READ (R461): 24 sensors, in 1/16 degree; a sensor that nothing has read yet gives a free value. -/
def execDiagTempRead (h : Hdr) (s : State) : Host.Outcome State Fault Refusal :=
  mbx { op := 0x0F03, pf := true, inH := true, res := 48 } h s fun s =>
    if lifecycle s.trust = 2 then .error .noPerm
    else
      let one := fun (i : Nat) =>
        (if i < 16 then (coreGet s i).temp else tget s.board.temps i).map (fun v => v * 16)
      done { s with free := s.free + 24 }
        ((List.range 24).map (fun i => (one i).getD (Int.ofNat (Config.freeValue (s.free + i)))))

/-- DIAG.TRACE.READ: closed in FIELD (15 Table 15-3). -/
def execDiagTraceRead (h : Hdr) (maxBytes addr : Nat) (s : State) : Host.Outcome State Fault Refusal :=
  mbx { op := 0x0F04, pf := true, inH := true } h s fun s => do
    need (lifecycle s.trust != 2) .noPerm
    let (k, s) := takeFree s
    let n := min maxBytes (Config.traceBytes k maxBytes)
    done { s with link := { s.link with writes := ⟨h.fn, addr, [], 9, [Int.ofNat n]⟩ :: s.link.writes } } [Int.ofNat n]

end Sys2Proof.Machine
end

