-- ==== Sys2Proof/Machine/Fields.lean ====
section
/-! DEFINITION. The field tables of the TIME, BUS, SCHED and CHECK records (17 R401-R403; Tables 2-3, 2-6,
2-9, 2-10, 2-12, 9-7, 10-9, 10-11, 10-12, 12-1, 12-2, 12-4, 13-1 to 13-3, 14-4). A field that a command's head
holds is left out of its table, so that a record for it is refused (R401). -/

namespace Sys2Proof.Machine

/-- A field that is neither required nor fixed at creation. -/
def fld (id : Nat) (r : FRange) : FieldSpec := ⟨id, r, false, false⟩

/-- A node ID, or none. -/
def nodeOrNone : FRange := .orNone 1 65534

/-- Table 2-3. -/
def servoFields : List FieldSpec :=
  [ fld 0x2301 (enum 2), fld 0x2302 (.oneOf [125, 250, 500, 1000, 2000, 4000, 8000, 16000]),
    fld 0x2303 (.int 1 16 1), fld 0x2304 (.int 0 15 1), fld 0x2305 (.int 0 15 1), fld 0x2306 (.int 1 1000 1),
    fld 0x2307 (.int 1 64 1), fld 0x2308 (.int 2 16 1), fld 0x2309 queueRange ]

/-- Table 2-6. -/
def termFields : List FieldSpec :=
  [ fld 0x2601 (.int 0 65535 1), fld 0x2602 (.int 0 65535 1), fld 0x2603 (.int (-32768) 32767 1) ]

/-- Table 2-9; ANCHOR_OUT is checked by `anchorOutOk`. -/
def flFields : List FieldSpec :=
  [ fld 0x2901 (enum 4), fld 0x2902 (.int 1 65535 1), fld 0x2903 (.int 1000 4294967295 1),
    fld 0x2904 (.int 0 4294967294 1), fld 0x2905 (.int 1 4294967295 1), fld 0x2906 .time,
    fld 0x2907 (.int 0 (2 ^ 48 - 1) 1), fld 0x2908 (.int 0 (2 ^ 48 - 1) 1), fld 0x2909 (enum 2),
    fld 0x290A nodeOrNone, fld 0x290B (.int 0 15 1), fld 0x290C .any ]

/-- ANCHOR_OUT: off (none), or port, destination kind and destination. -/
def anchorOutOk (recs : List Rec) : Bool :=
  recs.all (fun r => r.id != 0x290C || (match r.val with
    | .none_ => true
    | .list [p, k, d] => decide (p < 2) && decide (k < 3) && decide (d < 65536) && (k != 2 || d == 0)
    | _ => false))

/-- Table 2-10. -/
def cmpFields : List FieldSpec :=
  [ ⟨0x2A01, .int 0 18 1, true, false⟩, fld 0x2A02 (enum 2), ⟨0x2A03, .posOrTime, true, false⟩,
    fld 0x2A04 .posOrTime, ⟨0x2A05, enum 8, true, false⟩, ⟨0x2A06, .int 0 (2 ^ 64 - 1) 1, true, false⟩,
    fld 0x2A07 (enum 2) ]

/-- Table 2-12. -/
def trigFields : List FieldSpec := [ fld 0x2C01 (.int 4 65535 1), fld 0x2C02 (enum 2), fld 0x2C03 (enum 2) ]

/-- Table 9-7. -/
def wireFields : List FieldSpec :=
  [ fld 0x9701 offOn, fld 0x9702 (.oneOf [5, 10, 25, 50]), fld 0x9703 (.int 1 255 1), fld 0x9704 (.int 1 255 1),
    fld 0x9705 (.int 1 255 1), fld 0x9706 (.int 1 255 1),
    fld 0x9707 (.oneOf [0, 250, 400, 500, 800, 1000, 1600, 2000]), fld 0x9708 (.int 128 1024 1),
    fld 0x9709 (.int 0 63 1), fld 0x970A offOn, fld 0x970B offOn ]

/-- Powers of two from 64 to 1,048,576. -/
def quanta : List Int := (List.range 15).map (fun i => 2 ^ (i + 6))

/-- Tables 10-12 and 12-1, and BUSOFF_MODE. -/
def portFields : List FieldSpec :=
  wireFields ++
  [ fld 0xAC01 (.oneOf quanta), fld 0xAC02 (.int 0 (2 ^ 64 - 1) 1), fld 0xAC03 (.listOf 64 65535),
    fld 0xAC04 (enum 2), fld 0xAC05 queueRange, fld 0xAC06 (enum 2), fld 0xAC07 (.int 1 3600 1),
    fld 0xAC08 (.int 1 1000 1), fld 0xAC09 (.int 1 10000 1), fld 0xAC0A (.int 1 100 1), fld 0xAC0B (.int 1 1000 1),
    fld 0xAC0C offOn, fld 0xC101 (.int 1 65534 1), fld 0xC102 (.int 0 65535 1), fld 0xC103 (.int 0 11 1),
    fld 0x0010 (enum 2) ]

/-- Table 10-9, as BUS.FLOW.CREATE takes it; what only a TX flow requires is checked with the direction. -/
def flowFields : List FieldSpec :=
  [ ⟨0xA901, enum 2, true, true⟩, ⟨0xA902, .int 1 32767 1, true, true⟩, ⟨0xA903, queueRange, true, true⟩,
    fld 0xA904 (enum 3), fld 0xA905 (.int 0 65535 1), fld 0xA906 (.listOf 8 65535), fld 0xA907 (.int 2 63 1),
    fld 0xA908 (enum 2), fld 0xA909 (.int 0 15 1), fld 0xA90A (.int 32 1023 1), fld 0xA90B (enum 3),
    fld 0xA90C (.int 16 31 1), fld 0xA90D offOn, fld 0xA90E (.int 256 2048 256), ⟨0xA90F, offOn, false, true⟩,
    ⟨0xA910, enum 2, false, true⟩, fld 0xA911 (.int 0 65535 1), fld 0xA912 (.listOf 8 65535), fld 0xA913 offOn ]

/-- Table 10-9 without what the head of BUS.FLOW.SET holds. -/
def flowSetFields : List FieldSpec := flowFields.filter (fun f => f.id != 0xA901 && f.id != 0xA902)

/-- Fields that only a TX flow has, and those that only an RX flow has (Table 10-9, Dir). -/
def txOnly : List Nat := [0xA904, 0xA905, 0xA906, 0xA907, 0xA908, 0xA909, 0xA90A, 0xA90B, 0xA90C, 0xA90D, 0xA90E, 0xA90F, 0xA911]
def rxOnly : List Nat := [0xA912, 0xA913]

/-- Table 10-11; DKIND_MATCH is a mask: bit 0 unicast, bit 1 group, bit 2 broadcast. -/
def filterFields : List FieldSpec :=
  [ fld 0xAB01 offOn, fld 0xAB02 (.int 0 65535 1), fld 0xAB03 (.int 0 65535 1), fld 0xAB04 (.int 0 65535 1),
    fld 0xAB05 (.int 0 7 1), fld 0xAB06 (.int 0 65535 1), fld 0xAB07 (.int 0 65535 1), fld 0xAB08 (.int 0 63 1),
    fld 0xAB09 (.int 0 63 1), fld 0xAB0A (.int 0 32767 1), fld 0xAB0B (.int 0 32767 1), fld 0xAB0C (enum 4),
    fld 0xAB0D (.int 0 63 1), fld 0xAB0E (.orNone 0 2047), fld 0xAB0F offOn ]

/-- MB_DIR and MB_FIELDS (Table 17-2). -/
def mbFields : List FieldSpec := [ ⟨0x0011, enum 2, true, false⟩, fld 0x0012 (.listOf 6 65535) ]

/-- Table 12-2. -/
def travFields : List FieldSpec :=
  [ fld 0xC201 offOn, fld 0xC202 (enum 2), fld 0xC203 (.listOf 64 65535), fld 0xC204 (.int 64 65536 1) ]

/-- Table 12-4. -/
def anchorFields : List FieldSpec :=
  [ ⟨0xC401, enum 2, true, false⟩, fld 0xC402 (enum 3), fld 0xC403 nodeOrNone, fld 0xC404 (enum 2),
    fld 0xC405 nodeOrNone, fld 0xC406 (.int 20 10000 1), fld 0xC407 (.int 1 10000 1) ]

/-- Table 13-1. -/
def hostFields : List FieldSpec := [ fld 0xD101 (.int 1 255 1), fld 0xD102 (.int 1 255 1) ]
def fnFields : List FieldSpec :=
  [ fld 0xD103 (.int 1 255 1), fld 0xD104 (.int 0 500000000000 1), fld 0xD105 (.int 4096 16777216 1) ]

/-- Table 13-2 without SHAPER, and Table 13-3 without POLICER. -/
def shaperFields : List FieldSpec :=
  [ fld 0xD202 (.int 0 2000000000 1), fld 0xD203 (.int 256 16777216 1), fld 0xD204 (.int 0 255 1) ]
def policerFields : List FieldSpec := [ fld 0xD302 (.int 8000 2000000000 1), fld 0xD303 (.int 2064 16777216 1) ]

/-- A rate is zero or at least 8,000 bit/s. -/
def rateOk (recs : List Rec) (id : Nat) : Bool :=
  recs.all (fun r => r.id != id || (match r.val with | .num v => v == 0 || decide (8000 ≤ v) | _ => false))

/-- Table 14-4 without UNIT. -/
def checkFields : List FieldSpec :=
  [ fld 0xE402 (.int 0 8 1), fld 0xE403 (.int 8 64 1), fld 0xE404 (.int 0 (2 ^ 64 - 1) 1),
    fld 0xE405 (.int 0 (2 ^ 64 - 1) 1), fld 0xE406 (.int 0 (2 ^ 64 - 1) 1), fld 0xE407 offOn, fld 0xE408 offOn,
    fld 0xE409 (enum 2), fld 0xE40A (enum 2), fld 0xE40B (.orNone 0 32767) ]

end Sys2Proof.Machine
end

