-- ==== Sys2Proof/Machine/ResetOps.lean ====
section
/-! DEFINITION. What the resets share (16 R392-R394; 19 R436-R440, Table 19-3; 15 R357-R362): the mailbox
layer, a function's work and objects, the main domain's state, and the start hut. -/

namespace Sys2Proof.Machine

/-! ### The mailbox layer (R392, Table 19-3) -/

/-- Responses of a ring that the link has not taken yet. -/
def complOf (s : State) (fn : Nat) (warden : Bool) : List Rsp :=
  s.link.compl.filterMap (fun w => match w with
    | .rsp f v r => if f == fn && v == warden then some r else none
    | _ => none)

/-- A ring set after a reset: its registers and indices start anew, unwritten responses are held, and
requests already fetched stay to be executed. -/
def mbxAnew (m : Mbx) (unwritten : List Rsp) : Mbx := { held := m.held ++ unwritten, fetched := m.fetched }

/-- The mailbox layer of every function is reset; responses of every KIND are held (R392). -/
def mbxLayerReset (s : State) : State :=
  { s with link := { s.link with
    fns := tmap s.link.fns (fun n f => { f with mbx := mbxAnew f.mbx (complOf s n false), vecs := [], ringError := false, ringCode := 0 })
    warden := mbxAnew s.link.warden (complOf s 0 true)
    compl := [] } }

/-! ### Asset work goes on (R190) -/

/-- Every chunk whose output is not whole in host memory will be read again from the start. -/
def restartAssets (s : State) : State :=
  let s := textureStreams.foldl (fun s n => stMod n (fun x => { x with jobs := [] }) (endRuns n s)) s
  let s := { s with asset := { s.asset with
    reqs := tmap s.asset.reqs (fun _ q => { q with chunks := [] })
    s0 := { s.asset.s0 with cmds := [] }
    s1 := { s.asset.s1 with cmds := [] } } }
  recountStaging (pruneUnits s)

/-! ### A function's work and objects (R394) -/

/-- What a function-level reset cancels, and what had ended unreported. -/
def flrCount (fn : Nat) (s : State) : FlrCount :=
  let mine := s.arr.streams.filter (fun e => e.2.owner == fn)
  let jobQs := mine.map (fun e => jobQueue e.2)
  let rings := if fn = 0 then [(0, false), (0, true)] else [(fn, false)]
  { commands := (rings.map (fun r => (mbxGet s r.1 r.2).fetched.length)).sum
    jobs := (mine.map (fun e => e.2.jobs.length)).sum
    packets := (s.qm.queues.map (fun e =>
      if qFn e.2.w == fn && !(jobQs.contains e.1) then acceptedPkts e.2 else 0)).sum
    assets := s.asset.reqs.countP (fun e => e.2.h.fn == fn)
    unreported := (rings.map (fun r => (mbxGet s r.1 r.2).held.length + (complOf s r.1 r.2).length)).sum }

/-- A port without a function's flows, message buffers and filter entries. -/
def portRelease (fn : Nat) (p : Port) : Port :=
  { p with tx := tfilter p.tx (fun _ f => f.owner != fn), rx := tfilter p.rx (fun _ f => f.owner != fn),
           mbs := tfilter p.mbs (fun _ m => m.owner != fn), filters := tfilter p.filters (fun _ f => f.owner != fn) }

/-- The streams of a function end. -/
def dropStreams (fn : Nat) (s : State) : State :=
  let mine := (s.arr.streams.filter (fun e => e.2.owner == fn && e.2.kind != .texture)).map (fun e => e.1)
  let s := mine.foldl (fun s n => endRuns n s) s
  { s with arr := { s.arr with streams := tfilter s.arr.streams (fun n _ => !(mine.contains n))
                               cores := tmap s.arr.cores (fun _ c => { c with ctx := c.ctx.filter (fun n => !(mine.contains n)) }) }
           sched := { s.sched with units := s.sched.units.filter (fun u => u.fn != fn) } }

/-- The asset requests, handles, sessions and key slots of a function are gone. -/
def dropAssets (fn : Nat) (s : State) : State :=
  let conts := (s.asset.containers.filter (fun e => e.2.owner == fn)).map (fun e => e.1)
  let s := { s with
    asset := { s.asset with reqs := tfilter s.asset.reqs (fun _ r => r.h.fn != fn)
                            containers := tfilter s.asset.containers (fun n _ => !(conts.contains n))
                            volumes := tfilter s.asset.volumes (fun _ v => v.owner != fn) }
    keel := { s.keel with vault := { s.keel.vault with
      content := tfilter s.keel.vault.content (fun n _ => !(conts.contains n))
      slots := tfilter s.keel.vault.slots (fun _ k => k.owner != fn)
      sessions := tfilter s.keel.vault.sessions (fun _ k => k.owner != fn) } } }
  recountStaging (pruneUnits s)

/-- The pin objects, comparators, shapers, policers and check units of a function are free. -/
def dropPins (fn : Nat) (s : State) : State :=
  let gpios := (s.board.gpioOwner.filter (fun e => e.2 == fn)).map (fun e => e.1)
  let mbs := fun (p : BusPort) => ((portGet s p).mbs.filter (fun e => e.2.owner == fn)).map (fun e => mbNum p e.1)
  { s with
    qm := mbReturn fn (mbs .oa ++ mbs .ob) s.qm
    tu := { s.tu with cmps := tfilter s.tu.cmps (fun _ c => c.owner != some fn)
                      trigs := tfilter s.tu.trigs (fun _ c => c.owner != some fn)
                      caps := tfilter s.tu.caps (fun _ c => c.owner != some fn)
                      deferred := s.tu.deferred.filter (fun d => d.fn != fn) }
    board := { s.board with gpioOwner := tfilter s.board.gpioOwner (fun _ f => f != fn)
                            gpioOut := tfilter s.board.gpioOut (fun n _ => !(gpios.contains n)) }
    sched := { s.sched with shapers := tfilter s.sched.shapers (fun _ x => x.owner != fn)
                            policers := tfilter s.sched.policers (fun _ x => x.owner != fn) }
    checks := tfilter s.checks (fun _ u => u.owner != fn)
    bus := { s.bus with oa := portRelease fn s.bus.oa, ob := portRelease fn s.bus.ob } }

/-- The queues of a function are freed (R86). -/
def dropQueues (fn : Nat) (s : State) : State :=
  ((s.qm.queues.filter (fun e => qFn e.2.w == fn)).map (fun e => e.1)).foldl (fun s n => freeQueue n s) s

/-- A function-level reset of one function (R394): its own work ends, its objects are released, and nothing
more is written to its memory. -/
def flrOne (fn : Nat) (s : State) : State :=
  let c := flrCount fn s
  let s := dropQueues fn (dropPins fn (dropAssets fn (dropStreams fn s)))
  let s := { s with link := { s.link with
    longs := s.link.longs.filter (fun l => l.1.fn != fn)
    resetHeld := match s.link.resetHeld with | some h => if h.fn = fn then none else some h | none => none
    compl := s.link.compl.filter (fun w => match w with | .rsp f _ _ => f != fn | .evt f _ => f != fn | .msix f _ => f != fn)
    warden := if fn = 0 then {} else s.link.warden } }
  setFn s fn { flr := some c, away := (fnGet s fn).away }

/-- VFs above `n` cease to exist. -/
def dropVfs (n : Nat) (s : State) : State :=
  let gone := (List.range 64).filter (fun v => decide (n < v) && decide (v ≤ s.link.numVfs))
  let s := gone.foldl (fun s v => flrOne v s) s
  { s with link := { s.link with numVfs := n } }

/-- A function-level reset: one of the PF clears VF Enable and resets every VF too (R394). -/
def flr (fn : Nat) (s : State) : State := if fn = 0 then flrOne 0 (dropVfs 0 s) else flrOne fn s

/-! ### RESET_N and the keel (R430, R433, R436, R459) -/

/-- A domain after its exchange of frames has stopped: HOLDOVER at the last rate (R32). -/
def holdDom (d : DomSet) : DomSet := { d with st := if d.valid then .holdover else .free }

/-- The non-volatile part of the trust block. -/
def trustKept (t : Trust) : Trust :=
  { es := t.es, rootHash := t.rootHash, lcProv := t.lcProv, lcField := t.lcField, lcRma := t.lcRma, fuseFw := t.fuseFw,
    fuseCfg := t.fuseCfg, slotA := t.slotA, slotB := t.slotB, preferB := t.preferB, tryN := t.tryN,
    pkStored := t.pkStored, drbg := t.drbg }

/-- The collector after RESET_N: the latched state of the source of the KEEL record is kept (18 R423). -/
def collectorKept (s : State) : Collector :=
  match s.keel.keelRec with
  | none => {}
  | some r =>
    let x := srcGet s r.source
    { srcs := [(r.source, { latched := x.latched, latchSev := x.latchSev, transient := x.transient, live := x.live, address := x.address })] }

/-- The main domain in reset (Table 19-3, RESET_N): the keel keeps its own, configuration and accepted work are
lost, containers close (R361) and sessions end (R371). -/
def resetMain (s : State) : State :=
  { pending := s.pending, resetN := s.resetN, keelHalt := s.keelHalt, free := s.free
    keel := { s.keel with ta := holdDom s.keel.ta, tb := holdDom s.keel.tb,
                          vault := { s.keel.vault with content := [], sessions := [] } }
    trust := trustKept s.trust
    fc := collectorKept s
    link := { perst := s.link.perst } }

/-- Both keel feeds are lost together (R433): the keel's own state goes, and the main domain resets. -/
def loseKeel (s : State) : State :=
  let s := resetMain s
  { s with keel := { powered := false, aGood := false, bGood := false, sysref := s.keel.sysref }, fc := {}, keelHalt := false }

/-- The keel comes up from a feed: the FRC starts from zero (R29), shadows are the fuse values (R360). -/
def keelUp (feed : Feed) (s : State) : State :=
  { s with keel := { aGood := feed == .a, bGood := feed == .b, onB := feed == .b, sysref := s.keel.sysref
                     shadowFw := s.trust.fuseFw, shadowCfg := s.trust.fuseCfg }
           link := { s.link with reqAt := none } }

/-! ### The start hut (R354, R357-R362) -/

/-- A fuse group that a lost burn left in between: 5-7 bits are completed, 1-4 stay; both are reported. -/
def mendGroup (n : Nat) : Nat × Bool := if 5 ≤ n ∧ n < 8 then (8, true) else (n, decide (1 ≤ n) && decide (n < 5))

/-- The fuse groups settled (R354). -/
def mendFuses (s : State) : State :=
  let (p, a) := mendGroup s.trust.lcProv
  let (f, b) := mendGroup s.trust.lcField
  let (r, c) := mendGroup s.trust.lcRma
  let s := { s with trust := { s.trust with lcProv := p, lcField := f, lcRma := r } }
  if a || b || c then raise 0x013 1 0 false s else s

/-- The trial count of the preferred slot falls with each boot; when it reaches 0 the other slot boots (R359). -/
def trialBoot (s : State) : State :=
  if s.trust.tryN = 0 then s
  else if s.trust.tryN = 1 then
    raise 0x012 1 0 false { s with trust := { s.trust with tryN := 0, preferB := !s.trust.preferB } }
  else { s with trust := { s.trust with tryN := s.trust.tryN - 1 } }

/-- A slot that the start hut can run (R357 steps 4 and 5, R360). -/
def bootable (s : State) (b : Bool) : Bool :=
  let i := if b then s.trust.slotB else s.trust.slotA
  i.ok && imageAllowed s i.lc i.svn

/-- The chosen slot's firmware is loaded, and the platform key with it (R357). -/
def runSlot (b : Bool) (s : State) : State :=
  let i := if b then s.trust.slotB else s.trust.slotA
  { s with trust := { s.trust with runB := b, meas := i.meas, svn := i.svn, fwRuns := true }
           keel := { s.keel with vault := { s.keel.vault with pk := s.trust.pkStored }, vaultMeas := some i.meas } }

/-- The start hut chooses a slot (R358): the preferred one, else the other with 0x010, else HALTED with
0x011. -/
def chooseSlot (s : State) : State :=
  let b := s.trust.preferB
  if bootable s b then runSlot b s
  else if bootable s (!b) then raise 0x010 1 0 false (runSlot (!b) s)
  else raise 0x011 1 0 false { s with eng := .halted, trust := { s.trust with fwRuns := false }, keel := { s.keel with vaultMeas := none } }

/-- Steps 2 to 6 of the start hut (R357): slot, lifecycle-dependent checks, configuration block (R362). A
latched KEEL raise keeps the engine in HALTED (R440). -/
def startHut (s : State) : State :=
  let s := chooseSlot (trialBoot s)
  if !s.trust.fwRuns then s
  else
    let ok := s.trust.pcbOk && decide (minCfgSvn s ≤ s.trust.pcbSvn)
    let s := { s with trust := { s.trust with pcbOk := ok } }
    let s := if ok then s else raise 0x014 1 0 false s
    if s.keelHalt then { s with eng := .halted, keel := { s.keel with vault := {} } } else s

/-- After RESET_N or a loss of main power the vault keeps its keys only where the start hut measured the same firmware; PK is
loaded anew (R361). -/
def keepVault (before : Option Nat) (s : State) : State :=
  if before = s.keel.vaultMeas then s
  else { s with keel := { s.keel with vault := { pk := if s.trust.fwRuns && !s.keelHalt then s.trust.pkStored else none } } }

/-- The main domain leaves reset with what the start hut finds (R357, R430; 20 R452): straps, fuses, flash. -/
def boot (b : BootFacts) (s : State) : State :=
  let k := if s.keel.strapsTaken then s.keel else { s.keel with termA := b.termA, termB := b.termB, strapsTaken := true }
  let s := { s with keel := k, board := { s.board with strapRate := b.rate }
                    trust := { s.trust with tamperArmed := true, slotA := ⟨b.slotAOk, b.slotALc, b.slotASvn, b.slotAMeas⟩,
                                            slotB := ⟨b.slotBOk, b.slotBLc, b.slotBSvn, b.slotBMeas⟩, pcbOk := b.pcbOk, pcbSvn := b.pcbSvn } }
  let s := mendFuses s
  let s := if s.keel.secureValid then s else raise 0x018 1 0 false s
  keepVault s.keel.vaultMeas (startHut s)

/-- A port as bring-up leaves it: enabled unless ENABLE is 0, and about to integrate (R212, R223). -/
def portStart (p : Port) : Port :=
  let on := fnat p.f 0x9701 1 == 1
  { p with enabled := on, closing := false, integrated := if p.closing || !p.enabled then false else p.integrated,
           nodeId := fopt p.f 0xC101 }

/-- Both ports start. -/
def portsStart (s : State) : State :=
  { s with bus := { s.bus with oa := portStart s.bus.oa, ob := portStart s.bus.ob } }

/-! ### ENGINE.RESET (R437, R439, R440) -/

/-- The warm reset begins: the data plane is quiesced, the mailbox layer resets, and the start hut runs. It
goes on to PISTE where the engine has been there since RESET_N; else the bring-up starts again. -/
def startReset (s : State) : State :=
  let s := mbxLayerReset (quiesce s)
  let s := { s with eng := .startHut, warm := s.pisteOnce && !s.keelHalt }
  startHut s

/-- ENGINE.RESET, held while PERST_N is asserted (R439). -/
def askReset (s : State) : State :=
  if s.link.perst then { s with link := { s.link with resetDue := true } } else startReset s

end Sys2Proof.Machine
end

