-- ==== Sys2Proof/Machine/PortOps.lean ====
section
/-! DEFINITION. What the time unit and the Onalas controller share: a port's identity and counters, the control
frames it has to send (02 Tables 2-7, 2-8; 10 R228, R267, R268), and the release of launches (10 R265, R266). -/

namespace Sys2Proof.Machine

/-! ### Ports -/

/-- A 64-bit saturating counter of a port, by number (Tables 10-13, 11-4, 13-3; log 30). -/
def portCount (p : BusPort) (i d : Nat) (s : State) : State :=
  let v := portGet s p
  setPort s p { v with ctr := tput v.ctr i (satAdd (tgetD v.ctr i 0) d (2 ^ 64 - 1)) }

/-- The port's node ID in force (Table 12-1). -/
def nodeOf (p : BusPort) (v : Port) : Nat := v.nodeId.getD (match p with | .oa => 0xFFF0 | .ob => 0xFFF1)

/-- Is an ID segment-local (R295)? -/
def segLocal (n : Nat) : Bool := decide (0xFFF0 ≤ n) && decide (n ≤ 0xFFFE)

/-- ROLE of a port's anchor: NONE 0, PRIMARY 1, SECONDARY 2 (Table 12-4). -/
def anchorRole (v : Port) : Nat := fnat v.anchor.f 0xC402 0

/-- Does the port lead a domain on its segment (R304)? -/
def leadsOn (v : Port) (d : Dom) : Bool := match d with | .ta => anchorRole v == 1 | .tb => anchorRole v == 2

/-- Is the engine the source of a domain: it leads it and is no bridge that follows it upstream? -/
def leadsDom (s : State) (d : Dom) : Bool :=
  (leadsOn s.bus.oa d || leadsOn s.bus.ob d) && fnat s.bus.trav 0xC201 0 == 0

/-! ### Payloads (R228) -/

/-- A signed number in `w` bytes, two's complement. -/
def leInt (w : Nat) (v : Int) : List Byte := leBytes w (Int.emod v (2 ^ (8 * w))).toNat

/-- A time in the 14 bytes of Table 2-1. -/
def timeBytes (t : Ticks) : List Byte :=
  let ns := Int.fdiv t tickNs
  leInt 8 (Int.fdiv ns 1000000000) ++ leInt 4 (Int.emod ns 1000000000) ++ leInt 2 (Int.emod t tickNs)

/-- The common header of a time frame (Table 2-7). -/
def timeHead (msg : Nat) (d : Dom) (k : DomSet) (tseq : Nat) : List Byte :=
  leBytes 1 msg ++ leBytes 1 (domNum d + 4 * bit01 (k.st == .holdover)) ++ leBytes 2 k.epoch ++ leBytes 2 tseq ++ leBytes 2 0

/-! ### Control frames waiting to be sent -/

/-- A frame of the port's own logic with FLOW 0, numbered from the port's one FLOW 0 counter (R239). -/
def ctlFrame (p : BusPort) (v : Port) (cls urg dkind dst : Nat) (auth : Bool) (payload : List Byte) : Frame :=
  { urg := urg, cls := cls, src := nodeOf p v, fdf := false, dkind := dkind, dst := dst, flow := 0, seq := v.flow0, frag := 3,
    len := payload.length, auth := auth, kph := bitOf v.epoch 0, hcrcOk := true, bodyOk := true, tagOk := true,
    payload := payload }

/-- A control frame joins those that the port has to send, while it takes part in its segment (R282); it uses a value of the
FLOW 0 counter in the current epoch (15 R369). -/
def queueCtl (p : BusPort) (cls urg dkind dst : Nat) (auth : Bool) (payload : List Byte) (s : State) : State :=
  let v := portGet s p
  if !v.enabled || v.conf == .busOff || v.conf == .stuckOff then s
  else setPort s p { v with ctl := v.ctl ++ [ctlFrame p v cls urg dkind dst auth payload], flow0 := (v.flow0 + 1) % 65536,
                            epochUsed0 := v.epochUsed0 + 1 }

/-- A time frame joins them; TIME_AUTH says whether it carries a tag (R267). -/
def queueTime (p : BusPort) (urg dkind dst : Nat) (payload : List Byte) (s : State) : State :=
  queueCtl p 0 urg dkind dst (fnat (portGet s p).f 0xAC0C 0 == 1) payload s

/-! ### Launches (R265, R266) -/

/-- LAUNCH of a flow: FREE 0, TIMED 1, HOST_TIME 2. -/
def launchMode (f : Flow) : Nat := fnat f.f 0xA90B 0

/-- The queue of a flow. -/
def flowQueue (f : Flow) : Nat := fnat f.f 0xA903 0

/-- TX flow `n` of a port changed by `g`. -/
def txMod (p : BusPort) (n : Nat) (g : Flow → Flow) (s : State) : State :=
  let v := portGet s p
  setPort s p { v with tx := tmod v.tx n g }

/-- The head packet of a TX flow leaves its queue, reported as cancelled (R255, R256, R266). -/
def dropFlowHead (p : BusPort) (n : Nat) (s : State) : State :=
  match tget (portGet s p).tx n with
  | none => s
  | some f =>
    let s := txMod p n (fun f => { f with head := none, off := 0, released := false, cancelled := f.cancelled + 1 }) s
    match (qGet s (flowQueue f)).bind qHead with
    | some x => if x.closed && x.abort.isNone then popHead (flowQueue f) s else dropRestOp (flowQueue f) s
    | none => s

/-- Does a class use SKIP on a port (CLASS_SKIP)? -/
def classSkips (v : Port) (cls : Nat) : Bool := bitOf (fnat v.f 0xAC02 0) cls

/-- A late launch of the head packet follows the late policy of its class: released at once with its lateness
recorded, or removed (R266). -/
def lateLaunch (p : BusPort) (n lateNs : Nat) (s : State) : State :=
  match tget (portGet s p).tx n with
  | none => s
  | some f =>
    if classSkips (portGet s p) (fnat f.f 0xA907 2) then portCount p 33 1 (dropFlowHead p n s)
    else portCount p 32 lateNs (txMod p n (fun f => { f with released := true }) s)

/-- A firing of BUS_LAUNCH for a flow: it releases the head packet; with the one before still at the head, the
firing waits for its packet; with no packet it counts in LAUNCH_EMPTY (R265). -/
def launchFlow (p : BusPort) (n : Nat) (late : Option Nat) (s : State) : State :=
  match tget (portGet s p).tx n with
  | none => s
  | some f =>
    if launchMode f != 1 then s
    else
      let waiting := match qGet s (flowQueue f) with | some q => qVisible q | none => 0
      let taken := bit01 f.released + f.releaseDue.length
      if waiting ≤ taken then portCount p 34 1 s
      else if f.released then txMod p n (fun f => { f with releaseDue := f.releaseDue ++ [s.keel.frc] }) s
      else match late with
        | some ns => lateLaunch p n ns s
        | none => txMod p n (fun f => { f with released := true }) s

end Sys2Proof.Machine
end

