-- ==== Sys2Proof/Machine/TimeOps.lean ====
section
/-! DEFINITION. What the time rules share (02): capture FIFOs, comparators and their actions, late targets, steps,
slews and switches of the active view. -/

namespace Sys2Proof.Machine

/-- Codes of the servo states (Tables 2-4 and 10-12a). -/
def servoCode : ServoState → Nat
  | .free => 0
  | .acquire => 1
  | .locked => 2
  | .holdover => 3

/-! ### Capture (R55, R56) -/

/-- The epoch of the active view. -/
def activeEpoch (k : Keel) : Nat := (domSet k k.followed).epoch

/-- The raw timestamp of an edge of the instant `t`, which the FRC has reached (R29, R40). -/
def stampOf (t tdc : Nat) (s : State) : Ticks := rawStamp (min t s.keel.frc) tdc

/-- Its time in the active view. -/
def stampActive (t tdc : Nat) (s : State) : Ticks := activeAt s.keel (stampOf t tdc s)

/-- An entry for FIFO `n`; a full FIFO drops and counts it (R56). An entry that is dropped takes no SEQ, and DOMAIN (FLAGS
bit 3) is set for SYNC entries alone, of which Table 2-13 says whose domain it is (DESIGN CHOICE, log 76). -/
def capWrite (n source flags : Nat) (time : Ticks) (s : State) : State :=
  let x := tgetD s.tu.caps n {}
  if 64 ≤ x.entries.length then
    let x' := { x with overflow := satAdd x.overflow 1 (2 ^ 32 - 1), gap := true }
    raise 0x321 1 0 false { s with tu := { s.tu with caps := tput s.tu.caps n x' } }
  else
    let e : CapEntry := { time := time, epoch := activeEpoch s.keel, seq := x.seq, source := source, flags := flags + 4 * bit01 x.gap }
    let x' := { x with entries := x.entries ++ [e], gap := false, seq := (x.seq + 1) % 65536 }
    { s with tu := { s.tu with caps := tput s.tu.caps n x' } }

/-- An internal event goes to each internal FIFO that selects it. -/
def routeInternal (source flags : Nat) (time : Ticks) (s : State) : State :=
  [4, 5, 6, 7].foldl (fun s n =>
    if (tgetD s.tu.caps n {}).sources.contains source then capWrite n source flags time s else s) s

/-! ### Bases and targets (R50, Table 2-10) -/

/-- The base of a comparator or gate list now: ACTIVE 0, TA 1, TB 2, FL0 3 and on; a fall line that is OFF has
none. -/
def baseNow (s : State) (b : Nat) : Option Int :=
  match b with
  | 0 => some (activeNow s)
  | 1 => some (domNow s .ta)
  | 2 => some (domNow s .tb)
  | n + 3 => flNow s n

/-- The target and the period of a comparator in units of its base. -/
def cmpTarget (s : State) (c : Cmp) : Int := if c.base < 3 then c.target else posIdx (flGet s (c.base - 3)) c.targetP
def cmpPeriod (s : State) (c : Cmp) : Int := if c.base < 3 then c.period else posIdx (flGet s (c.base - 3)) c.periodP

/-- The comparator with a new target. -/
def aimCmp (s : State) (c : Cmp) (t : Int) : Cmp :=
  if c.base < 3 then { c with target := t } else { c with targetP := idxPos (flGet s (c.base - 3)) t }

/-- A distance on a base in whole ns, truncated (R52). -/
def baseNs (s : State) (b : Nat) (d : Int) : Nat :=
  if b < 3 then (d / 65536).toNat
  else
    let f := flGet s (b - 3)
    let (x, y) := if flSource f = 0 then pinRate f else flRate f
    (d * x / (y * 65536)).toNat

/-! ### Actions (Table 2-11) -/

/-- Every statistic that SNAPSHOT can latch: the scheduler's, asset path's and ports' counters, the values of
QUEUE.STATS.READ of every queue (R84) and of STREAM.STATS.READ of every stream, and Table 4-8 of every core (R110). Which
of them a counter set holds is open (log 33). -/
def allStats (s : State) : List Int :=
  [Int.ofNat s.sched.bytesDec, Int.ofNat s.sched.bytesAst, Int.ofNat s.sched.unitsDec, Int.ofNat s.sched.unitsAst] ++
  (List.range 12).map (fun i => Int.ofNat (tgetD s.asset.ctr i 0)) ++
  (List.range 53).map (fun i => Int.ofNat (tgetD s.bus.oa.ctr i 0)) ++
  (List.range 53).map (fun i => Int.ofNat (tgetD s.bus.ob.ctr i 0)) ++
  s.qm.queues.flatMap (fun e => Int.ofNat e.1 :: queueStats s e.2) ++
  s.arr.streams.flatMap (fun e => Int.ofNat e.1 :: (streamCounters s e.2).map Int.ofNat) ++
  (List.range 16).flatMap (coreStats (settleCores s))

/-- Statistics are latched and tagged (Tables 2-11, 12-8). -/
def snapshot (set tag : Nat) (s : State) : State :=
  { s with tu := { s.tu with snaps := s.tu.snaps ++ [{ set := set, tag := tag, frc := s.keel.frc, values := allStats s }] },
           free := s.free + 16 }

/-- TRIG_PULSE: the pulse runs to the later end; on a pin whose role is released or shadowed it is ignored and
counted (R54). A role that another function has claimed since the arm takes the pulse: R54 says only what a released
role does (DESIGN CHOICE, log 77). -/
def pulse (i : Nat) (s : State) : State :=
  let x := tgetD s.tu.trigs i {}
  let x' := if x.owner.isNone || faultRole s i then { x with ignored := x.ignored + 1 }
    else { x with pulseEnd := some (max (x.pulseEnd.getD 0) (s.keel.frc + x.width)) }
  { s with tu := { s.tu with trigs := tput s.tu.trigs i x' } }

/-- JOB_SET: held jobs of the queue's streams become eligible once they can (Table 2-11, 04 Table 4-5). -/
def jobSet (q : Nat) (s : State) : State :=
  let s := { s with arr := { s.arr with streams := tmap s.arr.streams (fun _ x =>
    if x.kind != .texture && jobQueue x == q then
      { x with jobs := x.jobs.map (fun j => if j.st == .held then { j with st := .waiting } else j) }
    else x) } }
  releaseWaiting s

/-- GATE_SET changes the mask of a port on which no list runs (R333). -/
def gateSet (p : BusPort) (mask : Nat) (s : State) : State :=
  let v := portGet s p
  if v.gates.running then s else setPort s p { v with gates := { v.gates with mask := mask % 256 } }

/-- The lateness that a TIME_CMP event reports: 0 none, 1 FIRE_LATE. -/
def lateCode (late : Option Nat) : Nat := if late.isSome then 1 else 0

/-- TARGET of a TIME_CMP event: a time, or the frame, line and phase of a position (17 R403). -/
def targetFields (s : State) (i : Nat) (target : Int) : List Int :=
  let base := ((tget s.tu.cmps i).map (fun c => c.base)).getD 0
  if base < 3 then [target]
  else
    let p := idxPos (flGet s (base - 3)) target
    [Int.ofNat p.frame, Int.ofNat p.line, Int.ofNat p.phase]

/-- An action takes place, `late` ns after its target where it is late. TRIG_PULSE 0, JOB_SET 1, BUS_LAUNCH 2 (ARG
port x 65,536 + flow), GATE_SET 3 (ARG port x 256 + mask), DMA_LAUNCH 4, SNAPSHOT 5, CAPTURE 6, EVENT 7. -/
def doAction (i : Nat) (fn action arg : Nat) (target : Int) (late : Option Nat) (s : State) : State :=
  match action with
  | 0 => pulse (arg % 8) s
  | 1 => jobSet arg s
  | 2 => launchFlow (if arg / 65536 = 0 then .oa else .ob) (arg % 65536) late s
  | 3 => gateSet (if arg / 256 = 0 then .oa else .ob) arg s
  | 4 => { s with tu := { s.tu with dmaLaunched := s.tu.dmaLaunched ++ [arg] } }
  | 5 => snapshot arg s.keel.frc s
  | 6 => capWrite (4 + arg % 4) (0x40 + i) 0 (activeNow s) s
  | _ => event fn 0x0203 ([Int.ofNat i, Int.ofNat (lateCode late), Int.ofNat (arg % 65536)] ++ targetFields s i target) s

/-- DMA_LAUNCH and EVENT wait for the owner's ENABLE through ENGINE.RESET (19 R438). -/
def actOrDefer (i : Nat) (c : Cmp) (target : Int) (late : Option Nat) (s : State) : State :=
  let fn := c.owner.getD 0
  if s.eng == .startHut && (c.action == 4 || c.action == 7) then
    { s with tu := { s.tu with deferred := s.tu.deferred ++
      [{ cmp := i, fn := fn, action := c.action, arg := c.arg, target := target, base := c.base, skip := c.skip }] } }
  else doAction i fn c.action c.arg target late s

/-! ### Firing (R50-R53, R468) -/

/-- Comparator `i` has reached its target with `k` more targets behind the base; a late one follows its late
policy, but a bus launch follows that of its class (R52, R266). -/
def actCmp (i : Nat) (c : Cmp) (base : Int) (k : Nat) (late : Bool) (s : State) : State :=
  let t := cmpTarget s c + Int.ofNat k * cmpPeriod s c
  let ns := if late then some (baseNs s c.base (base - t)) else none
  let dropped := late && c.skip && c.action != 2
  let c' := aimCmp s c (if c.periodic then t + cmpPeriod s c else t)
  let c' := { c' with
    armed := c.periodic, firings := if dropped then c.firings else c.firings + 1
    lateRec := if late then some (dropped, ns.getD 0) else c.lateRec, missed := if late then k else c.missed }
  let s := { s with tu := { s.tu with cmps := tput s.tu.cmps i c' } }
  let s := if late then raise 0x320 (if dropped then 2 else 1) 0 false s else s
  if dropped then s else routeInternal (0x40 + i) 0 (activeNow s) (actOrDefer i c t ns s)

/-- Comparator `i` fires if its base is at or past its target. `late` says that the target was reached by a step,
an arm or a returning fall line; a row that comes more than a period behind finds it late too. -/
def fireCmp (late : Bool) (s : State) (i : Nat) : State :=
  match tget s.tu.cmps i with
  | none => s
  | some c =>
    match baseNow s c.base with
    | none => s
    | some b =>
      let t := cmpTarget s c
      let p := cmpPeriod s c
      if !c.armed || b < t then s
      else
        let k := if c.periodic && decide (0 < p) then ((b - t) / p).toNat else 0
        actCmp i c b k (late || decide (0 < k)) s

/-- Comparators that have reached their targets fire in ascending order (R51). -/
def settleCmps (s : State) : State := (List.range 64).foldl (fireCmp false) s

/-- Comparator `i` reaches its target in the cycle of the arrival that it guards: that target passes without a firing
(R53). -/
def yieldCmp (s : State) (i : Nat) : State :=
  match tget s.tu.cmps i with
  | none => s
  | some c =>
    match baseNow s c.base with
    | none => s
    | some b =>
      let t := cmpTarget s c
      if !c.armed || b < t then s
      else
        let p := cmpPeriod s c
        let k := if c.periodic && decide (0 < p) then Int.fdiv (b - t) p else 0
        let c' := aimCmp s c (if c.periodic then t + (k + 1) * p else t)
        { s with tu := { s.tu with cmps := tput s.tu.cmps i { c' with armed := c.periodic } } }

/-- Targets that have just been jumped over are late (R38, R52). -/
def lateCmps (s : State) : State := (List.range 64).foldl (fireCmp true) s

/-- Targets on fall line `n` that it has reached when it runs again are late (R468). -/
def lateOnFl (n : Nat) (s : State) : State :=
  (List.range 64).foldl (fun s i => if ((tget s.tu.cmps i).map Cmp.base) == some (n + 3) then fireCmp true s i else s) s

/-! ### Fall lines under steps (R37, R44, R47) -/

/-- A fall line's recorded edges moved by `d`. -/
def moveEdges (d : Ticks) (f : FallLine) : FallLine :=
  let mv := fun (e : Edge) => { e with time := e.time + d }
  { f with lines := f.lines.map mv, frames := f.frames.map mv, lastEdge := f.lastEdge.map (· + d) }

/-- The anchor of a SYNTH or RELAY fall line moved by `d`. -/
def moveAnchor (d : Ticks) (f : FallLine) : FallLine :=
  if flSource f = 1 ∨ flSource f = 2 then { f with f := tput f.f 0x2906 (.time (ftime f.f 0x2906 + d)) } else f

/-- The active view has stepped by `d`; anchors move by `anchor`, none for a local step (Table 2-5). -/
def stepActive (d : Ticks) (anchor : Option Ticks) (s : State) : State :=
  let s := { s with tu := { s.tu with fls := tmap s.tu.fls (fun _ f =>
    let f := moveEdges d f
    match anchor with
    | some a => moveAnchor a f
    | none => f) } }
  let s := { s with keel := noteSecure s.keel }
  let s := if anchor.isNone then rekeyRasters s else s
  let s := if d < 0 then raise 0x303 1 0 false s else s
  lateCmps s

/-! ### Gate lists and frames on the wire (13 R332, R337) -/

/-- The offset of an entry in units of the list's base. -/
def entryOff (s : State) (g : GateList) (e : GateEntry) : Int :=
  if g.base < 3 then Int.ofNat e.off else posIdx (flGet s (g.base - 3)) ⟨e.frame, e.line, e.phase⟩

/-- CYCLE and BASE_START in units of the base. -/
def gateCycle (s : State) (g : GateList) : Int :=
  max 1 (if g.base < 3 then Int.ofNat g.cycle else Int.ofNat g.cycle * Int.ofNat (flLines (flGet s (g.base - 3))) * 65536)
def gateStart (s : State) (g : GateList) : Int :=
  if g.base < 3 then g.startT else posIdx (flGet s (g.base - 3)) g.startP

/-- The point x of its cycle that a list has reached, and the number of the cycle; none while its fall line is OFF
(R332, R337). -/
def gatePoint (s : State) (g : GateList) : Option (Int × Int) :=
  (baseNow s g.base).map (fun b =>
    let d := b - gateStart s g
    (Int.emod d (gateCycle s g), Int.fdiv d (gateCycle s g)))

/-- The MASK of the last entry whose OFFSET is at most `x` (R332). -/
def maskAt (s : State) (g : GateList) (x : Int) : Nat :=
  g.entries.foldl (fun m e => if entryOff s g e ≤ x then e.mask else m) 255

/-- The gate state of a port now (R332, R333, R337). -/
def gateMask (s : State) (v : Port) : Nat :=
  match v.gates.running, v.gates.cur with
  | true, some g =>
    match gatePoint s g with
    | some (x, _) => maskAt s g x
    | none => g.fallback
  | _, _ => v.gates.mask

/-- The gate of a class on a port; classes 0, 1 and 63 are in none (R328, R366). -/
def gateOf (v : Port) (cls : Nat) : Option Nat := if cls < 2 ∨ cls = 63 then none else tget v.gates.classes cls

/-- A port whose gate for the frame on its wire has been shut by a step counts the frame, which runs to its end (13 R337).
`b` is the state before the step. -/
def overrunPort (b : State) (s : State) (p : BusPort) : State :=
  let v := portGet s p
  match v.lastTx.bind (fun f => gateOf v f.cls) with
  | none => s
  | some n =>
    if decide (s.keel.frc < v.wireEnd) && bitOf (gateMask b (portGet b p)) n && !(bitOf (gateMask s v) n) then
      portCount p 52 1 (setPort s p { v with wireEnd := 0 })
    else s

/-- The same on both ports. -/
def overruns (b s : State) : State := [BusPort.oa, BusPort.ob].foldl (overrunPort b) s

/-! ### Domains (R31, R34, R37) -/

/-- Fault source of a domain. -/
def domSource (d : Dom) : Nat := 0x300 + domNum d

/-- A domain's parameter set brought to the present (R31): OFFSET takes what a slew has made so far. -/
def rebase (s : State) (d : Dom) : DomSet :=
  let k := domSet s.keel d
  { k with offset := domNow s d, frcRef := s.keel.frc, slew := k.slew - slewGained k (frcTicks s)
           slewAt := max s.keel.frc k.slewAt }

/-- What a slew of a domain has still to make. -/
def slewLeft (s : State) (d : Dom) : Ticks := (rebase s d).slew

/-- RATE_ADJ clipped to 1,000 ppm (Table 2-2). -/
def clipRate (r : Int) : Int := clampI r (-1099511627) 1099511627

/-- A new rate takes effect without a jump (R31). -/
def setRate (d : Dom) (r : Int) (s : State) : State :=
  { s with keel := setDom s.keel d { rebase s d with rateAdj := clipRate r } }

/-- A servo state, with its change reported. -/
def setDomSt (d : Dom) (st : ServoState) (s : State) : State :=
  let k := domSet s.keel d
  if k.st = st then s else raise (domSource d) 1 0 false { s with keel := setDom s.keel d { k with st := st } }

/-- A step of a domain by `d`: `anchor` none is a local step. The EPOCH becomes `epoch`. -/
def stepDom (dom : Dom) (d : Ticks) (anchor : Option Ticks) (epoch : Nat) (s : State) : State :=
  let s := settleCmps s
  let before := s
  let k := rebase s dom
  let newEpoch := k.epoch != epoch
  let s := { s with keel := setDom s.keel dom { k with offset := k.offset + d, epoch := epoch, valid := true, slew := 0 } }
  let s := event 0 0x0202 [Int.ofNat (domNum dom), Int.ofNat (bit01 anchor.isNone), Int.ofNat epoch, d] s
  let s := raise (domSource dom) (if anchor.isNone then 3 else 2) 0 false s
  let s := if newEpoch then raise (domSource dom) 4 0 false s else s
  overruns before (if s.keel.followed = dom then stepActive d anchor s else lateCmps s)

/-- A change of a domain by at most 1 µs: its time slews (Table 2-5), so that neither it nor the active view jumps and
the residual stays zero but for a switch (R33). While a residual is being slewed away it waits, since the active view
moves at no more than 500 ppm against its domain (R35). -/
def slewDom (dom : Dom) (d : Ticks) (s : State) : State :=
  let k := rebase s dom
  let wait := if s.keel.followed = dom then s.keel.slewStart + slewNs s.keel.residual else 0
  { s with keel := setDom s.keel dom { k with slew := k.slew + d, slewAt := max k.slewAt wait, valid := true } }

/-- One microsecond. -/
def microTicks : Ticks := 65536000

/-- Servo of a domain, and the state with it replaced. -/
def servoOf (s : State) : Dom → Servo
  | .ta => s.tu.servoA
  | .tb => s.tu.servoB
def setServo (d : Dom) (v : Servo) (s : State) : State :=
  match d with
  | .ta => { s with tu := { s.tu with servoA := v } }
  | .tb => { s with tu := { s.tu with servoB := v } }

/-- The engine, as the source of a domain, moves its time by `d`: a step opens a new epoch (R37), and completes a slew
that was in progress. -/
def leaderMove (dom : Dom) (d : Ticks) (s : State) : State :=
  if -microTicks ≤ d ∧ d ≤ microTicks then slewDom dom d s
  else
    let d := d + slewLeft s dom
    let s := stepDom dom d (some d) (((domSet s.keel dom).epoch + 1) % 65536) s
    setServo dom { servoOf s dom with lastStep := d } s

/-- The active view switches to a domain (R34, Table 2-5). -/
def switchTo (dom : Dom) (s : State) : State :=
  if s.keel.followed = dom then s
  else
    let s := settleCmps s
    let before := s
    let from_ := s.keel.followed
    let res := activeNow s - domNow s dom
    let small := decide (-microTicks ≤ res) && decide (res ≤ microTicks)
    let k := domSet s.keel dom
    let s := { s with keel := { s.keel with followed := dom, residual := if small then res else 0
                                            slewStart := max s.keel.frc (k.slewAt + slewNs k.slew) } }
    let s := event 0 0x0201 [Int.ofNat (domNum from_), Int.ofNat (domNum dom), Int.ofNat (bit01 (!small)), res,
      Int.ofNat (domSet s.keel dom).epoch] s
    let s := raise 0x302 (if small then 1 else 2) 0 false s
    if small then s else overruns before (stepActive (-res) (some (-res)) s)

/-! ### Following anchors (12 R307) -/

/-- The port on which the engine follows its anchors: the up port of a bridge, else OA while it is enabled, else
OB (log 41). -/
def followPort (s : State) : BusPort :=
  if fnat s.bus.trav 0xC201 0 = 1 then (if fnat s.bus.trav 0xC202 0 = 0 then .oa else .ob)
  else if s.bus.oa.enabled || !s.bus.ob.enabled then .oa else .ob

/-- The FRC of the last heartbeat of the configured primary (`sec` false) or secondary on a port: the flags of the
member table tell them apart (R305, R307). -/
def anchorHeard (v : Port) (sec : Bool) : Option Nat :=
  v.members.foldl (fun b e =>
    let m := e.2
    if bitOf m.flags 1 == sec && bitOf m.flags 0 != sec || (sec && bitOf m.flags 1) then
      match b with
      | some x => some (max x m.frc)
      | none => some m.frc
    else b) none

/-- Is an instant within the last 3 ms (R307, R308)? -/
def within3ms (s : State) (o : Option Nat) : Bool :=
  match o with
  | some x => decide (s.keel.frc < x + 3000000)
  | none => false

/-- The choice of AUTO by the first rule of R307 that applies. -/
def autoChoice (s : State) : Dom :=
  let v := portGet s (followPort s)
  if within3ms s (anchorHeard v false) then
    if s.keel.followed == .ta || (decide (3 ≤ v.anchor.primRun) && s.keel.ta.st == .locked) then .ta else .tb
  else if within3ms s (anchorHeard v true) then .tb
  else s.keel.followed

/-- Under AUTO the active view follows that choice. -/
def autoFollow (s : State) : State := if s.keel.select = 2 then switchTo (autoChoice s) s else s

/-! ### Timestamps (R40, R465) -/

/-- Picoseconds in ticks, to the nearest. -/
def psTicks (ps : Int) : Ticks := Int.fdiv (ps * 65536 + 500) 1000

/-- The terms of a port in force: TX_PATH, RX_PATH, LINK_ASYM in ps. -/
def termsOf (s : State) (p : BusPort) : Int × Int × Int :=
  let t := match p with | .oa => s.tu.termsA | .ob => s.tu.termsB
  (Int.ofNat (t.tx.getD (Config.testTxPath p % 65536)), Int.ofNat (t.rx.getD (Config.testRxPath p % 65536)), t.asym)

/-- Ingress time in a domain of a raw timestamp (R40). -/
def ingress (s : State) (p : BusPort) (d : Dom) (frc tdc : Nat) : Ticks :=
  domAt (domSet s.keel d) (stampOf frc tdc s) - psTicks (termsOf s p).2.1

end Sys2Proof.Machine
end

