-- ==== Sys2Proof/Machine/GateOps.lean ====
section
/-! DEFINITION. Gates, gate lists and the tuck (13 R331-R338), and the durations of frames (09 R208, R214, R221;
13 R335). -/

namespace Sys2Proof.Machine

/-! ### Rates and durations -/

/-- ARB_RATE of a port in Mbit/s; SNOWPLOUGH runs at the strap rate (R221). -/
def arbRate (s : State) (v : Port) : Nat :=
  let strap := ([5, 10, 25, 50].getD s.board.strapRate 5)
  if s.eng == .snowplough then strap else max 1 (fnat v.f 0x9702 strap)

/-- An arbitration bit and a unit interval in ps. -/
def bitPs (s : State) (v : Port) : Nat := 1000000 / arbRate s v
def uiPs (v : Port) : Nat := 1000000 / fnat v.f 0x9707 0

/-- Can the port use a data phase: DATA_RATE is not OFF and the engine is in PISTE (R236)? -/
def dataCapable (s : State) (v : Port) : Bool := s.eng == .piste && decide (0 < fnat v.f 0x9707 0)

/-- The longest duration D of a frame from SOF to the end of CS5, in ps (R335). -/
def framePs (s : State) (v : Port) (fdf : Bool) (len : Nat) (auth : Bool) : Nat :=
  let tag := if auth then 8 else 0
  let b := bitPs s v
  if fdf then 152 * b + (fnat v.f 0x9708 128 + 10 * (len + tag + 8) + 4) * uiPs v + 20000
  else
    let n := 115 + 8 * (len + tag) + 32
    (n + (n - 1) / 4 + 8) * b + 20000

/-! ### Lists -/

/-- The distance from point `x` of the cycle to the next closing of gate `n`, none where it never closes. -/
def nextClosing (s : State) (g : GateList) (n : Nat) (x : Int) : Option Int :=
  let shut := g.entries.filter (fun e => !(bitOf e.mask n))
  match shut.find? (fun e => decide (x < entryOff s g e)), shut.head? with
  | some e, _ => some (entryOff s g e - x)
  | none, some e => some (gateCycle s g - x + entryOff s g e)
  | none, none => none

/-- A distance on a base in ps, rounded down. -/
def basePs (s : State) (b : Nat) (d : Int) : Nat :=
  if b < 3 then (d * 1000 / 65536).toNat
  else
    let f := flGet s (b - 3)
    let (x, y) := if flSource f = 0 then pinRate f else flRate f
    (d * x * 1000 / (y * 65536)).toNat

/-- The longest window of gate `n` in a list in ps; none where the gate never closes (R335). -/
def longestWindow (s : State) (g : GateList) (n : Nat) : Option Nat :=
  if g.entries.all (fun e => bitOf e.mask n) then none
  else
    let opens := g.entries.filter (fun e => bitOf e.mask n)
    some ((opens.map (fun e => match nextClosing s g n (entryOff s g e) with
      | some d => basePs s g.base d
      | none => 0)).foldl max 0)

/-! ### Classes, the tuck and windows (R331, R334, R336) -/

/-- Does a TX flow send data phases on its port (R236)? -/
def flowData (s : State) (v : Port) (f : Flow) : Bool := dataCapable s v && fnat f.f 0xA90D 1 == 1

/-- D of the frames of a flow and of a message buffer (R334). -/
def flowPs (s : State) (v : Port) (f : Flow) : Nat :=
  let fd := flowData s v f
  framePs s v fd (if fd then fragBytes f else 64) (fnat f.f 0xA90F 0 == 1)
def mbPs (s : State) (v : Port) (m : MsgBuf) : Nat := framePs s v false 64 m.auth

/-- TUCK of gate `n` on a port in ps: the longest D among the frames its classes may send (R334). -/
def tuckPs (s : State) (v : Port) (n : Nat) : Nat :=
  let fl := v.tx.map (fun e => if gateOf v (fnat e.2.f 0xA907 2) == some n then flowPs s v e.2 else 0)
  let mb := v.mbs.map (fun e => if e.2.tx && gateOf v e.2.cls == some n then mbPs s v e.2 else 0)
  (fl ++ mb).foldl max 0

/-- May a frame of a class start now (R331, R334)? -/
def gateAdmits (s : State) (v : Port) (cls : Nat) : Bool :=
  match gateOf v cls with
  | none => true
  | some n =>
    bitOf (gateMask s v) n &&
    (match v.gates.running, v.gates.cur with
     | true, some g =>
       match gatePoint s g with
       | none => true
       | some (x, _) =>
         match nextClosing s g n x with
         | none => true
         | some d => decide (tuckPs s v n < basePs s g.base d)
     | _, _ => true)

/-- Does a frame of duration `ps` of a class fit a window of its gate under a list? -/
def fitsList (s : State) (v : Port) (cls ps : Nat) (g : GateList) : Bool :=
  match gateOf v cls with
  | none => true
  | some n =>
    match longestWindow s g n with
    | none => true
    | some w => decide (ps ≤ w)

/-- The lists that bind a port: the one set and the one pending (R336; log 43). -/
def boundLists (v : Port) : List GateList := v.gates.cur.toList ++ v.gates.pending.toList

/-- Every frame of the port's flows and message buffers fits every list (R336). -/
def portFits (s : State) (v : Port) (gs : List GateList) : Bool :=
  gs.all (fun g =>
    v.tx.all (fun e => fitsList s v (fnat e.2.f 0xA907 2) (flowPs s v e.2) g) &&
    v.mbs.all (fun e => !e.2.tx || fitsList s v e.2.cls (mbPs s v e.2) g))

end Sys2Proof.Machine
end

