-- ==== Sys2Proof/Machine/BusOps.lean ====
section
/-! DEFINITION. What the bus rules share: error counters and confinement (11), flows, their opening, credit and
stalls (10 R249-R259), latency (13 R339), and the frames a port can contend with (10 R232, 13 R328). -/

namespace Sys2Proof.Machine

/-! ### Confinement (R277-R285) -/

/-- Does the port take part in its segment (R212, R224, R281)? -/
def portLive (s : State) (v : Port) : Bool :=
  inService s && v.enabled && v.integrated && v.conf != .busOff && v.conf != .stuckOff

/-- Codes of the confinement states. -/
def confCode : Confine → Nat
  | .errorActive => 0
  | .errorPassive => 1
  | .busOff => 2
  | .stuckOff => 3

/-- The state that two counters give (Table 11-3). -/
def confOf (tec rec : Nat) : Confine :=
  if 192 ≤ tec then .busOff else if 96 ≤ tec ∨ 96 ≤ rec then .errorPassive else .errorActive

/-- BUS_PORT_STATE (R292). -/
def stateEvent (p : BusPort) (old : Confine) (s : State) : State :=
  let v := portGet s p
  event 0 0x0603 [Int.ofNat (portNum p), Int.ofNat (confCode old), Int.ofNat (confCode v.conf), Int.ofNat v.k,
    Int.ofNat v.tec, Int.ofNat v.rec_] s

/-- Is recovery AUTOMATIC (R284-R286)? -/
def autoRecovery (s : State) (v : Port) : Bool := s.eng == .snowplough || fnat v.f 0x0010 0 == 0

/-- The port enters BUS_OFF and waits for its idle sequences (R281, R284, R285). -/
def enterBusOff (p : BusPort) (s : State) : State :=
  let v := portGet s p
  setPort s p { v with rcv := { counting := autoRecovery s v, need := 64 * 2 ^ v.k }, passiveWait := false }

/-- New error counters at a frame's end; the state is evaluated at each change (R277, R280). -/
def setErrors (p : BusPort) (tec rec : Nat) (s : State) : State :=
  let v := portGet s p
  if v.conf == .busOff || v.conf == .stuckOff then s
  else
    let new := confOf tec rec
    let s := setPort s p { v with tec := min tec 255, rec_ := min rec 127, conf := new }
    if new = v.conf then s
    else
      let s := match new with
        | .errorPassive => raise (portBase p) 1 (addrPort (portNum p)) false (portCount p 44 1 s)
        | .busOff => raise (portBase p + 1) 1 (addrPort (portNum p)) false (portCount p 45 1 (enterBusOff p s))
        | _ => s
      stateEvent p v.conf s

/-- The counter of an error kind (log 30). -/
def errCounter : WireErr → Nat
  | .bit => 35
  | .stuff => 36
  | .hcrc => 37
  | .form => 38
  | .data => 39
  | .txdc => 40
  | .commit => 41
  | .flagSeen => 43

/-- Does the port signal the error with a flag (Table 11-1)? -/
def flagged (e : WireErr) : Bool := e == .bit || e == .stuff || e == .hcrc || e == .form

/-- Errors seen on the slot port in the insertion window are counted apart (R227, R279). -/
def inInsertion (s : State) (v : Port) : Bool :=
  match v.insertEnd with
  | some e => decide (s.keel.frc < e)
  | none => false

/-- The first error of a frame is counted (R271, Table 11-4). -/
def countError (p : BusPort) (e : WireErr) (s : State) : State :=
  let s := portCount p (errCounter e) 1 s
  if flagged e then portCount p 42 1 s else s

/-- An error in a frame that the port sends; its own errors count in ERROR_PASSIVE too (R277, R278). -/
def txError (p : BusPort) (e : WireErr) (s : State) : State :=
  let v := portGet s p
  if inInsertion s v then portCount p 49 1 s
  else
    let own := flagged e || e == .txdc
    let s := countError p e s
    if own || v.conf != .errorPassive then setErrors p (v.tec + 4) v.rec_ s else s

/-- NAK BAD_FRAME read: no error of the port's own kinds (Table 11-2, row 3). -/
def txBadFrame (p : BusPort) (s : State) : State :=
  let v := portGet s p
  if inInsertion s v then portCount p 49 1 s
  else if v.conf != .errorPassive then setErrors p (v.tec + 4) v.rec_ s else s

/-- An error in a frame that the port receives. -/
def rxError (p : BusPort) (e : WireErr) (s : State) : State :=
  let v := portGet s p
  if inInsertion s v then portCount p 49 1 s else setErrors p v.tec (min 127 (v.rec_ + 1)) (countError p e s)

/-- A frame sent, or followed, to its end without error. -/
def txFine (p : BusPort) (s : State) : State := setErrors p ((portGet s p).tec - 1) (portGet s p).rec_ s
def rxFine (p : BusPort) (s : State) : State := setErrors p (portGet s p).tec ((portGet s p).rec_ - 1) s

/-- The port leaves BUS_OFF: both counters are zero and it integrates (R284, R285). -/
def recoverPort (p : BusPort) (raiseK : Bool) (s : State) : State :=
  let v := portGet s p
  let k := if raiseK then min 6 (v.k + 1) else v.k
  let s := setPort s p { v with tec := 0, rec_ := 0, conf := .errorActive, integrated := false, rcv := {}, k := k,
                                cutoff := false, outSince := s.keel.frc, recoveredAt := some s.keel.frc, passiveWait := false }
  let s := raise (portBase p + 2) 1 (addrPort (portNum p)) false (portCount p 46 1 s)
  let s := stateEvent p v.conf s
  endLongs (fun _ l => l == .portRecover p) .ok [] s

/-! ### Latency (R339) -/

/-- A delivery of a packet of queue `q`, with the slack that its deadline had. -/
def noteLatency (q : Nat) (visFrc : Nat) (slack : Option Int) (s : State) : State :=
  match qGet s q with
  | none => s
  | some x =>
    let d := s.keel.frc - visFrc
    let l := x.lat
    let least := match slack, l.slack with
      | some a, some b => some (min a b)
      | some a, none => some a
      | none, b => b
    let late := match slack with
      | some a => if a < 0 then l.late + 1 else l.late
      | none => l.late
    let tooLong := decide (0 < l.limit) && decide (l.limit < d)
    let l' := { l with pkts := l.pkts + 1, sum := l.sum + d, min := some (min (l.min.getD d) d), max := max l.max d,
                       slack := least, late := late, flag := l.flag || tooLong,
                       excess := if tooLong && l.flag then l.excess + 1 else l.excess
                       setAt := if tooLong then some s.keel.frc else l.setAt }
    let s := qSet s q { x with lat := l' }
    if tooLong && !l.flag then event (qFn x.w) 0x0701 [Int.ofNat q, Int.ofNat d, 1] s else s

/-! ### TX flows: destinations, credit, opening (R249, R257-R259) -/

/-- The destinations that get FLOW_OPEN. -/
def flowDests (f : Flow) : List Nat :=
  match fnat f.f 0xA904 0 with
  | 0 => [fnat f.f 0xA905 0]
  | 1 => flist f.f 0xA906
  | _ => []

/-- Is CREDIT GRANTED? -/
def granted (f : Flow) : Bool := fnat f.f 0xA910 0 == 0

/-- Credit left of one destination: TOTAL - USED modulo 2^32. -/
def creditOf (f : Flow) (d : Nat) : Nat :=
  match tget f.totals d with
  | none => 0
  | some t =>
    let c := (t + 2 ^ 32 - f.used % 2 ^ 32) % 2 ^ 32
    if c < 2 ^ 31 then c else 0

/-- Credit for the flow's next fragment: the least of its destinations. -/
def flowCredit (f : Flow) : Nat :=
  match (flowDests f).map (creditOf f) with
  | [] => 0
  | c :: r => r.foldl min c

/-- SEQ of the next frame of a flow. -/
def nextSeq (f : Flow) : Nat :=
  match f.head with
  | some h => h.seq
  | none => f.seq

/-- FLOW_OPEN payload (Table 10-8). -/
def openPayload (flow startSeq openId : Nat) : List Byte :=
  leBytes 1 0x12 ++ leBytes 1 0 ++ leBytes 2 flow ++ leBytes 2 startSeq ++ leBytes 2 openId ++ leBytes 4 0

/-- FLOW_OPEN goes to each destination that has not answered. -/
def sendOpens (p : BusPort) (n : Nat) (s : State) : State :=
  match tget (portGet s p).tx n with
  | none => s
  | some f => f.openWait.foldl (fun s d =>
      queueCtl p 1 6 0 d (fnat f.f 0xA90F 0 == 1) (openPayload n (nextSeq f) f.openId) s) s

/-- The sender opens a flow anew (R249). -/
def openFlow (p : BusPort) (n : Nat) (s : State) : State :=
  let v := portGet s p
  match tget v.tx n with
  | none => s
  | some f =>
    let dests := flowDests f
    let f' := { f with openId := v.nextOpen, opening := !dests.isEmpty, openWait := dests, openSent := s.keel.frc,
                       totals := [], used := 0, head := f.head.map (fun h => { h with usedCounted := false }) }
    sendOpens p n (setPort s p { v with tx := tput v.tx n f', nextOpen := (v.nextOpen + 1) % 65536 })

/-- A TX flow stalls with a reason (R255). -/
def stallFlow (p : BusPort) (n reason : Nat) (s : State) : State :=
  match tget (portGet s p).tx n with
  | none => s
  | some f =>
    let s := txMod p n (fun f => { f with stalled := some reason, agedResume := reason == 0x11 }) s
    let s := event f.owner 0x0601 [Int.ofNat (portNum p), Int.ofNat reason, Int.ofNat n, Int.ofNat (nextSeq f)] s
    raise (portBase p + 0x22) 1 (addrFlow p n) false s

/-! ### RX flows: credit for peers (R257, R258) -/

/-- PEERS of an RX flow; none is ANY, which an empty list codes (17 R403). -/
def peersOf (f : Flow) : Option (List Nat) :=
  match tget f.f 0xA912 with
  | some (.list (a :: l)) => some (a :: l)
  | _ => none

/-- Credit that a peer holds and has not used. -/
def peerHeld (c : PeerCredit) : Nat := (c.total + 2 ^ 32 - c.used % 2 ^ 32) % 2 ^ 32

/-- The peer with the least outstanding credit, the lowest node ID on a tie. -/
def leastPeer (credits : Tbl PeerCredit) : List Nat → Option Nat
  | [] => none
  | n :: r =>
    match leastPeer credits r with
    | none => some n
    | some m =>
      let a := peerHeld (tgetD credits n {})
      let b := peerHeld (tgetD credits m {})
      if a < b ∨ (a = b ∧ n ≤ m) then some n else some m

/-- Grants of the queue pass to the peers, one CREDIT_GRANT at a time. -/
def passGrants (peers : List Nat) (grant : Nat) : Nat → Nat → Tbl PeerCredit → Tbl PeerCredit
  | 0, _, c => c
  | k + 1, left, c =>
    if left = 0 then c
    else match leastPeer c peers with
      | none => c
      | some n =>
        let x := tgetD c n {}
        let d := min grant left
        passGrants peers grant k (left - d) (tput c n { x with total := (x.total + d) % 2 ^ 32 })

/-- The CREDIT payload (Table 10-10). -/
def creditPayload (flow : Nat) (x : PeerCredit) : List Byte :=
  leBytes 1 0x11 ++ leBytes 1 0 ++ leBytes 2 flow ++ leBytes 2 (x.openId.getD 0) ++ leBytes 2 0 ++ leBytes 4 x.total

/-- A CREDIT to one peer of RX flow `n`. -/
def sendCredit (p : BusPort) (n peer : Nat) (s : State) : State :=
  let v := portGet s p
  match tget v.rx n with
  | none => s
  | some f =>
    let x : PeerCredit := tgetD f.credits peer {}
    let s := setPort s p { v with rx := tput v.rx n { f with credits := tput f.credits peer { x with sent := x.total } } }
    queueCtl p 1 5 0 peer false (creditPayload n x) s

/-- The grants of an RX flow's queue that no peer has yet are passed on, and a peer whose TOTAL has advanced by
CREDIT_GRANT gets a CREDIT (R257, R258). -/
def sweepFlow (p : BusPort) (n : Nat) (s : State) : State :=
  let v := portGet s p
  match tget v.rx n with
  | none => s
  | some f =>
    match peersOf f, qGet s (flowQueue f) with
    | some peers, some q =>
      if !(granted f) || f.stopped then s
      else
        let grant := max 1 (qGrant q.w)
        let given := (peers.map (fun k => peerHeld (tgetD f.credits k {}))).sum
        let free := q.credit - given
        let c := passGrants peers grant (free / grant + 1) free f.credits
        let s := setPort s p { v with rx := tput v.rx n { f with credits := c } }
        peers.foldl (fun s k =>
          let x : PeerCredit := tgetD c k {}
          if x.openId.isSome && decide (grant ≤ (x.total + 2 ^ 32 - x.sent % 2 ^ 32) % 2 ^ 32) then sendCredit p n k s
          else s) s
    | _, _ => s

/-- The same over every RX flow of a port. -/
def sweepPort (p : BusPort) (s : State) : State :=
  ((portGet s p).rx.map (fun e => e.1)).foldl (fun s n => sweepFlow p n s) s

/-! ### The head frame of a flow (R236, R251) -/

/-- The cells of the head packet from a byte offset on. -/
def cellsFrom (x : Pkt) (off : Nat) : List Cell := (readable x).drop (off / 256 - x.released)

/-- A frame of a flow waits among the port's own frames: a RECOVER message (07 R177). -/
def ctlHolds (v : Port) (n : Nat) : Bool := v.ctl.any (fun c => c.flow == n)

/-- Epoch use: at 65,536 values the flow waits for EPOCH_GO (15 R369). -/
def epochSpent (f : Flow) : Bool := fnat f.f 0xA90F 0 == 1 && decide (65536 ≤ f.epochUsed + 1)

/-- The next fragment of a visible head packet at byte `off`: its cells and whether it is the last, none where the
producer has not written them yet. -/
def fragment (x : Pkt) (off : Nat) (data : Bool) (frag : Nat) : Option (List Cell × Bool) :=
  let cs := cellsFrom x off
  let k := max 1 (frag / 256)
  if !data then (if x.closed && x.abort.isNone then some (cs, true) else none)
  else if cs.length ≤ k then (if x.closed && x.abort.isNone then some (cs, true) else none)
  else some (cs.take k, false)

/-- The bytes of some cells. -/
def bytesOf (cs : List Cell) : List Byte := cs.flatMap (fun c => c.data)

/-- A head packet that an abort marker ends before its next whole fragment is dropped (03 R72). -/
def abortedHead (x : Pkt) (off frag : Nat) : Bool := x.abort.isSome && decide ((cellsFrom x off).length ≤ max 1 (frag / 256))

/-- Does the next fragment reach a cell in error that no marker stands for yet (03 R80)? -/
def fragmentBad (x : Pkt) (off : Nat) (data : Bool) (frag : Nat) : Bool :=
  x.abort != some 6 && (let cs := cellsFrom x off; (if data then cs.take (max 1 (frag / 256)) else cs).any (fun c => c.bad))

/-- The flow's head packet ends with its marker: the port issues DROP_REST (03 R72). -/
def dropAborted (p : BusPort) (n q : Nat) (s : State) : State :=
  dropRestOp q (txMod p n (fun f => { f with off := 0, released := false }) s)

/-- The flow's next frame takes its SEQ (R251); a packet too long for classic frames stalls it (R236). -/
def formHead (p : BusPort) (n : Nat) (s : State) : State :=
  let v := portGet s p
  match tget v.tx n with
  | none => s
  | some f =>
    if f.head.isSome || f.stalled.isSome || f.stopped || ctlHolds v n then s
    else match (qGet s (flowQueue f)).bind qHead with
      | none => s
      | some x =>
        let data := flowData s v f
        if fragmentBad x f.off data (fragBytes f) then dropAborted p n (flowQueue f) (badCell (flowQueue f) x s)
        else if abortedHead x f.off (fragBytes f) then dropAborted p n (flowQueue f) s
        else if !data && decide (64 < (bytesOf x.cells).length) then stallFlow p n 0x12 s
        else match fragment x f.off data (fragBytes f) with
          | none => s
          | some (cs, last) =>
            if epochSpent f then
              if f.epochWaiting then s
              else raise 0x017 1 (addrFlow p n) false
                (txMod p n (fun f => { f with epochWaiting := true, ctr := cinc f.ctr 7 1 }) s)
            else txMod p n (fun f => { f with
              head := some { seq := f.seq, first := f.off == 0, last := last, len := (bytesOf cs).length }
              seq := (f.seq + 1) % 65536
              epochUsed := f.epochUsed + bit01 (fnat f.f 0xA90F 0 == 1) }) s

end Sys2Proof.Machine
end

