-- ==== Sys2Proof/Machine/EnrollOps.lean ====
section
/-! DEFINITION. Bus node enrollment (15 R366-R370): records and their segments, the exchange between an authority
and a node, transmit keys and epochs. What the cryptographic units produce is a free value (log 8). -/

namespace Sys2Proof.Machine

/-! ### Records (R366, Table 15-8) -/

/-- The segments of a record: 60 bytes each, numbered, the last one marked. -/
def segments (msg exch : Nat) : Nat → Nat → List Byte → List (List Byte)
  | 0, _, _ => []
  | k + 1, i, b =>
    if b.length ≤ 60 then [leBytes 1 msg ++ leBytes 1 (i + 128) ++ leBytes 2 exch ++ b]
    else (leBytes 1 msg ++ leBytes 1 i ++ leBytes 2 exch ++ b.take 60) :: segments msg exch k (i + 1) (b.drop 60)

/-- A record goes to a node as class-63 frames at URG 96 on FLOW 0, without a tag. -/
def sendRecord (p : BusPort) (dst exch msg : Nat) (bytes : List Byte) (s : State) : State :=
  (segments msg exch 128 0 bytes).foldl (fun s b => queueCtl p 63 96 0 dst false b s) s

/-- `w` bytes that a cryptographic unit produces from what they cover. -/
def sealedBytes (w : Nat) (cover : List Nat) : List Byte := leBytes w (Config.sealedVal cover)

/-- A wrap of `w` bytes: nonce, ciphertext and tag. -/
def wrapBytes (w : Nat) (cover : List Nat) : List Byte := sealedBytes (12 + w + 16) cover

/-! ### Authority and node -/

/-- Is the port its own authority, as every port is by default? -/
def isAuthority (p : BusPort) (v : Port) : Bool :=
  match v.authority with
  | none => true
  | some a => a == nodeOf p v

/-- The state with the node keys of the vault changed. -/
def withNodeKeys (f : List NodeKey → List NodeKey) (s : State) : State :=
  { s with keel := { s.keel with vault := { s.keel.vault with nodeKeys := f s.keel.vault.nodeKeys } } }

/-- A key of a source and epoch; of one source the key before it stays and older ones go (R368). -/
def addNodeKey (p : BusPort) (src epoch key : Nat) (s : State) : State :=
  withNodeKeys (fun l => l.filter (fun k =>
    !(k.port == p && k.src == src && k.epoch != (epoch + 2 ^ 30 - 1) % 2 ^ 30)) ++
    [{ port := p, src := src, epoch := epoch, key := key }]) s

/-- Does the vault have room for another source and epoch (R361)? -/
def vaultRoom (s : State) : Bool := decide (s.keel.vault.nodeKeys.length + 2 ≤ 2048)

/-- Is a node a member of the segment (12 R303)? -/
def isMember (s : State) (v : Port) (node : Nat) : Bool :=
  match tget v.members node with
  | some m => within3ms s (some m.frc)
  | none => false

/-- The nodes whose keys the port holds, but two. -/
def keyHolders (s : State) (p : BusPort) (a b : Nat) : List Nat :=
  ((s.keel.vault.nodeKeys.filter (fun k => k.port == p && k.src != a && k.src != b)).map (fun k => k.src)).dedup

/-- Has a head frame been sent? It keeps its epoch (10 R239). -/
def headSent (h : Option HeadFrame) : Bool :=
  match h with
  | some h => h.epoch.isSome
  | none => true

/-- Values of a message buffer's flow that go under a new epoch: that of a frame not yet sent. -/
def mbFresh (m : MsgBuf) : Bool := m.pend.isSome && !(headSent m.head)

/-- The port sends under a new epoch from its next frame; use counts start anew, and what has formed and is not yet sent goes
under the new epoch (R369). -/
def takeEpoch (p : BusPort) (e : Nat) (s : State) : State :=
  let v := portGet s p
  let e := e % 2 ^ 30
  let fresh := fun (c : Frame) => some c != v.lastTx
  setPort s p { v with epoch := e, epochAsked := false, epochWait0 := false, goEpoch := none
                       epochUsed0 := v.ctl.countP (fun c => c.flow == 0 && fresh c) + v.mbs.countP (fun e => e.2.flow == 0 && mbFresh e.2)
                       mbs := tmap v.mbs (fun _ m => { m with epochUsed := bit01 (m.auth && m.flow != 0 && mbFresh m) })
                       ctl := v.ctl.map (fun c => if fresh c then { c with kph := bitOf e 0 } else c)
                       tx := tmap v.tx (fun _ f => { f with epochUsed := bit01 (!(headSent f.head)), epochWaiting := false }) }

/-- EPOCH_GO at a node (R369); the same one again changes nothing. -/
def takeEpochGo (p : BusPort) (r : EnrollRec) (s : State) : State :=
  let v := portGet s p
  if inService s && s.trust.pcbOk && !(isAuthority p v) && v.authority == some r.src && r.macOk && v.epoch != r.epoch % 2 ^ 30 then
    takeEpoch p r.epoch s
  else s

/-- The authority's own EPOCH_GO: it sends under the new epoch once each grant of its key has been ACKed (R369). -/
def ownEpochGo (p : BusPort) (s : State) : State :=
  let v := portGet s p
  match v.goEpoch with
  | none => s
  | some e => if v.ctl.any (fun c => c.cls == 63 && leAt c.payload 0 1 == 0x35) then s else takeEpoch p e s

/-- KEY_GRANT of a source's key to a node. -/
def grantKey (p : BusPort) (dst exch src epoch key : Nat) (s : State) : State :=
  sendRecord p dst exch 0x35 (wrapBytes 38 [src, epoch, key, dst]) s

/-- The next EXCHANGE_ID. -/
def newExchange (s : State) : Nat × State := (s.bus.nextExch, { s with bus := { s.bus with nextExch := (s.bus.nextExch + 1) % 65536 } })

/-- The authority starts an exchange with a node: ENROLL_INIT (R366). -/
def startEnroll (p : BusPort) (node tries : Nat) (s : State) : State :=
  let (x, s) := newExchange s
  let v := portGet s p
  let e : Enroll := { exchange := x, stage := 1, tries := tries, since := s.keel.frc, subject := 0 }
  let s := setPort s p { v with enrolls := tput v.enrolls node e }
  let (r, s) := takeRandom s
  sendRecord p node x 0x30 (sealedBytes 642 [r, x, node]) s

/-- The exchange with a node ends without enrolling it. -/
def dropExchange (p : BusPort) (node : Nat) (s : State) : State :=
  let v := portGet s p
  setPort s p { v with enrolls := tdel v.enrolls node }

/-- The authority refuses a node: ENROLL_ABORT with a reason, and 0x016. -/
def refuseNode (p : BusPort) (node exch reason : Nat) (s : State) : State :=
  raise 0x016 1 0 false (dropExchange p node (sendRecord p node exch 0x34 (leBytes 1 reason) s))

/-- An exchange that failed is repeated up to 3 times while its node is a member, and then 0x016 is raised (R366). -/
def repeatEnroll (p : BusPort) (node : Nat) (s : State) : State :=
  let v := portGet s p
  match tget v.enrolls node with
  | none => s
  | some e =>
    if e.stage ≥ 11 then dropExchange p node s
    else if isMember s v node && decide (e.tries < 4) then startEnroll p node (e.tries + 1) s
    else raise 0x016 1 0 false (dropExchange p node s)

/-- A new epoch of a node: its key goes to the node and to every holder, then EPOCH_GO to the node (R369). -/
def grantEpoch (p : BusPort) (node exch epoch : Nat) (s : State) : State :=
  let (key, s) := takeRandom s
  let s := addNodeKey p node epoch key s
  let own := nodeOf p (portGet s p)
  let s := if node = own then s else grantKey p node exch node epoch key s
  let s := (keyHolders s p own node).foldl (fun s n => grantKey p n exch node epoch key s) s
  if node = own then ownEpochGo p (setPort s p { portGet s p with goEpoch := some epoch }) else sendRecord p node exch 0x36 (wrapBytes 4 [epoch, node]) s

/-- Does the port hold its own key of the epoch that it sends under? -/
def ownKeyed (s : State) (p : BusPort) (v : Port) : Bool :=
  s.keel.vault.nodeKeys.any (fun k => k.port == p && k.src == nodeOf p v && k.epoch == v.epoch)

/-- After 49,152 values of an epoch the port asks for the next one: EPOCH_REQ, or its own grant where it is the
authority (R369). The FLOW 0 counter counts every frame that it numbers. -/
def askEpoch (p : BusPort) (s : State) : State :=
  let v := portGet s p
  let due := (decide (49152 ≤ v.epochUsed0) && ownKeyed s p v) ||
    v.tx.any (fun e => fnat e.2.f 0xA90F 0 == 1 && decide (49152 ≤ e.2.epochUsed)) ||
    v.mbs.any (fun e => decide (49152 ≤ e.2.epochUsed))
  if !due || v.epochAsked || v.goEpoch.isSome then s
  else if isAuthority p v then
    let (x, s) := newExchange s
    grantEpoch p (nodeOf p v) x ((v.epoch + 1) % 2 ^ 30) s
  else
    let (x, s) := newExchange (setPort s p { v with epochAsked := true })
    sendRecord p (v.authority.getD 0) x 0x37 (leBytes 4 v.epoch ++ sealedBytes 48 [v.epoch, x]) s

end Sys2Proof.Machine
end

