-- ==== Sys2Proof/Machine/Wire.lean ====
section
/-! DEFINITION. What a port drives for a frame (09 R211, R213-R215, R219; 10 R228-R230, R237, R238, R240): the header's
bits and their check value, stuffing, the payload with its tag and check value in either signalling, and the commit
slot. A dominant bit is false, a recessive bit true (09 R202). -/

namespace Sys2Proof.Machine

/-! ### The header (R228-R230, R211) -/

/-- The low `w` bits of a value, most significant first (R228). -/
def bitsMsb : Nat → Nat → List Bool
  | 0, _ => []
  | w + 1, v => bitOf v w :: bitsMsb w v

/-- Fields 2 to 13 of a frame's header in transmission order: 98 bits (Table 10-2). -/
def headerFields (f : Frame) : List Bool :=
  bitsMsb 10 f.urg ++ bitsMsb 6 f.cls ++ bitsMsb 16 f.src ++ [f.fdf] ++ bitsMsb 2 f.dkind ++ bitsMsb 16 f.dst ++
  bitsMsb 15 f.flow ++ bitsMsb 16 f.seq ++ bitsMsb 2 f.frag ++ bitsMsb 12 f.len ++ [f.auth, f.kph]

/-- HCRC over fields 2 to 13, stuff bits excluded (R230). -/
def hcrcOf (f : Frame) : Nat :=
  match presetOf 1 with
  | some p => crcFinal p ((headerFields f).foldl (crcBit p) p.init)
  | none => 0

/-- A bit of the opposite value after every 5 consecutive bits of equal value; stuff bits count towards the next run (R211).
`run` bits of the value `last` have been sent. -/
def stuffFrom (run : Nat) (last : Bool) : List Bool → List Bool
  | [] => []
  | b :: r =>
    let n := if b == last then run + 1 else 1
    if n = 5 then b :: (!b) :: stuffFrom 1 (!b) r else b :: stuffFrom n b r

/-- SOF, the header and HCRC as they go out, before stuffing. -/
def headerBits (f : Frame) : List Bool := false :: headerFields f ++ bitsMsb 16 (hcrcOf f)

/-! ### The tag (R238) -/

/-- The GMAC nonce (Table 10-5). -/
def gmacNonce (f : Frame) (epoch : Nat) : List Byte :=
  leBytes 2 f.src ++ leBytes 2 f.dst ++ leBytes 2 f.flow ++ leBytes 2 f.seq ++ leBytes 4 (epoch % 2 ^ 30 + f.dkind * 2 ^ 30)

/-- Bits, most significant first, as bytes. -/
def bytesOfBits : Nat → List Bool → List Byte
  | 0, _ => []
  | n + 1, l => BitVec.ofNat 8 ((l.take 8).foldl (fun v b => 2 * v + bit01 b) 0) :: bytesOfBits n (l.drop 8)

/-- The additional data: the 13 header bytes with URG and FDF zero and six zero bits appended, then the payload. -/
def gmacAad (f : Frame) : List Byte :=
  bytesOfBits 13 (headerFields { f with urg := 0, fdf := false } ++ bitsMsb 6 0) ++ f.payload

/-- The epoch that a frame's KPH selects of its sender's two (R239). -/
def epochOf (v : Port) (kph : Bool) : Nat := if bitOf v.epoch 0 == kph then v.epoch else (v.epoch + 2 ^ 30 - 1) % 2 ^ 30

/-- The 8 bytes of tag of a frame with AUTH = 1 that a port sends. -/
def tagBytes (s : State) (p : BusPort) (f : Frame) : List Byte :=
  if f.auth then
    let e := epochOf (portGet s p) f.kph
    let key := s.keel.vault.nodeKeys.find? (fun k => k.port == p && k.src == f.src && k.epoch == e)
    leBytes 8 (Config.gmac (key.map (fun k => k.key)) (gmacNonce f e) (gmacAad f))
  else []

/-! ### Payload, tag and check value (R213, R219, R237) -/

/-- CRC-32C over payload and tag, least significant byte first (R237, R228). -/
def checkBytes (f : Frame) (tag : List Byte) : List Byte := leBytes 4 (crc32c (f.payload ++ tag))

/-- The bytes of a classic frame after its header, bit 7 first (R228). -/
def byteBits (l : List Byte) : List Bool := l.flatMap (fun b => bitsMsb 8 b.toNat)

/-- The coded symbols of a data phase (Table 9-5): two commas, SDP, payload, tag, check and EDP. -/
def dataSymbols (f : Frame) (tag : List Byte) : List Symbol :=
  [.k28_5, .k28_5, .k27_7] ++ (f.payload ++ tag ++ checkBytes f tag).map .d ++ [.k29_7]

/-- Duration of a data phase in unit intervals (R214). -/
def dataPhaseUi (trainUi len : Nat) (auth : Bool) : Nat := trainUi + 10 * (len + (if auth then 8 else 0) + 8) + 4

/-- What a port drives for a frame: its arbitration-rate bits, stuffed, with the phase-switch bit where a data phase follows,
and that data phase. -/
def sentOf (s : State) (p : BusPort) (f : Frame) : Sent :=
  let tag := tagBytes s p f
  if f.fdf then { arb := stuffFrom 0 true (headerBits f) ++ [false], trainUi := fnat (portGet s p).f 0x9708 128
                  data := dataSymbols f tag }
  else { arb := stuffFrom 0 true (headerBits f ++ byteBits (f.payload ++ tag ++ checkBytes f tag)), trainUi := 0, data := [] }

/-! ### The commit slot (R240) -/

/-- The six bits that a destination drives: 15 and 16 stand for ACK, 1 to 9 for a NAK, anything else for no answer
(Tables 10-6, 10-7). -/
def slotBits (a : Nat) : List Bool :=
  if a = 15 ∨ a = 16 then [false, true, true, true, true, true]
  else if 1 ≤ a ∧ a ≤ 9 then false :: false :: bitsMsb 4 a
  else [true, true, true, true, true, true]

/-- The pair is dominant where any driver is (09 R202). -/
def wiredAnd (a b : List Bool) : List Bool := List.zipWith and a b

end Sys2Proof.Machine
end

