-- ==== Sys2Proof/Machine/BusTx.lean ====
section
/-! DEFINITION. Sending on an Onalas port: the candidates of an attempt and the choice among them (10 R232-R234, 13
R328), the frame on the wire (10 R229, R251), and what the sender does with the commit slot (10 R243, R255, R256,
Table 10-7; 11 R275-R278). -/

namespace Sys2Proof.Machine

/-! ### Preparing the heads -/

/-- RECOVER messages join the frames of the port whose TX flow is their RECOVERY_FLOW, while that flow has no frame
of its own at its head; one without such a flow is sent by OA on FLOW 0 (07 R177; log 44). -/
def pumpOne (p : BusPort) (m : Frame) (s : State) : State :=
  let v := portGet s p
  let drop := fun (s : State) => { s with bus := { s.bus with recovers := s.bus.recovers.erase m } }
  match tget v.tx m.flow with
  | some f =>
    if f.head.isSome || f.off != 0 || f.opening || ctlHolds v m.flow || epochSpent f then s
    else
      let m' := { m with src := nodeOf p v, cls := fnat f.f 0xA907 2, seq := f.seq, auth := fnat f.f 0xA90F 0 == 1, kph := bitOf v.epoch 0 }
      let f' := { f with seq := (f.seq + 1) % 65536, epochUsed := f.epochUsed + bit01 m'.auth }
      drop (setPort s p { v with ctl := v.ctl ++ [m'], tx := tput v.tx m.flow f' })
  | none =>
    if p = .ob || thas s.bus.ob.tx m.flow then s
    else drop (queueCtl p m.cls m.urg 0 m.dst false m.payload s)

/-- The waiting RECOVER messages, in order. -/
def pumpRecovers (p : BusPort) (s : State) : State := s.bus.recovers.foldl (fun s m => pumpOne p m s) s

/-- DEDUP_AGE in ns. -/
def dedupNs (v : Port) : Nat := fnat v.f 0xAC07 60 * 1000000000

/-- Has DEDUP_AGE of both ports passed since the keel powered up? Nothing goes out on flow 32,767 before (12 R313). -/
def gopOpen (s : State) : Bool := decide (max (dedupNs s.bus.oa) (dedupNs s.bus.ob) ≤ s.keel.frc)

/-- A head frame has reached DEDUP_AGE unanswered (R248). -/
def headAged (s : State) (v : Port) (h : Option HeadFrame) : Bool :=
  match h.bind (fun h => h.firstSent) with
  | some x => decide (x + dedupNs v ≤ s.keel.frc)
  | none => false

/-- A packet that became the head after its firing or LAUNCH_TIME is launched late (R266). -/
def judgeLaunch (p : BusPort) (n : Nat) (s : State) : State :=
  match tget (portGet s p).tx n with
  | none => s
  | some f =>
    if f.head.isNone || f.released then s
    else match launchMode f, f.releaseDue with
      | 1, d :: r => lateLaunch p n (s.keel.frc - d) (txMod p n (fun f => { f with releaseDue := r }) s)
      | 2, _ =>
        match ((qGet s (flowQueue f)).bind qHead).bind (fun x => x.launch) with
        | some tau => if tau < activeNow s then lateLaunch p n ((activeNow s - tau) / 65536).toNat s else s
        | none => s
      | _, _ => s

/-- Fields set for the next packet apply between packets (Table 10-9); a new destination is opened first. -/
def applyStaged (p : BusPort) (n : Nat) (s : State) : State :=
  match tget (portGet s p).tx n with
  | none => s
  | some f =>
    if f.staged.isEmpty || f.head.isSome || f.off != 0 then s
    else
      let moved := thas f.staged 0xA904 || thas f.staged 0xA905
      let s := txMod p n (fun f => { f with f := f.staged.foldl (fun g e => tput g e.1 e.2) f.f, staged := [] }) s
      if moved then openFlow p n s else s

/-- A TX flow before an attempt. -/
def prepFlow (p : BusPort) (n : Nat) (s : State) : State :=
  let s := judgeLaunch p n (formHead p n (applyStaged p n s))
  match tget (portGet s p).tx n with
  | some f => if f.stalled.isNone && headAged s (portGet s p) f.head then stallFlow p n 0x11 s else s
  | none => s

/-! ### Candidates (R328) -/

/-- What a candidate is: one of the port's own frames, a traverse frame, a TX flow, a message buffer. -/
inductive CandKind | ctl | trav | flow | mb
deriving DecidableEq, Repr

/-- A candidate: its kind and number, its arbitration field's parts, LEN and AUTH. -/
structure Cand where
  kind : CandKind
  num  : Nat
  urg  : Nat
  cls  : Nat
  src  : Nat
  len  : Nat
  auth : Bool
deriving DecidableEq, Repr

/-- The arbitration field (Table 10-2). -/
def arbField (c : Cand) : Nat := c.urg * 2 ^ 22 + c.cls * 2 ^ 16 + c.src

/-- The order in which a port chooses: URG, CLS, then its own frames, traverse, flows by number, message buffers by
number. -/
def candRank (c : Cand) : Nat :=
  let k := match c.kind with
    | .ctl => 0
    | .trav => 1
    | .flow => 2
    | .mb => 3
  ((c.urg * 64 + c.cls) * 4 + k) * 65536 + c.num

/-- The candidate that comes first in that order. -/
def bestCand : List Cand → Option Cand
  | [] => none
  | c :: r =>
    match bestCand r with
    | none => some c
    | some b => if candRank c ≤ candRank b then some c else some b

/-- A wait that has elapsed. -/
def waited (s : State) (o : Option Nat) : Bool :=
  match o with
  | some e => decide (e ≤ s.keel.frc)
  | none => true

/-- Is a shaper out of debt (R324)? -/
def shaperOk (s : State) (sh : Option Nat) : Bool :=
  match sh.bind (tget s.sched.shapers) with
  | some x => shaperOpen (refill x.b s.keel.frc)
  | none => true

/-- The SOF of a frame charges its shaper (R327). -/
def chargeShaper (sh : Option Nat) (len : Nat) (auth : Bool) (s : State) : State :=
  match sh with
  | none => s
  | some n =>
    { s with sched := { s.sched with shapers := tmod s.sched.shapers n (fun x =>
        { x with b := chargeBucket (refill x.b s.keel.frc) (len + (if auth then 8 else 0) + x.overhead) }) } }

/-- URG_QUANTUM in ns. -/
def urgQuantum (v : Port) : Nat := max 1 (fnat v.f 0xAC01 16384)

/-- Slack of the head packet's deadline in ticks: from now to its time on the flow's fall line (R232). -/
def headSlack (s : State) (f : Flow) : Option Int :=
  if fnat f.f 0xA908 1 != 0 then none
  else match ((qGet s (flowQueue f)).bind qHead).bind (fun x => x.deadline) with
    | some d => (posTime s (fnat f.f 0xA909 0) d).map (fun t => t - activeNow s)
    | none => none

/-- URG of a flow's head (R232, R265). -/
def flowUrg (s : State) (v : Port) (f : Flow) : Nat :=
  if launchMode f != 0 then fnat f.f 0xA90C 24
  else match headSlack s f with
    | some d => 32 + min 991 (max d 0 / 65536 / Int.ofNat (urgQuantum v)).toNat
    | none => fnat f.f 0xA90A 512

/-- Does a flow hold credit for its head (R257, R259)? -/
def creditOk (f : Flow) (h : HeadFrame) : Bool :=
  !(granted f) || h.usedCounted || decide (cellCount h.len ≤ flowCredit f)

/-- A TX flow's candidate. -/
def flowCand (s : State) (p : BusPort) (v : Port) (n : Nat) (f : Flow) : Option Cand :=
  match f.head with
  | none => none
  | some h =>
    let cls := fnat f.f 0xA907 2
    if f.stalled.isSome || f.stopped || f.opening || f.waitCredit || !(waited s f.holdoff) || !(creditOk f h) ||
       (launchMode f != 0 && !f.released) || !(shaperOk s f.shaper) || !(gateAdmits s v cls) then none
    else some { kind := .flow, num := n, urg := flowUrg s v f, cls := cls, src := nodeOf p v, len := h.len,
                auth := fnat f.f 0xA90F 0 == 1 }

/-- Is a value of the FLOW 0 counter the 65,536th or a later one of the current epoch (15 R369)? -/
def flow0Spent (v : Port) (seq : Nat) : Bool := decide (65536 ≤ v.epochUsed0 - (v.flow0 + 65535 - seq) % 65536)

/-- Does one of the port's own frames wait for EPOCH_GO (10 R239; 15 R369)? -/
def ctlSpent (v : Port) (c : Frame) : Bool := c.auth && c.flow == 0 && some c != v.lastTx && flow0Spent v c.seq

/-- Does a message buffer's frame wait for EPOCH_GO? -/
def mbSpent (v : Port) (m : MsgBuf) : Bool :=
  match m.head with
  | some h => m.auth && !(headSent m.head) && (if m.flow = 0 then flow0Spent v h.seq else decide (65536 ≤ m.epochUsed))
  | none => false

/-- A TX message buffer's candidate. -/
def mbCand (s : State) (p : BusPort) (v : Port) (n : Nat) (m : MsgBuf) : Option Cand :=
  if !m.tx || m.pend.isNone || m.opening || mbSpent v m || !(waited s m.holdoff) || !(shaperOk s m.shaper) || !(gateAdmits s v m.cls) then none
  else some { kind := .mb, num := n, urg := m.urg, cls := m.cls, src := nodeOf p v, len := m.payload.length, auth := m.auth }

/-- The down port of a bridge. -/
def downPort (s : State) : BusPort := if fnat s.bus.trav 0xC202 0 = 0 then .ob else .oa

/-- URG of a forwarded frame (R302, R306). -/
def travUrg (s : State) (p : BusPort) (x : Trav) : Nat :=
  let u := x.f.urg
  if x.f.cls < 2 then u
  else
    let elapsed := Int.ofNat (s.keel.frc - x.recv)
    let left := (Int.ofNat u - 32) * Int.ofNat (urgQuantum (portGet s (otherPort p))) - elapsed
    let w := if u < 32 then u else 32 + min 991 (max left 0 / Int.ofNat (urgQuantum (portGet s p))).toNat
    let d := portGet s (downPort s)
    if anchorRole d = 2 ∧ within3ms s (anchorHeard d false) then 1023
    else if anchorRole d = 1 then min w 1022
    else w

/-- The traverse frames that no earlier frame of their SRC and FLOW holds back, by their places. -/
def travHeads : Nat → List (Nat × Nat) → List Trav → List (Nat × Trav)
  | _, _, [] => []
  | i, seen, x :: r =>
    if seen.contains (x.f.src, x.f.flow) then travHeads (i + 1) seen r
    else (i, x) :: travHeads (i + 1) ((x.f.src, x.f.flow) :: seen) r

/-- A traverse frame's candidate. -/
def travCand (s : State) (p : BusPort) (v : Port) (i : Nat) (x : Trav) : Option Cand :=
  if !(waited s x.holdoff) || !(gateAdmits s v x.f.cls) || (x.f.fdf && !(dataCapable s v)) then none
  else some { kind := .trav, num := i, urg := travUrg s p x, cls := x.f.cls, src := x.f.src, len := x.f.len, auth := x.f.auth }

/-- Does a frame of the port's own get an answer: anything but class 0 and MSGTYPE 0x10-0x17 of class 1 (R242)? -/
def answeredFrame (cls : Nat) (msg : Nat) : Bool := !(cls == 0 || (cls == 1 && decide (0x10 ≤ msg) && decide (msg < 0x18)))

/-- MSGTYPE of a payload. -/
def msgType (b : List Byte) : Nat := leAt b 0 1

/-- The candidates among the port's own frames, by place; an answered one that was refused for now waits, and so do those of
flow 32,767 until it is open and those that wait for EPOCH_GO. -/
def ctlCands (s : State) (v : Port) : Nat → List Frame → List Cand
  | _, [] => []
  | i, c :: r =>
    let rest := ctlCands s v (i + 1) r
    if (answeredFrame c.cls (msgType c.payload) && !(waited s v.ctlHold)) || (c.flow == 32767 && !(gopOpen s)) || ctlSpent v c then rest
    else { kind := .ctl, num := i, urg := c.urg, cls := c.cls, src := c.src, len := c.len, auth := c.auth } :: rest

/-- The first frame of FLOW 0 or of a message buffer that waits for EPOCH_GO raises 0x017 (15 R369). -/
def noteEpochWait (p : BusPort) (s : State) : State :=
  let v := portGet s p
  let flows := (v.ctl.filter (ctlSpent v)).map (fun _ => 0) ++ (v.mbs.filter (fun e => mbSpent v e.2)).map (fun e => e.2.flow)
  match flows with
  | n :: _ => if v.epochWait0 then s else raise 0x017 1 (addrFlow p n) false (setPort s p { v with epochWait0 := true })
  | [] => s

/-- The port before an attempt: credit passed on, messages taken, heads formed. -/
def prepPort (p : BusPort) (s : State) : State :=
  let s := pumpRecovers p (sweepPort p s)
  noteEpochWait p (((portGet s p).tx.map (fun e => e.1)).foldl (fun s n => prepFlow p n s) s)

/-- Every candidate of an attempt. -/
def candidates (s : State) (p : BusPort) : List Cand :=
  let v := portGet s p
  ctlCands s v 0 v.ctl ++ (travHeads 0 [] v.traverse).filterMap (fun e => travCand s p v e.1 e.2) ++
  v.tx.filterMap (fun e => flowCand s p v e.1 e.2) ++ v.mbs.filterMap (fun e => mbCand s p v e.1 e.2)

/-! ### The frame on the wire (R229, R236, R251, R41) -/

/-- A one-step SYNC takes t1 at its SOF, and a DELAY_REQ records t3 (02 R40-R42): `tdc` is the fraction of that edge. -/
def stampFrame (p : BusPort) (tdc : Nat) (c : Frame) (s : State) : Frame × State :=
  let d : Dom := if bitOf (leAt c.payload 1 1) 0 then .tb else .ta
  let raw := rawStamp s.keel.frc tdc
  let tau := domAt (domSet s.keel d) raw + psTicks (termsOf s p).1
  if c.cls != 0 then (c, s)
  else if msgType c.payload = 1 then
    ({ c with payload := c.payload.take 8 ++ timeBytes tau ++ c.payload.drop 22 },
     routeInternal 0x80 (8 * domNum d) (activeAt s.keel raw) s)
  else if msgType c.payload = 3 then
    let sv := servoOf s d
    (c, setServo d { sv with exch := sv.exch.map (fun x =>
      if x.tseq = leAt c.payload 4 2 then { x with t3 := some tau, sentAt := s.keel.frc } else x) } s)
  else (c, s)

/-- A head's FRAG: bit 1 FIRST, bit 0 LAST. -/
def fragBits (h : HeadFrame) : Nat := 2 * bit01 h.first + bit01 h.last

/-- The frame of a flow's head (R251). -/
def flowFrame (s : State) (p : BusPort) (v : Port) (n : Nat) (f : Flow) (h : HeadFrame) (urg : Nat) : Frame :=
  let body := match (qGet s (flowQueue f)).bind qHead with
    | some x => (bytesOf (cellsFrom x f.off)).take h.len
    | none => []
  { urg := urg, cls := fnat f.f 0xA907 2, src := nodeOf p v, fdf := flowData s v f, dkind := fnat f.f 0xA904 0,
    dst := fnat f.f 0xA905 0, flow := n, seq := h.seq, frag := fragBits h, len := h.len,
    auth := fnat f.f 0xA90F 0 == 1, kph := bitOf (h.epoch.getD v.epoch) 0, hcrcOk := true, bodyOk := true, tagOk := true,
    payload := body }

/-- The frame of a message buffer. -/
def mbFrame (p : BusPort) (v : Port) (m : MsgBuf) : Frame :=
  { urg := m.urg, cls := m.cls, src := nodeOf p v, fdf := false, dkind := m.dkind, dst := m.dst, flow := m.flow,
    seq := (m.head.map (fun h => h.seq)).getD 0, frag := 3, len := m.payload.length, auth := m.auth,
    kph := bitOf ((m.head.bind (fun h => h.epoch)).getD v.epoch) 0, hcrcOk := true, bodyOk := true, tagOk := true,
    payload := m.payload }

/-- A head frame that is sent once more: it keeps the epoch of its first send (R239). -/
def sentHead (frc epoch : Nat) (h : HeadFrame) : HeadFrame :=
  { h with firstSent := some (h.firstSent.getD frc), sends := h.sends + 1, usedCounted := true, epoch := some (h.epoch.getD epoch) }

/-- A flow's head whose deadline has passed contends late: the frame is counted once in LATE_TX (R232). -/
def contendLate (p : BusPort) (c : Cand) (s : State) : State :=
  match c.kind, tget (portGet s p).tx c.num with
  | .flow, some f =>
    match f.head, headSlack s f with
    | some h, some d =>
      if d < 0 ∧ launchMode f = 0 ∧ h.late = false then
        portCount p 31 1 (txMod p c.num (fun f => { f with head := some { h with late := true } }) s)
      else s
    | _, _ => s
  | _, _ => s

/-- What sending a flow's head changes at its SOF: USED and the shaper (R259, R327). -/
def sendFlow (p : BusPort) (n : Nat) (s : State) : State :=
  let v := portGet s p
  match tget v.tx n with
  | none => s
  | some f =>
    match f.head with
    | none => s
    | some h =>
      let s := chargeShaper f.shaper h.len (fnat f.f 0xA90F 0 == 1) s
      txMod p n (fun f => { f with
        used := if h.usedCounted then f.used else (f.used + cellCount h.len) % 2 ^ 32
        head := some (sentHead s.keel.frc v.epoch h) }) s

/-- The winner goes on the wire: the frame that it is, and what its SOF changes. -/
def sendCand (p : BusPort) (tdc : Nat) (c : Cand) (s : State) : State :=
  let v := portGet s p
  match c.kind with
  | .ctl =>
    match v.ctl[c.num]? with
    | some x =>
      let (x, s) := stampFrame p tdc x s
      setPort s p { portGet s p with lastTx := some x }
    | none => s
  | .trav =>
    match v.traverse[c.num]? with
    | some x => setPort s p { v with lastTx := some { x.f with urg := c.urg }
                                     traverse := listSet v.traverse c.num { x with firstSent := some (x.firstSent.getD s.keel.frc) } }
    | none => s
  | .flow =>
    match tget v.tx c.num with
    | some f =>
      match f.head with
      | some h => sendFlow p c.num (setPort s p { v with lastTx := some (flowFrame s p v c.num f h c.urg) })
      | none => s
    | none => s
  | .mb =>
    match tget v.mbs c.num with
    | some m =>
      let s := chargeShaper m.shaper m.payload.length m.auth s
      setPort s p { portGet s p with
        lastTx := some (mbFrame p v m)
        mbs := tput v.mbs c.num { m with head := m.head.map (sentHead s.keel.frc v.epoch) } }
    | none => s

/-! ### The commit slot (R243) -/

/-- What the sender read. -/
inductive Outcome_ | ack | nak (reason : Nat) | none_ | broken
deriving DecidableEq, Repr

/-- The slot as R243 reads it; a dominant bit reads false. -/
def readSlot : SlotRead → Outcome_
  | .slot false true 15 => .ack
  | .slot false false r => if 1 ≤ r ∧ r ≤ 9 then .nak r else .broken
  | .slot true true 15 => .none_
  | _ => .broken

/-- BUSY_HOLDOFF and POLICE_HOLDOFF in ns. -/
def busyNs (v : Port) : Nat := fnat v.f 0xAC08 10 * 1000
def policeNs (v : Port) : Nat := fnat v.f 0xAC09 100 * 1000

/-- Does a reason wait, and until when (Table 10-7)? -/
def nakHold (s : State) (v : Port) (reason : Nat) : Option Nat :=
  if reason = 6 then some (s.keel.frc + policeNs v)
  else if reason = 7 ∨ reason = 8 then some (s.keel.frc + busyNs v)
  else none

/-- A send that was not ACKed counts towards RETRY_LIMIT (R243, R255). -/
def retryFlow (p : BusPort) (n : Nat) (s : State) : State :=
  match tget (portGet s p).tx n with
  | none => s
  | some f =>
    let lim := fnat f.f 0xA911 0
    let sends := (f.head.map (fun h => h.sends)).getD 0
    if 0 < lim ∧ lim ≤ sends then stallFlow p n 0x10 s else s

/-- The packet's last fragment was ACKed: it leaves the queue (R251, R339), and its completion is marked POSSIBLE_DUP where a
frame of it was sent again after AGED (R248). -/
def finishPacket (p : BusPort) (n : Nat) (f : Flow) (s : State) : State :=
  let q := flowQueue f
  match (qGet s q).bind qHead with
  | none => s
  | some x =>
    let slack := x.deadline.bind (slackOf s (fnat f.f 0xA909 0))
    let s := popHead q (noteLatency q x.visFrc slack s)
    txMod p n (fun f => { f with head := none, off := 0, released := false, dupRisk := false, possibleDup := f.dupRisk, authRun := 0 }) s

/-- An ACK for a flow's head. -/
def ackFlow (p : BusPort) (n : Nat) (s : State) : State :=
  match tget (portGet s p).tx n with
  | none => s
  | some f =>
    match f.head with
    | none => s
    | some h =>
      if h.last then finishPacket p n f s
      else txMod p n (fun f => { f with head := none, off := f.off + h.len, authRun := 0 }) s

/-- A NAK for a flow's head (Table 10-7, R255, R256). -/
def nakFlow (p : BusPort) (n reason : Nat) (s : State) : State :=
  let s := txMod p n (fun f => { f with ctr := cinc f.ctr 3 1 }) s
  match tget (portGet s p).tx n with
  | none => s
  | some f =>
    if reason ≤ 3 then stallFlow p n reason s
    else if reason = 4 then
      let s := raise (portBase p + 0x23) 1 (addrFlow p n) false (portCount p 30 1 (dropFlowHead p n s))
      let s := txMod p n (fun f => { f with authRun := f.authRun + 1 }) s
      if 2 ≤ f.authRun then stallFlow p n 0x13 s else s
    else if reason = 9 then txMod p n (fun f => { f with head := none, off := 0 }) s
    else
      let s := txMod p n (fun f =>
        if reason = 7 && granted f then { f with waitCredit := true }
        else { f with holdoff := nakHold s (portGet s p) reason }) s
      retryFlow p n s

/-- The flow's statistics of one send: FRAMES, BYTES, and RETRIES after the first. -/
def flowSent (p : BusPort) (n : Nat) (s : State) : State :=
  txMod p n (fun f =>
    let h := f.head.getD { seq := 0, first := true, last := true, len := 0 }
    let c := cinc (cinc f.ctr 0 1) 1 h.len
    { f with ctr := if 1 < h.sends then cinc c 2 1 else c }) s

/-- The outcome of a flow's frame. -/
def flowOutcome (p : BusPort) (n : Nat) (o : Outcome_) (s : State) : State :=
  let s := flowSent p n s
  match o with
  | .ack => ackFlow p n s
  | .nak r => nakFlow p n r s
  | _ => retryFlow p n s

/-- A message buffer's send ends with a status; the buffer is empty (R260). -/
def endMb (p : BusPort) (n : Nat) (st : Status) (s : State) : State :=
  let v := portGet s p
  let s := setPort s p { v with mbs := tmod v.mbs n (fun m =>
    { m with full := false, payload := [], head := none, pend := none, opening := false, holdoff := none, lastNak := 0 }) }
  endLongs (fun _ l => l == .mbSend p n) st [] s

/-- The status of a send that stalls (R260; log 45). -/
def mbStall (reason lastNak : Nat) : Status :=
  if reason = 1 ∨ reason = 4 then .auth
  else if reason = 3 then .tooLong
  else if lastNak = 7 then .noCredit
  else .timeout

/-- The outcome of a message buffer's frame. -/
def mbOutcome (p : BusPort) (n : Nat) (o : Outcome_) (s : State) : State :=
  let v := portGet s p
  match o with
  | .ack => endMb p n .ok s
  | .nak r =>
    if r ≤ 4 then
      let s := if r = 4 then raise (portBase p + 0x23) 1 (addrPort (portNum p)) false (portCount p 30 1 s) else s
      endMb p n (mbStall r 0) s
    else
      let again := fun (m : MsgBuf) =>
        if r = 9 then { m with head := m.head.map (fun h => { h with seq := m.seq }), seq := (m.seq + 1) % 65536
                               epochUsed := m.epochUsed + bit01 (m.auth && m.flow != 0) } else m
      setPort s p { v with mbs := tmod v.mbs n (fun m => again { m with lastNak := r, holdoff := nakHold s v r }) }
  | _ => s

/-- The list without its i-th entry. -/
def dropAt {α : Type} : List α → Nat → List α
  | [], _ => []
  | _ :: r, 0 => r
  | x :: r, n + 1 => x :: dropAt r n

/-- The outcome of a traverse frame: the bridge carries the delivery duty, so only an ACK, or a failed tag, ends it
(01 R23; log 46). -/
def travOutcome (p : BusPort) (i : Nat) (o : Outcome_) (s : State) : State :=
  let v := portGet s p
  match o with
  | .ack => setPort s p { v with traverse := dropAt v.traverse i }
  | .nak 4 => portCount p 26 1 (setPort s p { v with traverse := dropAt v.traverse i })
  | .nak 5 => s
  | .nak r =>
    let until_ := some (s.keel.frc + (if r = 6 then policeNs v else busyNs v))
    match v.traverse[i]? with
    | some x => setPort s p { v with traverse := listSet v.traverse i { x with holdoff := until_ } }
    | none => s
  | _ => s

/-- The outcome of one of the port's own frames: an unanswered one is sent once; an answered one goes until it is
ACKed or refused for good (R242; log 46). -/
def ctlOutcome (p : BusPort) (i : Nat) (o : Outcome_) (s : State) : State :=
  let v := portGet s p
  match v.ctl[i]? with
  | none => s
  | some c =>
    let gone := setPort s p { v with ctl := dropAt v.ctl i, ctlHold := none }
    if !(answeredFrame c.cls (msgType c.payload)) then gone
    else match o with
      | .ack => gone
      | .nak r => if r ≤ 4 then gone else setPort s p { v with ctlHold := nakHold s v r }
      | _ => s

/-- The outcome goes to what was sent. -/
def giveOutcome (p : BusPort) (c : Cand) (o : Outcome_) (s : State) : State :=
  match c.kind with
  | .ctl => ctlOutcome p c.num o s
  | .trav => travOutcome p c.num o s
  | .flow => flowOutcome p c.num o s
  | .mb => mbOutcome p c.num o s

/-- Does a candidate's frame get an answer? -/
def candAnswered (v : Port) (c : Cand) : Bool :=
  match c.kind with
  | .ctl => (match v.ctl[c.num]? with | some x => answeredFrame x.cls (msgType x.payload) | none => false)
  | .trav => (match v.traverse[c.num]? with | some x => answeredFrame x.f.cls (msgType x.f.payload) | none => false)
  | _ => true

/-- Counters of a frame's end at its sender (Tables 10-13, 11-2). -/
def countOutcome (p : BusPort) (answered : Bool) (o : Outcome_) (s : State) : State :=
  if !answered then txFine p s
  else match o with
    | .ack => txFine p s
    | .nak 5 => txBadFrame p (portCount p 18 1 s)
    | .nak r => txFine p (portCount p (13 + r) 1 s)
    | .none_ => portCount p 23 1 s
    | .broken => txError p .commit s

end Sys2Proof.Machine
end

