-- ==== Sys2Proof/Machine/BusRx.lean ====
section
/-! DEFINITION. Reception on an Onalas port (10 R231, R233, R239-R248, R253, R254, R261-R264; 12 R299-R302): the
steps of R244, each answering with 15 for ACK, 16 for the ACK of a duplicate, a NAK reason of Table 10-7, or 0 for
nothing. -/

namespace Sys2Proof.Machine

/-! ### Destinations, filters, forwarding -/

/-- Is the port itself a destination (R241)? -/
def isDest (p : BusPort) (v : Port) (f : Frame) : Bool :=
  match f.dkind with
  | 0 => f.dst == nodeOf p v
  | 1 => (flist v.f 0xAC03).contains f.dst
  | _ => true

/-- Does a filter entry match a frame (R261)? -/
def filterHit (x : Tbl RVal) (f : Frame) : Bool :=
  let src := f.src &&& fnat x 0xAB04 0
  fnat x 0xAB01 0 == 1 && decide (fnat x 0xAB02 0 ≤ src) && decide (src ≤ fnat x 0xAB03 0) &&
  bitOf (fnat x 0xAB05 0) f.dkind && (f.dst &&& fnat x 0xAB07 0) == fnat x 0xAB06 0 &&
  (f.cls &&& fnat x 0xAB09 0) == fnat x 0xAB08 0 && (f.flow &&& fnat x 0xAB0B 0) == fnat x 0xAB0A 0

/-- What becomes of a frame: ACCEPT, ACCEPT_MB, DROP or FORWARD, with its policer and AUTH_REQ (R262). -/
structure FilterAct where
  act : Nat
  target : Nat := 0
  policer : Option Nat := none
  auth : Bool := false
deriving DecidableEq, Repr

/-- The first entry that matches decides, else DEFAULT_ACTION (R262). -/
def filterAct (v : Port) (f : Frame) : FilterAct :=
  match v.filters.find? (fun e => filterHit e.2.f f) with
  | some e => { act := fnat e.2.f 0xAB0C 0, target := fnat e.2.f 0xAB0D 0, policer := fopt e.2.f 0xAB0E,
                auth := fnat e.2.f 0xAB0F 0 == 1 }
  | none => { act := if fnat v.f 0xAC06 0 = 1 then 3 else 2 }

/-- Does a node ID lie in a port's segment prefix (R294)? -/
def inPrefix (v : Port) (n : Nat) : Bool :=
  let len := fnat v.f 0xC103 0
  n / 2 ^ (16 - len) == fnat v.f 0xC102 0 / 2 ^ (16 - len)

/-- The up port of a bridge. -/
def upPort (s : State) : BusPort := otherPort (downPort s)

/-- Is TRAVERSE ON? -/
def traverseOn (s : State) : Bool := fnat s.bus.trav 0xC201 0 == 1

/-- Is a group forwarded (FWD_GROUPS)? -/
def groupForwarded (s : State) (g : Nat) : Bool :=
  match tget s.bus.trav 0xC203 with
  | some (.list (a :: l)) => (a :: l).contains g
  | _ => true

/-- The forwarding decision of Table 12-3 for an active bridge; segment-local IDs are never forwarded (R295). -/
def tableForwards (s : State) (p : BusPort) (f : Frame) : Bool :=
  let inside := inPrefix (portGet s (downPort s))
  let up := p == upPort s
  traverseOn s && s.bus.travActive && !(segLocal f.src) && !(f.dkind == 0 && segLocal f.dst) &&
  (match f.dkind with
   | 0 => if up then inside f.dst else !(inside f.dst) && inside f.src
   | k => (if up then !(inside f.src) else inside f.src) && (k != 1 || groupForwarded s f.dst))

/-- Room for a frame in the traverse queue from which the other port sends (R302). -/
def travRoom (s : State) (p : BusPort) (f : Frame) : Bool :=
  let v := portGet s (otherPort p)
  let held := (v.traverse.map (fun x => cellCount x.f.len)).sum
  decide (held + cellCount f.len ≤ fnat s.bus.trav 0xC204 4096) && (!f.fdf || dataCapable s v)

/-- The frame joins that queue. -/
def travPut (p : BusPort) (f : Frame) (s : State) : State :=
  let v := portGet s (otherPort p)
  setPort s (otherPort p) { v with traverse := v.traverse ++ [{ f := f, recv := s.keel.frc }] }

/-! ### Policing (R264, R325, R330) -/

/-- A policer judges a frame on its header: whether it conforms, and the state after. -/
def policeFrame (num : Nat) (f : Frame) (s : State) : Bool × State :=
  match tget s.sched.policers num with
  | none => (true, s)
  | some x =>
    let b := refill x.b s.keel.frc
    let n := f.len + 16
    let top := 2 ^ 64 - 1
    let ok := decide (byteTokens n ≤ b.tokens)
    let x' := if ok then { x with b := chargeBucket b n, conformF := satAdd x.conformF 1 top, conformB := satAdd x.conformB n top }
      else { x with b := b, excessF := satAdd x.excessF 1 top, excessB := satAdd x.excessB n top }
    (ok, { s with sched := { s.sched with policers := tput s.sched.policers num x' } })

/-! ### De-duplication (R246-R248) -/

/-- The entry of a pair. -/
def dedupGet (v : Port) (src flow : Nat) : Option Dedup := v.dedup.find? (fun d => d.src == src && d.flow == flow)

/-- The entry of a pair written. -/
def dedupPut (p : BusPort) (d : Dedup) (s : State) : State :=
  let v := portGet s p
  setPort s p { v with dedup := v.dedup.filter (fun x => !(x.src == d.src && x.flow == d.flow)) ++ [d] }

/-- A statistic of the RX flow of a frame, where the port has one. -/
def rxCount (p : BusPort) (n i d : Nat) (s : State) : State :=
  let v := portGet s p
  setPort s p { v with rx := tmod v.rx n (fun f => { f with ctr := cinc f.ctr i d }) }

/-- A failed tag is counted and raised (Tables 10-13, 10-14). -/
def tagFailed (p : BusPort) (flow : Nat) (s : State) : State :=
  raise (portBase p + 0x23) 1 (addrFlow p flow) false (portCount p 30 1 s)

/-- Has the port no key of the frame's phase for its source (R239)? -/
def keyMissing (s : State) (p : BusPort) (f : Frame) : Bool :=
  f.auth && !(s.keel.vault.nodeKeys.any (fun k => k.port == p && k.src == f.src && bitOf k.epoch 0 == f.kph))

/-- A duplicate is ACKed, without a commit, if it passes step 6 (R247): answer 16. -/
def duplicate (p : BusPort) (f : Frame) (s : State) : Nat × State :=
  if !f.bodyOk then (5, s)
  else if f.auth && !f.tagOk then (4, tagFailed p f.flow s)
  else (16, rxCount p f.flow 4 1 (portCount p 24 1 s))

/-- Step 4, then `k` for steps 5 to 7 (R247). Every frame on a pair keeps its entry from ageing (R246, R248). -/
def throughDedup (p : BusPort) (f : Frame) (s : State) (k : State → Nat × State) : Nat × State :=
  if keyMissing s p f then (1, s)
  else if f.flow = 0 then k s
  else
    let v := portGet s p
    let note := fun (gap : Nat) (s : State) =>
      let s := if gap = 0 then s else rxCount p f.flow 5 gap (portCount p 25 gap s)
      dedupPut p { src := f.src, flow := f.flow, last := f.seq, frc := s.keel.frc } s
    match dedupGet v f.src f.flow with
    | none =>
      if 262144 ≤ v.dedup.length then (8, raise (portBase p + 0x20) 1 (addrPort (portNum p)) false s)
      else
        let (a, s) := k s
        (a, if a = 15 then note 0 s else s)
    | some d =>
      let s := dedupPut p { d with frc := s.keel.frc } s
      let gap := (f.seq + 65536 - d.last % 65536) % 65536
      if gap = 0 ∨ 32768 ≤ gap then duplicate p f s
      else
        let (a, s) := k s
        (a, if a = 15 then note (gap - 1) s else s)

/-! ### Local commit (R244 steps 5 to 7, R245, R253) -/

/-- FIRST and LAST of a frame. -/
def isFirst (f : Frame) : Bool := bitOf f.frag 1
def isLast (f : Frame) : Bool := bitOf f.frag 0

/-- What the port records of a packet's first fragment (R253), with its ingress timestamp (02 R40). -/
def busInfo (s : State) (p : BusPort) (f : Frame) : BusInfo :=
  { src := f.src, flow := f.flow, cls := f.cls, seq := f.seq, stamp := stampActive f.sofNs f.sofTdc s - psTicks (termsOf s p).2.1, port := p,
    dkind := f.dkind, dst := f.dst, urg := f.urg, recvFrc := s.keel.frc, auth := f.auth, frag := f.frag, kph := f.kph,
    fdf := f.fdf }

/-- A packet of an authenticated flow is held, unless the queue has GLIDE_AUTH (03 R74). -/
def rxInfo (s : State) (p : BusPort) (f : Frame) (q : Queue) : PktInfo :=
  { hold := f.auth && !(qGlideAuth q.w), bus := some (busInfo s p f) }

/-- Step 5: the receive flow and its queue, or a NAK reason. -/
def judgeFlow (s : State) (p : BusPort) (f : Frame) : Except Nat (Flow × Queue) := do
  let v := portGet s p
  let fl ← match tget v.rx f.flow with
    | some x => if x.stopped then .error 2 else .ok x
    | none => .error 2
  if (match peersOf fl with | some l => !(l.contains f.src) | none => false) then .error 2 else .ok ()
  if fnat fl.f 0xA913 0 = 1 ∧ !f.auth then .error 1 else .ok ()
  if !(isLast f) ∧ f.len % 256 ≠ 0 then .error 2 else .ok ()
  match fl.openSrc with
  | some o => if o ≠ f.src then .error 8 else .ok ()
  | none => if isFirst f then .ok () else .error 9
  let q ← match qGet s (flowQueue fl) with
    | some q => if q.blocked || q.stopped then .error 8 else .ok q
    | none => .error 8
  let k := cellCount f.len
  let (held, top) := if isFirst f then (0, qPktMax q.w) else match qOpen q with
    | some x => (x.cells.length + x.released, (q.mode.getD (false, false, 0, 256)).2.2.2)
    | none => (0, k)
  if q.credit < k ∧ (isFirst f ∨ (qOpen q).isSome) then .error 7 else .ok ()
  if top < held + k then .error 3 else .ok ()
  .ok (fl, q)

/-- The open packet of an RX flow ends as a producer abort; one that vanishes counts in ABANDONED (R253, R254). -/
def abandonOpen (p : BusPort) (n : Nat) (always : Bool) (s : State) : State :=
  let v := portGet s p
  match tget v.rx n with
  | none => s
  | some fl =>
    match (qGet s (flowQueue fl)).bind qOpen with
    | none => s
    | some x =>
      let s := endOpen (flowQueue fl) 3 s
      if x.visible && !always then s else rxCount p n 6 1 (portCount p 26 1 s)

/-- The cells of a fragment written into the flow's queue; `fin` says that a LAST fragment closes its packet. -/
def writeCells (f : Frame) (q : Nat) (i : PktInfo) (fin : Bool) (s : State) : State :=
  let parts := cellsOf (f.payload.length / 256 + 1) f.payload
  (parts.zipIdx).foldl (fun s c =>
    writeCell q (isFirst f && c.2 == 0) (fin && isLast f && c.2 + 1 == parts.length) false false true c.1 i s) s

/-- The flow's record of its open packet. -/
def setOpen (p : BusPort) (n : Nat) (src : Option Nat) (s : State) : State :=
  let v := portGet s p
  setPort s p { v with rx := tmod v.rx n (fun x => { x with openSrc := src, openFrc := s.keel.frc }) }

/-- Step 6 failed: cells that are already visible end with an abort marker, others are freed (R245). -/
def spoilFlow (p : BusPort) (f : Frame) (fl : Flow) (q : Queue) (reason : Nat) (s : State) : State :=
  let n := flowQueue fl
  let i := rxInfo s p f q
  let (glide, _, th, _) := if isFirst f then sampleMode q i else q.mode.getD (false, false, 0, 0)
  let held := if isFirst f then 0 else match qOpen q with
    | some x => x.cells.length + x.released
    | none => 0
  let vis := !(isFirst f) && (match qOpen q with | some x => x.visible | none => false)
  if glide && (vis || decide (th ≤ held + cellCount f.len)) then
    let s := if isFirst f then abandonOpen p f.flow false s else s
    setOpen p f.flow none (markOpen n reason (writeCells f n i false s))
  else s

/-- Step 7: cells, the flow's state, and counters. -/
def commitFlow (p : BusPort) (f : Frame) (fl : Flow) (i : PktInfo) (s : State) : State :=
  let n := flowQueue fl
  let s := if isFirst f then abandonOpen p f.flow false s else s
  let s := writeCells f n i true s
  let s := setOpen p f.flow (if isLast f then none else some f.src) s
  let v := portGet s p
  let s := setPort s p { v with rx := tmod v.rx f.flow (fun x =>
    { x with ctr := cinc (cinc x.ctr 0 1) 1 f.len
             credits := tmod x.credits f.src (fun c => { c with used := (c.used + cellCount f.len) % 2 ^ 32 }) }) }
  sweepFlow p f.flow s

/-- Steps 5 to 7 through the RX flow of the frame's FLOW. -/
def acceptFlow (p : BusPort) (f : Frame) (s : State) : Nat × State :=
  match judgeFlow s p f with
  | .error r => (r, if r = 1 then portCount p 30 1 s else s)
  | .ok (fl, q) =>
    if !f.bodyOk then (5, spoilFlow p f fl q 5 s)
    else if f.auth && !f.tagOk then (4, tagFailed p f.flow (spoilFlow p f fl q 4 s))
    else (15, commitFlow p f fl (rxInfo s p f q) s)

/-- A check of step 6 for a frame that leaves no cell behind. -/
def bodyCheck (p : BusPort) (f : Frame) (s : State) (k : State → State) : Nat × State :=
  if !f.bodyOk then (5, s)
  else if f.auth && !f.tagOk then (4, tagFailed p f.flow s)
  else (15, k s)

/-- ACCEPT_MB: the TARGET buffer takes the frame, or is FULL (R260, R262). -/
def acceptMb (p : BusPort) (f : Frame) (target : Nat) (s : State) : Nat × State :=
  match tget (portGet s p).mbs target with
  | none => (2, s)
  | some m =>
    if m.tx || decide (64 < f.len) then (2, s)
    else if m.full then (8, s)
    else bodyCheck p f s fun s =>
      let v := portGet s p
      let m' := { m with full := true, payload := f.payload, bus := some (busInfo s p f) }
      event m.owner 0x0602 [Int.ofNat (portNum p), Int.ofNat target, Int.ofNat f.src, Int.ofNat f.flow, Int.ofNat f.len]
        (setPort s p { v with mbs := tput v.mbs target m' })

/-- FORWARD: into the other port's traverse queue; a broadcast or group frame is also committed through the RX flow
of its FLOW, where the port has one, in the same operation (R262, R301). -/
def forwardFrame (p : BusPort) (f : Frame) (local_ : Bool) (s : State) : Nat × State :=
  if !(travRoom s p f) then (8, s)
  else if local_ && thas (portGet s p).rx f.flow then
    let (a, s) := acceptFlow p f s
    (a, if a = 15 then travPut p f s else s)
  else bodyCheck p f s (travPut p f)

/-- A frame that finds no room in INSPECT_QUEUE is refused and counted as a HOST_MISS of the PF, once however often its sender
repeats it (01 R27). -/
def inspectMiss (p : BusPort) (f : Frame) (s : State) : State :=
  let v := portGet s p
  let id := (f.src, f.flow, f.seq)
  if v.inspMiss = some id then s else setPort (hostMiss 0 s) p { v with inspMiss := some id }

/-- INSPECT: the frame is a packet of its own in INSPECT_QUEUE (R263). -/
def inspectFrame (p : BusPort) (f : Frame) (s : State) : Nat × State :=
  match fopt (portGet s p).f 0xAC05 with
  | none => (8, s)
  | some q =>
    if !(hasCredit s q (cellCount f.len)) then (8, inspectMiss p f s)
    else bodyCheck p f s (writePacket q f.payload true { bus := some (busInfo s p f) })

/-- Steps 3 to 7 for what the filters decided (R262-R264). -/
def actOn (p : BusPort) (f : Frame) (a : FilterAct) (s : State) : Nat × State :=
  if a.auth && !f.auth then (1, portCount p 30 1 s)
  else
    let (ok, s) := match a.policer with
      | some n => policeFrame n f s
      | none => (true, s)
    if !ok then (6, s)
    else throughDedup p f s fun s =>
      match a.act with
      | 0 => acceptFlow p f s
      | 1 => acceptMb p f a.target s
      | _ => forwardFrame p f (f.dkind != 0) s

/-- Does a filter entry, or the default action, forward the frame (R241, R262)? -/
def filterForwards (s : State) (p : BusPort) (f : Frame) : Bool :=
  (filterAct (portGet s p) f).act == 3 && !(traverseOn s) && !(segLocal f.src) && !(f.dkind == 0 && segLocal f.dst)

/-- A frame of a data class (R241, R262, R263, R299, R300). -/
def receiveData (p : BusPort) (f : Frame) (s : State) : Nat × State :=
  let v := portGet s p
  if fnat v.f 0xAC04 0 = 1 then throughDedup p f s (inspectFrame p f)
  else if tableForwards s p f then throughDedup p f s (forwardFrame p f (f.dkind != 0))
  else
    let a := filterAct v f
    let dest := isDest p v f
    if filterForwards s p f then actOn p f a s
    else if !dest then (0, s)
    else if a.act ≥ 2 then (if f.dkind = 0 then 2 else 0, portCount p 29 1 s)
    else actOn p f a s

/-- A frame of class 63 goes to the engine's firmware, or on to the next segment (15 R366). -/
def receiveEnroll (p : BusPort) (f : Frame) (s : State) : Nat × State :=
  if isDest p (portGet s p) f then bodyCheck p f s id
  else if tableForwards s p f then forwardFrame p f false s
  else (0, s)

/-- A global operation: forwarded down, de-duplicated and, with 16 pending, answered BUSY (12 R313, R314, R317). -/
def receiveGlobal (p : BusPort) (f : Frame) (s : State) : Nat × State :=
  let msg := msgType f.payload
  let down := f.dkind == 0 || p == upPort s
  let fwd := tableForwards s p f && down
  let dest := isDest p (portGet s p) f
  let kind := if msg = 0x18 then leAt f.payload 14 1 else msg
  let timed := kind == 0x19 || kind == 0x1C || kind == 0x1D || kind == 0x1E
  if !fwd && !dest then (0, s)
  else if dest && timed && decide (16 ≤ s.bus.ops.length) then (8, s)
  else throughDedup p f s (if fwd then forwardFrame p f false else fun s => bodyCheck p f s id)

/-! ### The whole of R244 -/

/-- Format (R231, R276). -/
def formatOk (f : Frame) : Bool :=
  decide (f.dkind < 3) && decide (f.len ≤ 2048) && (f.fdf || decide (f.len ≤ 64)) && !(f.fdf && decide (f.cls < 2)) &&
  (f.dkind != 2 || f.dst == 0)

/-- URG values of R233. -/
def urgOk (f : Frame) : Bool := if f.cls < 2 then decide (f.urg < 16) else decide (16 ≤ f.urg)

/-- The answer to a frame whose header is sound. -/
def answerFrame (p : BusPort) (f : Frame) (s : State) : Nat × State :=
  let msg := msgType f.payload
  let answered := answeredFrame f.cls msg
  if !(urgOk f) then
    (if answered && (isDest p (portGet s p) f || tableForwards s p f || filterForwards s p f) then 2 else 0, portCount p 28 1 s)
  else if !answered then
    if f.cls = 0 ∧ f.bodyOk ∧ (msg = 0 ∨ 5 < msg) then (0, { s with tu := { s.tu with timeDrops := s.tu.timeDrops + 1 } })
    else (0, s)
  else if f.cls = 1 then receiveGlobal p f s
  else if f.cls = 63 then receiveEnroll p f s
  else receiveData p f s

/-- The answer is driven and counted; ERROR_PASSIVE sends no BAD_FRAME (R280). -/
def driveAnswer (p : BusPort) (f : Frame) (a : Nat) (s : State) : State :=
  let v := portGet s p
  let a := if a = 5 ∧ v.conf = .errorPassive then 0 else a
  let s := setPort s p { v with lastAnswer := min a 15, slot := slotBits a }
  if a = 15 then portCount p 3 f.len (portCount p 1 1 s)
  else if 1 ≤ a ∧ a ≤ 9 then portCount p (4 + a) 1 s
  else s

/-- A frame without a wire error before its commit slot. -/
def receiveFrame (p : BusPort) (f : Frame) (s : State) : State :=
  if !(formatOk f) then portCount p 27 1 (driveAnswer p f 0 s)
  else
    let (a, s) := answerFrame p f s
    let s := driveAnswer p f a s
    if f.bodyOk then rxFine p s else rxError p .data s

end Sys2Proof.Machine
end

