-- ==== Sys2Proof/Machine/BusEvents.lean ====
section
/-! DEFINITION. The events of an Onalas port: attempts and receptions (10 R234, R244), credit and opening (R249, R257-R259),
its timers (R248, R253, R265, R328), integration and disabling (09 R212, R223), error confinement (11 R284-R290) and
the wake detector (09 R225). -/

namespace Sys2Proof.Machine

/-! ### Credit taken (R259) -/

/-- Is a TOTAL later than the last one taken, modulo 2^32? -/
def laterTotal (old new : Nat) : Bool :=
  let d := (new + 2 ^ 32 - old % 2 ^ 32) % 2 ^ 32
  decide (0 < d) && decide (d < 2 ^ 31)

/-- A TX flow takes a CREDIT: the first one of an opening answers FLOW_OPEN; a later TOTAL counts. -/
def takeCredit (src total : Nat) (f : Flow) : Flow :=
  let answers := f.openWait.contains src
  let wait := f.openWait.filter (· != src)
  if answers || laterTotal (tgetD f.totals src 0) total then
    { f with openWait := wait, opening := !wait.isEmpty, totals := tput f.totals src total, waitCredit := false }
  else f

/-- A message buffer's opening is answered. -/
def mbOpened (src flow openId : Nat) (m : MsgBuf) : MsgBuf :=
  if m.tx && m.opening && m.flow == flow && m.openId == openId && m.dst == src then { m with opening := false, opened := true } else m

/-- A CREDIT at a port that takes part (R259): one with another OPEN_ID is ignored. -/
def creditFrame (p : BusPort) (src flow openId total : Nat) (s : State) : State :=
  let v := portGet s p
  if !(portLive s v) then s
  else
    let tx := tmod v.tx flow (fun f =>
      if f.openId = openId ∧ (flowDests f).contains src then takeCredit src (total % 2 ^ 32) f else f)
    setPort s p { v with tx := tx, mbs := tmap v.mbs (fun _ m => mbOpened src flow openId m) }

/-! ### Attempts (R234, R243) -/

/-- The winner's frame ended in an error before its commit slot: it is sent again (R275). -/
def failFrame (p : BusPort) (c : Cand) (e : WireErr) (s : State) : State :=
  let s := txError p e s
  if c.kind = .flow then retryFlow p c.num (flowSent p c.num s) else s

/-- The winner's frame ran through its commit slot. -/
def slotFrame (p : BusPort) (c : Cand) (r : SlotRead) (s : State) : State :=
  let o := readSlot r
  let answered := candAnswered (portGet s p) c
  let s := portCount p 2 c.len (portCount p 0 1 s)
  giveOutcome p c o (countOutcome p answered o s)

/-- A port in ERROR_PASSIVE waits after a frame that it sent (R280). -/
def markPassive (p : BusPort) (s : State) : State :=
  let v := portGet s p
  setPort s p { v with passiveWait := v.conf == .errorPassive }

/-- Does the port send a data phase without the comparison of R218: is its loop delay, in 1/64 ns, above 8 ns, or the converter
not calibrated (source 0x322)? -/
def unchecked (s : State) (loop : Nat) : Bool :=
  decide (512 < loop) || (match tget s.fc.srcs 0x322 with | some x => x.live | none => false)

/-- The frame chosen goes out on the pair (09 R213, R218, R219). -/
def driveFrame (p : BusPort) (loop : Nat) (s : State) : State :=
  let v := portGet s p
  match v.lastTx with
  | none => s
  | some f =>
    let x := sentOf s p f
    let ps := (x.arb.length + 8) * bitPs s v + (if f.fdf then dataPhaseUi x.trainUi f.len f.auth * uiPs v else 0)
    let s := setPort s p { v with sent := x, wireEnd := s.keel.frc + (ps + 999) / 1000 }
    if f.fdf && unchecked s loop then portCount p 51 1 s else s

/-- What the sender reads of its frame: without the comparison of R218 a corrupted data phase goes unnoticed, and the frame runs
through a commit slot that no node answers. -/
def heardRead (s : State) (p : BusPort) (loop : Nat) (r : SlotRead) : SlotRead :=
  match (portGet s p).lastTx, r with
  | some f, .error .txdc => if f.fdf && unchecked s loop then .slot true true 15 else r
  | _, _ => r

/-- The frame of the winner: sent, ended, and the epoch looked after (15 R369). `loop` is the loop delay that a data phase's
first rising transition measures (09 R218). -/
def winFrame (p : BusPort) (tdc loop : Nat) (c : Cand) (r : SlotRead) (s : State) : State :=
  let s := driveFrame p loop (sendCand p tdc c s)
  let s := match heardRead s p loop r with
    | .error e => failFrame p c e (setPort s p { portGet s p with wireEnd := 0 })
    | r => slotFrame p c r s
  askEpoch p (ownEpochGo p (markPassive p s))

/-- One attempt at bus idle: the port contends with its first candidate; a lower field of another contender wins. -/
def attempt (p : BusPort) (others : List Nat) (r : SlotRead) (tdc loop : Nat) (s : State) : State :=
  let v := portGet s p
  if !(portLive s v) || v.closing then s
  else if v.wakeReq then setPort s p { v with wakeReq := false }
  else
    let s := setPort s p { v with passiveWait := false }
    if v.passiveWait && !others.isEmpty then s
    else
      let s := prepPort p s
      match bestCand (candidates s p) with
      | none => s
      | some c =>
        let s := contendLate p c s
        if others.any (fun o => decide (o < arbField c)) then portCount p 4 1 s else winFrame p tdc loop c r s

/-- Frames that arrive in this cell cycle, among the rows that wait, and that count for its attempt: a CREDIT (R259), and
EPOCH_GO (15 R369). Taking one again changes nothing. -/
def takeAhead (p : BusPort) (s : State) : State :=
  s.pending.foldl (fun s c => match c with
    | .creditRx t q src flow openId total => if t ≤ s.keel.frc ∧ q = p then creditFrame p src flow openId total s else s
    | .enrollRecordRx t q r => if t ≤ s.keel.frc ∧ q = p ∧ r.msg = 0x36 then takeEpochGo p r s else s
    | _ => s) s

/-- ARBITRATION_ATTEMPT: the bus is idle (R234). -/
def execArbitrationAttempt (t : Nat) (p : BusPort) (others : List Nat) (a : AttemptFacts) (s : State) :
    Host.Outcome State Fault Refusal :=
  ev t s (fun s => attempt p others a.read a.tdc a.loop (takeAhead p s))

/-- Did a frame's SOF follow the port's integration (09 R212)? -/
def followsIntegration (s : State) (v : Port) (f : Frame) : Bool := decide (v.integratedAt + f.sofNs ≤ s.keel.frc)

/-- A frame on the wire at a port that takes part: a first error ends it, a data phase that the port cannot follow is
skipped (R220), and any other frame is received (R244). -/
def wireFrame (p : BusPort) (f : Frame) (err : Option WireErr) (s : State) : State :=
  let quiet := setPort s p { portGet s p with lastAnswer := 0 }
  if !(portLive s (portGet s p)) || !(followsIntegration s (portGet s p) f) then s
  else if !f.hcrcOk then rxError p .hcrc quiet
  else match err with
    | some .stuff => rxError p .stuff quiet
    | some .hcrc => rxError p .hcrc quiet
    | some .form => rxError p .form quiet
    | some .flagSeen => rxError p .flagSeen quiet
    | some .data =>
      if f.fdf && !(dataCapable s (portGet s p)) then portCount p 50 1 quiet else receiveFrame p { f with bodyOk := false } s
    | _ => if f.fdf && !(dataCapable s (portGet s p)) then portCount p 50 1 quiet else receiveFrame p f s

/-- FRAME_RECEIVE (R244). -/
def execFrameReceive (t : Nat) (p : BusPort) (f : Frame) (err : Option WireErr) (s : State) : Host.Outcome State Fault Refusal :=
  ev t s (wireFrame p f err)

/-! ### Credit and opening (R249, R257-R259) -/

/-- CREDIT_RX (R259). -/
def execCreditRx (t : Nat) (p : BusPort) (src flow openId total : Nat) (s : State) : Host.Outcome State Fault Refusal :=
  ev t s (creditFrame p src flow openId total)

/-- The receive side of an opening: the credit of the source starts at zero, and grants are passed on (R249, R257). -/
def reopenRx (p : BusPort) (src flow openId : Nat) (s : State) : State :=
  let v := portGet s p
  if thas v.rx flow then
    let s := setPort s p { v with rx := tmod v.rx flow (fun f => { f with credits := tput f.credits src {} }) }
    let s := sweepFlow p flow s
    let v := portGet s p
    let s := setPort s p { v with rx := tmod v.rx flow (fun f =>
      { f with credits := tput f.credits src { tgetD f.credits src {} with openId := some openId } }) }
    sendCredit p flow src s
  else queueCtl p 1 5 0 src false (creditPayload flow { openId := some openId }) s

/-- FLOW_OPEN_RX (R249): the pair's entry becomes L = START_SEQ - 1 and CREDIT answers. One for a flow that accepts only
AUTH = 1 frames must carry AUTH = 1 itself. -/
def execFlowOpenRx (t : Nat) (p : BusPort) (src flow startSeq openId : Nat) (auth : Bool) (s : State) :
    Host.Outcome State Fault Refusal :=
  ev t s fun s =>
    let v := portGet s p
    let needAuth := match tget v.rx flow with
      | some f => fnat f.f 0xA913 0 == 1
      | none => false
    if !(portLive s v) then s
    else if needAuth && !auth then portCount p 30 1 s
    else if (dedupGet v src flow).isNone && decide (262144 ≤ v.dedup.length) then
      raise (portBase p + 0x20) 1 (addrPort (portNum p)) false s
    else
      reopenRx p src flow openId
        (dedupPut p { src := src, flow := flow, last := (startSeq + 65535) % 65536, frc := s.keel.frc } s)

/-- A message buffer sends FLOW_OPEN to its destination. -/
def mbSendOpen (p : BusPort) (n : Nat) (s : State) : State :=
  let v := portGet s p
  match tget v.mbs n with
  | none => s
  | some m =>
    let seq := (m.head.map (fun h => h.seq)).getD m.seq
    let s := setPort s p { v with mbs := tput v.mbs n { m with openSent := s.keel.frc } }
    queueCtl p 1 6 0 m.dst m.auth (openPayload m.flow seq m.openId) s

/-- One millisecond has passed since an instant. -/
def msSince (s : State) (x : Nat) : Bool := decide (x + 1000000 ≤ s.keel.frc)

/-- FLOW_OPEN_REPEAT (R249): every 1 ms until the matching CREDIT arrives. -/
def execFlowOpenRepeat (t : Nat) (p : BusPort) (flow : Nat) (s : State) : Host.Outcome State Fault Refusal :=
  ev t s fun s =>
    let v := portGet s p
    let mbs := (v.mbs.filter (fun e => e.2.tx && e.2.opening && e.2.flow == flow && msSince s e.2.openSent)).map (fun e => e.1)
    let s := match tget v.tx flow with
      | some f =>
        if f.opening && msSince s f.openSent then sendOpens p flow (txMod p flow (fun f => { f with openSent := s.keel.frc }) s)
        else s
      | none => s
    mbs.foldl (fun s n => mbSendOpen p n s) s

/-- CREDIT_REFRESH in ns. -/
def refreshNs (v : Port) : Nat := fnat v.f 0xAC0A 10 * 1000000

/-- CREDIT_REFRESH (R258): an open RX flow sends CREDIT to each peer that has opened it. -/
def execCreditRefresh (t : Nat) (p : BusPort) (flow : Nat) (s : State) : Host.Outcome State Fault Refusal :=
  ev t s fun s =>
    let v := portGet s p
    match tget v.rx flow with
    | none => s
    | some f =>
      if s.keel.frc < f.refreshAt + refreshNs v ∨ f.stopped then s
      else
        let s := setPort s p { v with rx := tput v.rx flow { f with refreshAt := s.keel.frc } }
        let peers := (f.credits.filter (fun e => e.2.openId.isSome)).map (fun e => e.1)
        peers.foldl (fun s n => sendCredit p flow n s) (sweepFlow p flow s)

/-! ### Timers (R248, R253, R265, R328) -/

/-- HOLDOFF_EXPIRY (R328): the wait after BUSY, POLICED or NO_CREDIT has ended. -/
def execHoldoffExpiry (t : Nat) (p : BusPort) (flow : Nat) (s : State) : Host.Outcome State Fault Refusal :=
  ev t s fun s =>
    txMod p flow (fun f => if waited s f.holdoff then { f with holdoff := none } else f) s

/-- Does a frame of a pair arrive in this cell cycle, among the rows that wait? It keeps what a timeout of that cycle would end
(02 R53; 10 R248, R253). -/
def arrives (s : State) (p : BusPort) (src flow : Nat) : Bool :=
  s.pending.any (fun c => match c with
    | .frameReceive t q f _ => decide (t ≤ s.keel.frc) && q == p && f.hcrcOk && f.src == src && f.flow == flow
    | _ => false)

/-- DEDUP_AGE_EXPIRY (R248): an entry that has received no frame for DEDUP_AGE is deleted. -/
def execDedupAgeExpiry (t : Nat) (p : BusPort) (src flow : Nat) (s : State) : Host.Outcome State Fault Refusal :=
  ev t s fun s =>
    let v := portGet s p
    setPort s p { v with dedup := v.dedup.filter (fun d =>
      !(d.src == src && d.flow == flow && decide (d.frc + dedupNs v ≤ s.keel.frc) && !(arrives s p src flow))) }

/-- HEAD_FRAME_AGED (R248): an unanswered head frame stalls its flow with AGED, and ends a message buffer's send. -/
def execHeadFrameAged (t : Nat) (p : BusPort) (flow : Nat) (s : State) : Host.Outcome State Fault Refusal :=
  ev t s fun s =>
    let v := portGet s p
    let aged := v.mbs.filter (fun e => e.2.tx && e.2.flow == flow && headAged s v e.2.head)
    let s := match tget v.tx flow with
      | some f => if f.stalled.isNone && headAged s v f.head then stallFlow p flow 0x11 s else s
      | none => s
    aged.foldl (fun s e => endMb p e.1 (mbStall 0x11 e.2.lastNak) s) s

/-- OPEN_TIMEOUT_EXPIRY (R253): a packet that received no fragment for OPEN_TIMEOUT ends as a producer abort. -/
def execOpenTimeoutExpiry (t : Nat) (p : BusPort) (flow : Nat) (s : State) : Host.Outcome State Fault Refusal :=
  ev t s fun s =>
    let v := portGet s p
    match tget v.rx flow with
    | none => s
    | some f =>
      if decide (f.openFrc + fnat v.f 0xAC0B 10 * 1000000 ≤ s.keel.frc) &&
         (match f.openSrc with | some src => !(arrives s p src flow) | none => false) then
        setOpen p flow none (abandonOpen p flow true s)
      else s

/-- HOST_TIME_LAUNCH (R265, R266): the active view has reached the head packet's LAUNCH_TIME. -/
def execHostTimeLaunch (t : Nat) (p : BusPort) (flow : Nat) (s : State) : Host.Outcome State Fault Refusal :=
  ev t s fun s =>
    match tget (portGet s p).tx flow with
    | none => s
    | some f =>
      if launchMode f != 2 || f.released then s
      else match ((qGet s (flowQueue f)).bind qHead).bind (fun x => x.launch) with
        | none => s
        | some tau =>
          let d := activeNow s - tau
          if d < 0 then s
          else if d < tickNs then txMod p flow (fun f => { f with released := true }) s
          else lateLaunch p flow (d / tickNs).toNat s

/-! ### Taking part (R212, R223) -/

/-- INTEGRATION_DONE (R212): the port has seen the bus idle. -/
def execIntegrationDone (t : Nat) (p : BusPort) (s : State) : Host.Outcome State Fault Refusal :=
  ev t s fun s =>
    let v := portGet s p
    if inService s && v.enabled && v.conf != .busOff && v.conf != .stuckOff then
      setPort s p { v with integrated := true, integratedAt := if v.integrated then v.integratedAt else s.keel.frc }
    else s

/-- PORT_DISABLE_AT_IDLE (R223): a frame that the port is sending runs to its end first. -/
def execPortDisableAtIdle (t : Nat) (p : BusPort) (s : State) : Host.Outcome State Fault Refusal :=
  ev t s fun s =>
    let v := portGet s p
    if v.closing && decide (v.wireEnd ≤ s.keel.frc) then
      setPort s p { v with enabled := false, closing := false, integrated := false, wakeReq := false }
    else s

/-! ### Confinement (R284-R290) -/

/-- Is a BUS.PORT.RECOVER of the port among the rows that wait, of this cell cycle (R287)? -/
def recoverAsked (s : State) (p : BusPort) : Bool :=
  s.pending.any (fun c => match c with
    | .busPortRecover h n => decide (h.time ≤ s.keel.frc) && n == portNum p
    | _ => false)

/-- BUSOFF_RECOVERY_DONE (R284, R285, R287): `sequences` have been counted; with all that are required, the port recovers. -/
def execBusoffRecoveryDone (t : Nat) (p : BusPort) (sequences : Nat) (s : State) : Host.Outcome State Fault Refusal :=
  ev t s fun s =>
    let v := portGet s p
    if v.conf != .busOff || !v.rcv.counting then s
    else if v.rcv.need ≤ sequences then recoverPort p (!v.rcv.byCmd && !(recoverAsked s p)) s
    else setPort s p { v with rcv := { v.rcv with counted := max v.rcv.counted sequences } }

/-- The cut-off switch opens and the port is in STUCK_OFF (R288, R290). -/
def cutOff (p : BusPort) (offset : Nat) (s : State) : State :=
  let v := portGet s p
  if !(inService s) || !v.enabled || v.conf == .stuckOff then s
  else
    let s := setPort s p { v with conf := .stuckOff, cutoff := true, rcv := {}, passiveWait := false }
    stateEvent p v.conf (raise (portBase p + offset) 1 (addrPort (portNum p)) false (portCount p 47 1 s))

/-- STUCK_DOMINANT_CUTOFF (R288). -/
def execStuckDominantCutoff (t : Nat) (p : BusPort) (s : State) : Host.Outcome State Fault Refusal := ev t s (cutOff p 3)

/-- A FORM error that no flag signals: it is counted and raises REC, but in the insertion window (R279, R289, R290). -/
def quietForm (p : BusPort) (count : Bool) (s : State) : State :=
  let v := portGet s p
  if inInsertion s v then portCount p 49 1 s
  else setErrors p v.tec (min 127 (v.rec_ + 1)) (if count then portCount p 38 1 s else s)

/-- LINE_HELD_DOMINANT (R289): each 64 bit times of a line held by another node. -/
def execLineHeldDominant (t : Nat) (p : BusPort) (s : State) : Host.Outcome State Fault Refusal :=
  ev t s fun s =>
    let v := portGet s p
    if !(portLive s v) then s
    else if v.lineHeld then quietForm p false s
    else
      let s := quietForm p true s
      let s := setPort s p { portGet s p with lineHeld := true }
      raise (portBase p + 4) 1 (addrPort (portNum p)) true (portCount p 48 1 s)

/-- LINE_IDLE_AFTER_HOLD (R289): the condition ends after one idle sequence. -/
def execLineIdleAfterHold (t : Nat) (p : BusPort) (s : State) : Host.Outcome State Fault Refusal :=
  ev t s fun s =>
    let v := portGet s p
    if v.lineHeld then endCond (portBase p + 4) (setPort s p { v with lineHeld := false }) else s

/-- DATA_DRIVER_RUNAWAY (R290): the port's own driver is cut off, or a long squelch is a FORM error. -/
def execDataDriverRunaway (t : Nat) (p : BusPort) (own : Bool) (s : State) : Host.Outcome State Fault Refusal :=
  ev t s fun s =>
    if own then cutOff p 5 s
    else if portLive s (portGet s p) then quietForm p true s
    else s

/-- HOLD_OFF_LEVEL_RESET (R284): the port has stayed out of BUS_OFF for 1 s. -/
def execHoldOffLevelReset (t : Nat) (p : BusPort) (s : State) : Host.Outcome State Fault Refusal :=
  ev t s fun s =>
    let v := portGet s p
    if v.conf != .busOff && decide (v.outSince + 1000000000 ≤ s.keel.frc) then setPort s p { v with k := 0 } else s

/-! ### The wake detector (R225) -/

/-- BUS_WAKE_DETECT: a dominant period of 4 µs or more wakes; one from 2 µs on may (log 25). -/
def execBusWakeDetect (t : Nat) (p : BusPort) (dominantNs : Nat) (s : State) : Host.Outcome State Fault Refusal :=
  ev t s fun s =>
    let sleeping := s.keel.powered && (s.resetN || s.eng == .startHut || s.eng == .halted)
    let (n, s1) := takeFree s
    let wakes := decide (4000 ≤ dominantNs) || (decide (2000 ≤ dominantNs) && Config.mayWake n)
    let s := if 2000 ≤ dominantNs ∧ dominantNs < 4000 then s1 else s
    if !(sleeping && wakes) then s
    else { s with keel := { s.keel with wakeA := s.keel.wakeA || p == .oa, wakeB := s.keel.wakeB || p == .ob, busWake := true } }

end Sys2Proof.Machine
end

