-- ==== Sys2Proof/Machine/BusCmds.lean ====
section
/-! DEFINITION. The BUS commands of ports, flows, message buffers, filters and inspection (17 Table 17-9; 09 R222-R225;
10 R249-R263, R269, R270; 11 R284, R285, R288, R291, R292; 12 R294-R296, R300). -/

namespace Sys2Proof.Machine

/-- The port of a command. -/
def busPort (n : Nat) : Except Status BusPort :=
  match portOf n with
  | some p => .ok p
  | none => .error .badArg

/-! ### BUS.PORT.SET (R222, R223, R291, R295, R296) -/

/-- Default timing of an arbitration rate: PROP_SEG, PHASE1, PHASE2, SJW (Table 9-4). -/
def timingOf (rate : Nat) : Nat × Nat × Nat × Nat :=
  if rate = 5 then (26, 133, 40, 32)
  else if rate = 10 then (26, 53, 20, 16)
  else if rate = 25 then (26, 5, 8, 5)
  else (14, 2, 3, 2)

/-- ARB_RATE that a port's settings give, in any state. -/
def setRateOf (s : State) (f : Tbl RVal) : Nat := fnat f 0x9702 ([5, 10, 25, 50].getD s.board.strapRate 5)

/-- The timing of a port is one that R222 admits. -/
def timingOk (s : State) (f : Tbl RVal) : Bool :=
  let rate := setRateOf s f
  let (a, b, c, d) := timingOf rate
  let (prop, p1, p2, sjw) := (fnat f 0x9703 a, fnat f 0x9704 b, fnat f 0x9705 c, fnat f 0x9706 d)
  let bit := 1 + prop + p1 + p2
  bit * rate == 1000 && decide (sjw ≤ p1) && decide (sjw ≤ p2) && decide (2 ≤ p2) && decide (60 * bit ≤ 100 * (1 + prop + p1))

/-- Does a prefix VALUE/LEN hold a node ID, and has it no bits below LEN (R294, R296)? -/
def prefixHas (value len n : Nat) : Bool := n / 2 ^ (16 - len) == value / 2 ^ (16 - len)

/-- NODE_ID and the prefix agree, and the prefix has no bits below LEN (Table 12-1). -/
def nodeOk (p : BusPort) (f : Tbl RVal) : Bool :=
  let v := fnat f 0xC102 0
  let len := fnat f 0xC103 0
  let n := fnat f 0xC101 (match p with | .oa => 0xFFF0 | .ob => 0xFFF1)
  v % 2 ^ (16 - len) == 0 && (segLocal n || prefixHas v len n)

/-- The rate, timing, DATA_RATE and TRAIN_UI, which only a port whose ENABLE is 0 may change (R222), defaults included
(Tables 9-4, 9-7). -/
def lockedValues (s : State) (f : Tbl RVal) : List Nat :=
  let rate := setRateOf s f
  let (a, b, c, d) := timingOf rate
  [rate, fnat f 0x9703 a, fnat f 0x9704 b, fnat f 0x9705 c, fnat f 0x9706 d, fnat f 0x9707 0, fnat f 0x9708 128]

/-- SLOT of a port (Table 9-7). -/
def slotOf (p : BusPort) (f : Tbl RVal) : Nat := fnat f 0x970B (match p with | .oa => 1 | .ob => 0)

/-- ENABLE, TERM and BUSOFF_MODE as they were set before. -/
def enableOf (f : Tbl RVal) : Bool := fnat f 0x9701 1 == 1

/-- INSPECT_QUEUE names a queue of the caller that this port produces and no other object names (R263, R469). -/
def inspectOk (s : State) (h : Hdr) (p : BusPort) (recs : List Rec) : Except Status Unit :=
  match recs.find? (fun r => r.id == 0xAC05) with
  | some ⟨_, .num v⟩ => do
    let n := v.toNat
    let q ← queueFor s h.fn n
    need (qProducer q.w == 6 + portNum p) .badArg
    if fopt (portGet s p).f 0xAC05 = some n then .ok () else sideFree s n false
  | _ => .ok ()

/-- The wait of a recovery that a command asked for starts (R285, R288). -/
def startRecover (p : BusPort) (s : State) : State :=
  let v := portGet s p
  match v.conf with
  | .busOff => setPort s p { v with rcv := { counting := true, need := 64, byCmd := true } }
  | .stuckOff => recoverPort p false s
  | _ => s

/-- A change of ENABLE (R212, R223, R285). -/
def changeEnable (p : BusPort) (old new : Bool) (s : State) : State :=
  let v := portGet s p
  if old = new then s
  else if new then
    startRecover p (setPort s p { v with enabled := true, closing := false, integrated := false, nodeId := fopt v.f 0xC101 })
  else setPort s p { v with closing := true }

/-- A change of BUSOFF_MODE in BUS_OFF: to HOST the count stops, to AUTOMATIC a count from zero starts (R285, R286). -/
def changeMode (p : BusPort) (old new : Nat) (s : State) : State :=
  let v := portGet s p
  if old = new ∨ v.conf ≠ .busOff ∨ s.eng = .snowplough then s
  else if new = 1 then setPort s p { v with rcv := { v.rcv with counting := false } }
  else setPort s p { v with rcv := { counting := true, need := 64 * 2 ^ v.k } }

/-- TERM is held in the keel (09 R206). -/
def changeTerm (p : BusPort) (recs : List Rec) (s : State) : State :=
  match recs.find? (fun r => r.id == 0x970A) with
  | some ⟨_, .num v⟩ =>
    match p with
    | .oa => { s with keel := { s.keel with termA := v == 1 } }
    | .ob => { s with keel := { s.keel with termB := v == 1 } }
  | _ => s

/-- BUS.PORT.SET. -/
def execBusPortSet (h : Hdr) (port : Nat) (recs : List Rec) (s : State) : Host.Outcome State Fault Refusal :=
  mbx { op := 0x0601, pf := true } h s fun s => do
    let p ← busPort port
    recsOk portFields recs
    let v := portGet s p
    let f := fapply v.f (recs.filter (fun r => r.id != 0x970A))
    need (timingOk s f && nodeOk p f) .badArg
    need (!(slotOf p f == 1 && slotOf (otherPort p) (portGet s (otherPort p)).f == 1)) .badArg
    need (!(enableOf v.f && lockedValues s v.f != lockedValues s f)) .state
    inspectOk s h p recs
    need (portFits s { v with f := f } (boundLists v)) .tooLong
    let s := changeTerm p recs (setPort s p { v with f := f })
    done (changeMode p (fnat v.f 0x0010 0) (fnat f 0x0010 0) (changeEnable p (enableOf v.f) (enableOf f) s))

/-! ### BUS.PORT.QUERY, RECOVER, WAKE, statistics (R225, R270, R285, R292) -/

/-- TUCK of a gate in ns. -/
def tuckNs (s : State) (v : Port) (n : Nat) : Nat := (tuckPs s v n + 999) / 1000

/-- BUS.PORT.QUERY: reading clears the port's wake flag. -/
def execBusPortQuery (h : Hdr) (port : Nat) (s : State) : Host.Outcome State Fault Refusal :=
  mbx { op := 0x0602, res := 88 } h s fun s => do
    let p ← busPort port
    let v := portGet s p
    let wake := match p with | .oa => s.keel.wakeA | .ob => s.keel.wakeB
    let (tx, rx, asym) := termsOf s p
    let res := [Int.ofNat v.tec, Int.ofNat v.rec_, Int.ofNat (confCode v.conf), Int.ofNat (fnat v.f 0x0010 0), Int.ofNat v.k,
      Int.ofNat v.rcv.counted, Int.ofNat v.rcv.need, Int.ofNat (bit01 wake)] ++
      (List.range 8).map (fun n => Int.ofNat (tuckNs s v n)) ++
      [tx, rx, asym, Int.ofNat (Config.testTxPath p % 65536), Int.ofNat (Config.testRxPath p % 65536)]
    let k := match p with | .oa => { s.keel with wakeA := false } | .ob => { s.keel with wakeB := false }
    done { s with keel := k } res

/-- BUS.PORT.RECOVER (R285, R288): it ends with OK when the port enters ERROR_ACTIVE, at once where it did so in this cycle
(R287). -/
def execBusPortRecover (h : Hdr) (port : Nat) (s : State) : Host.Outcome State Fault Refusal :=
  mbx { op := 0x0603, pf := true } h s fun s => do
    let p ← busPort port
    let v := portGet s p
    if v.recoveredAt = some s.keel.frc ∧ v.conf = .errorActive then done s
    else do
      need (v.conf == .busOff || v.conf == .stuckOff) .state
      .ok (startRecover p (outstanding h (.portRecover p) s), none)

/-- BUS.WAKE (R225): a live port drives a dominant period at the next idle. -/
def execBusWake (h : Hdr) (port : Nat) (s : State) : Host.Outcome State Fault Refusal :=
  mbx { op := 0x0604, pf := true } h s fun s => do
    let p ← busPort port
    need (portLive s (portGet s p)) .state
    done (setPort s p { portGet s p with wakeReq := true })

/-- BUS.STATS.READ (R270, R292). -/
def execBusStatsRead (h : Hdr) (port : Nat) (clear : Bool) (s : State) : Host.Outcome State Fault Refusal :=
  mbx { op := 0x0610, res := 416 } h s fun s => do
    let p ← busPort port
    let v := portGet s p
    done (if clear then setPort s p { v with ctr := [] } else s)
      ((List.range 52).map (fun i => Int.ofNat (tgetD v.ctr i 0)))

/-- BUS.PORT.STATS.CLEAR. -/
def execBusPortStatsClear (h : Hdr) (port : Nat) (s : State) : Host.Outcome State Fault Refusal :=
  mbx { op := 0x0617, pf := true } h s fun s => do
    let p ← busPort port
    done (setPort s p { portGet s p with ctr := [] })

/-! ### Flows (R249-R256) -/

/-- Rules among the fields of a flow (Table 10-9). -/
def flowRules (tx : Bool) (f : Tbl RVal) : Except Status Unit :=
  if tx then do
    need ((tget f 0xA904).isSome && (tget f 0xA905).isSome) .badArg
    need (fnat f 0xA904 0 != 2 || fnat f 0xA905 0 == 0) .badArg
    need (fnat f 0xA908 1 != 0 || (tget f 0xA909).isSome) .badArg
    need (fnat f 0xA907 2 != 63) .conflict
  else need (fnat f 0xA910 0 != 0 || !(flist f 0xA912).isEmpty) .badArg

/-- Is the flow sent from this port (true) or received? -/
def isTx (v : Port) (n : Nat) : Bool := thas v.tx n

/-- A flow of a port by number. -/
def flowGet (v : Port) (n : Nat) : Option Flow := (tget v.tx n).orElse (fun _ => tget v.rx n)

/-- The head of a flow command: port and flow in range, an existing flow, the caller's. -/
def ownFlow (h : Hdr) (s : State) (port flow : Nat) : Except Status (BusPort × Flow) := do
  let p ← busPort port
  need (decide (1 ≤ flow) && decide (flow ≤ 32767)) .badArg
  let f ← named (flowGet (portGet s p) flow)
  owned h f.owner
  .ok (p, f)

/-- The same for a flow that is not stopped (18 R413). -/
def liveFlow (h : Hdr) (s : State) (port flow : Nat) : Except Status (BusPort × Flow) := do
  let (p, f) ← ownFlow h s port flow
  need (!f.stopped) .state
  .ok (p, f)

/-- A new TX flow joins its port and opens (R249). -/
def createTx (p : BusPort) (n : Nat) (f : Flow) (s : State) : State :=
  let v := portGet s p
  openFlow p n (setPort s p { v with tx := tput v.tx n f })

/-- A new RX flow joins its port; grants are passed on (R257). -/
def createRx (p : BusPort) (n : Nat) (f : Flow) (s : State) : State :=
  let v := portGet s p
  sweepFlow p n (setPort s p { v with rx := tput v.rx n f })

/-- Every frame of a flow fits the lists that bind its port (13 R336). -/
def flowFits (s : State) (v : Port) (f : Flow) : Bool :=
  (boundLists v).all (fitsList s v (fnat f.f 0xA907 2) (flowPs s v f))

/-- BUS.FLOW.CREATE: the queue's endpoint and the fields name the direction (R250; log 47). -/
def execBusFlowCreate (h : Hdr) (recs : List Rec) (s : State) : Host.Outcome State Fault Refusal :=
  mbx { op := 0x0605, inS := false } h s fun s => do
    recsOk flowFields recs
    recsHave flowFields recs
    let f := fapply [] recs
    let p ← busPort (fnat f 0xA901 0)
    let n := fnat f 0xA902 0
    need (n != 32767) .conflict
    let q ← queueFor s h.fn (fnat f 0xA903 0)
    let code := 6 + portNum p
    let tx := qConsumer q.w == code && (qProducer q.w != code || names recs 0xA904)
    need (tx || qProducer q.w == code) .badArg
    need (!((if tx then rxOnly else txOnly).any (fun i => names recs i))) .badArg
    flowRules tx f
    let v := portGet s p
    need (!(thas v.tx n) && !(thas v.rx n)) .conflict
    need (decide (v.tx.length + v.rx.length < 8192)) .noRes
    sideFree s (fnat f 0xA903 0) tx
    let fl : Flow := { owner := h.fn, f := f, refreshAt := s.keel.frc }
    need (!tx || flowFits s v fl) .tooLong
    done (if tx then createTx p n fl s else createRx p n fl s)

/-- Fields that apply from the flow's next packet (Table 10-9). -/
def nextPacket : List Nat := [0xA904, 0xA905, 0xA907, 0xA90B, 0xA90D, 0xA90E]

/-- New fields of a TX flow: those of the next packet wait while a packet is on its way. -/
def setTx (p : BusPort) (n : Nat) (recs : List Rec) (s : State) : State :=
  let later := recs.filter (fun r => nextPacket.contains r.id)
  let s := txMod p n (fun f => { f with
    f := fapply f.f (recs.filter (fun r => !(nextPacket.contains r.id)))
    staged := fapply f.staged later }) s
  applyStaged p n s

/-- BUS.FLOW.SET. -/
def execBusFlowSet (h : Hdr) (port flow : Nat) (recs : List Rec) (s : State) : Host.Outcome State Fault Refusal :=
  mbx { op := 0x0606, inS := false } h s fun s => do
    need (decide (1 ≤ flow) && decide (flow ≤ 32767)) .badArg
    let p ← busPort port
    recsOk flowSetFields recs
    let (_, f) ← liveFlow h s port flow
    recsFree flowSetFields recs
    let v := portGet s p
    let tx := isTx v flow
    need (!((if tx then rxOnly else txOnly).any (fun i => names recs i))) .badArg
    let g := fapply (f.staged.foldl (fun g e => tput g e.1 e.2) f.f) recs
    flowRules tx g
    need (!tx || flowFits s v { f with f := g }) .tooLong
    done (if tx then setTx p flow recs s
      else sweepFlow p flow (setPort s p { v with rx := tput v.rx flow { f with f := g } }))

/-- A stalled flow goes on: its counts of sends start anew (R248, R255). -/
def wakeFlow (p : BusPort) (n : Nat) (aged : Bool) (s : State) : State :=
  txMod p n (fun f => { f with
    stalled := none, agedResume := false, holdoff := none, waitCredit := false, authRun := 0
    head := f.head.map (fun h => { h with sends := 0, firstSent := if aged then none else h.firstSent })
    dupRisk := f.dupRisk || aged }) s

/-- BUS.FLOW.RESUME (R248, R249, R255): after AGED the flow is opened first and its completion is POSSIBLE_DUP. -/
def execBusFlowResume (h : Hdr) (port : Nat) (dropHead : Bool) (flow : Nat) (s : State) : Host.Outcome State Fault Refusal :=
  mbx { op := 0x0607, inS := false } h s fun s => do
    let (p, f) ← liveFlow h s port flow
    need f.stalled.isSome .state
    let s := if dropHead then dropFlowHead p flow s else s
    let s := wakeFlow p flow (f.agedResume && !dropHead) s
    done (if f.agedResume then openFlow p flow s else s)

/-- A flow leaves its port. -/
def removeFlow (p : BusPort) (n : Nat) (s : State) : State :=
  let v := portGet s p
  setPort s p { v with tx := tdel v.tx n, rx := tdel v.rx n }

/-- Does anything but this flow name its queue (03 R86)? -/
def queueShared (s : State) (p : BusPort) (n q : Nat) : Bool := qNamed (removeFlow p n s) q

/-- BUS.FLOW.DESTROY: R86 for the flow's queue (R255; log 48). -/
def execBusFlowDestroy (h : Hdr) (port : Nat) (force : Bool) (flow : Nat) (s : State) : Host.Outcome State Fault Refusal :=
  mbx { op := 0x0608, inS := false } h s fun s => do
    let (p, f) ← ownFlow h s port flow
    let q := flowQueue f
    need (!(queueShared s p flow q)) .busy
    match qGet s q with
    | none => done (removeFlow p flow s) [Int.ofNat f.cancelled]
    | some x =>
      need (force || x.pkts.isEmpty) .busy
      done (freeQueue q (removeFlow p flow s))
        [Int.ofNat (f.cancelled + x.cancelled + (if x.stopped then 0 else acceptedPkts x))]

/-- BUS.FLOW.STATS. -/
def execBusFlowStats (h : Hdr) (port : Nat) (clear : Bool) (flow : Nat) (s : State) : Host.Outcome State Fault Refusal :=
  mbx { op := 0x0609, inS := false, res := 64 } h s fun s => do
    let (p, f) ← ownFlow h s port flow
    let v := portGet s p
    let zero := fun (f : Flow) => { f with ctr := [] }
    let s := if clear then setPort s p { v with tx := tmod v.tx flow zero, rx := tmod v.rx flow zero } else s
    done s ((List.range 8).map (fun i => Int.ofNat (tgetD f.ctr i 0)))

/-! ### Message buffers (R260) -/

/-- MB_FIELDS: DKIND, DST, CLS, FLOW, FIXED_URG, AUTH in range; class 63 and FLOW 32,767 belong to the engine. -/
def mbFieldsOk (l : List Nat) : Except Status Unit :=
  match l with
  | [k, d, c, n, u, a] => do
    need (decide (k < 3) && (k != 2 || d == 0) && decide (2 ≤ c) && decide (c ≤ 63) && decide (n ≤ 32767) &&
      decide (32 ≤ u) && decide (u ≤ 1023) && decide (a < 2)) .badArg
    need (c != 63 && n != 32767) .conflict
  | _ => .error .badArg

/-- A TX buffer with MB_FIELDS; the SEQ state of its flow stays while flow and destination do (R249). -/
def mbWith (l : List Nat) (m : MsgBuf) : MsgBuf :=
  let x := { m with dkind := l.getD 0 0, dst := l.getD 1 0, cls := l.getD 2 2, flow := l.getD 3 0, urg := l.getD 4 512,
                    auth := l.getD 5 0 == 1 }
  { x with opened := m.opened && x.flow == m.flow && x.dst == m.dst && x.dkind == m.dkind && x.auth == m.auth }

/-- The caller may claim or hold buffer `n` of a port. -/
def mbClaim (h : Hdr) (v : Port) (n : Nat) : Except Status (Option MsgBuf) := do
  need (decide (n < 64)) .badArg
  match tget v.mbs n with
  | some m => do
    need (m.owner == h.fn) .conflict
    need m.pend.isNone .busy
    .ok (some m)
  | none => .ok none

/-- BUS.MB.SET: it claims the buffer, with one on-die cell of the caller's quota, and sets it. -/
def execBusMbSet (h : Hdr) (port mb : Nat) (recs : List Rec) (s : State) : Host.Outcome State Fault Refusal :=
  mbx { op := 0x060A } h s fun s => do
    let p ← busPort port
    recsOk mbFields recs
    let v := portGet s p
    let old ← mbClaim h v mb
    let g := fapply [] recs
    let tx ← match fopt g 0x0011, old with
      | some d, _ => .ok (d == 0)
      | none, some m => .ok m.tx
      | none, none => .error .badArg
    let kept : MsgBuf := match old with
      | some m => if m.tx == tx then m else { owner := h.fn, tx := tx, shaper := none }
      | none => { owner := h.fn, tx := tx }
    let fresh := match old with | some m => m.tx != tx | none => true
    need (tx || !(names recs 0x0012)) .badArg
    need (!(tx && fresh && !(names recs 0x0012))) .badArg
    if names recs 0x0012 then mbFieldsOk (flist g 0x0012) else .ok ()
    let m := if names recs 0x0012 then mbWith (flist g 0x0012) kept else kept
    let q ← match old with
      | some _ => .ok s.qm
      | none => match mbTake h.fn (mbNum p mb) s.qm with
        | some q => .ok q
        | none => .error .noRes
    done (setPort { s with qm := q } p { v with mbs := tput v.mbs mb m })

/-- A buffer that the caller holds. -/
def ownMb (h : Hdr) (v : Port) (n : Nat) : Except Status MsgBuf := do
  need (decide (n < 64)) .badArg
  let m ← named (tget v.mbs n)
  owned h m.owner
  .ok m

/-- A message buffer's frame takes its SEQ: FLOW 0 frames from the port's one counter (R239). -/
def loadMb (p : BusPort) (n : Nat) (m : MsgBuf) (h : Hdr) (payload : List Byte) (s : State) : State :=
  let v := portGet s p
  let seq := if m.flow = 0 then v.flow0 else m.seq
  let m' := { m with full := true, payload := payload, pend := some h, holdoff := none, lastNak := 0
                     head := some { seq := seq, first := true, last := true, len := payload.length }
                     seq := if m.flow = 0 then m.seq else (m.seq + 1) % 65536
                     epochUsed := m.epochUsed + bit01 (m.auth && m.flow != 0) }
  setPort s p { v with mbs := tput v.mbs n m', flow0 := if m.flow = 0 then (v.flow0 + 1) % 65536 else v.flow0
                       epochUsed0 := v.epochUsed0 + bit01 (m.flow == 0) }

/-- A flow whose SEQ state the sender does not hold yet is opened first (R249, R260). -/
def openMb (p : BusPort) (n : Nat) (s : State) : State :=
  let v := portGet s p
  match tget v.mbs n with
  | none => s
  | some m =>
    if m.flow = 0 || m.opened then s
    else if m.dkind != 0 then setPort s p { v with mbs := tput v.mbs n { m with opened := true } }
    else mbSendOpen p n (setPort s p { v with mbs := tput v.mbs n { m with opening := true, openId := v.nextOpen }
                                              nextOpen := (v.nextOpen + 1) % 65536 })

/-- BUS.MB.SEND: one frame, which goes until it is ACKed or stalls. -/
def execBusMbSend (h : Hdr) (port mb len : Nat) (payload : List Byte) (s : State) : Host.Outcome State Fault Refusal :=
  mbx { op := 0x060B } h s fun s => do
    let p ← busPort port
    need (decide (len ≤ 64) && payload.length == len) .badArg
    let v := portGet s p
    let m ← ownMb h v mb
    need m.tx .state
    need m.pend.isNone .busy
    need ((boundLists v).all (fitsList s v m.cls (framePs s v false len m.auth))) .tooLong
    .ok (openMb p mb (loadMb p mb m h payload (outstanding h (.mbSend p mb) s)), none)

/-- BUS.MB.READ: the frame of a FULL RX buffer, which becomes empty. -/
def execBusMbRead (h : Hdr) (port mb : Nat) (s : State) : Host.Outcome State Fault Refusal :=
  mbx { op := 0x060C } h s fun s => do
    let p ← busPort port
    let v := portGet s p
    let m ← ownMb h v mb
    need (!m.tx && m.full) .state
    let n := 22 + m.payload.length
    need (decide (n ≤ 24) || decide (n ≤ h.room)) .badArg
    match m.bus with
    | none => .error .state
    | some b =>
      let res := [Int.ofNat b.src, Int.ofNat b.flow, Int.ofNat b.seq, Int.ofNat m.payload.length, b.stamp] ++
        m.payload.map (fun x => Int.ofNat x.toNat)
      done (setPort s p { v with mbs := tput v.mbs mb { m with full := false, payload := [], bus := none } }) res

/-- BUS.MB.RELEASE. -/
def execBusMbRelease (h : Hdr) (port mb : Nat) (s : State) : Host.Outcome State Fault Refusal :=
  mbx { op := 0x060D } h s fun s => do
    let p ← busPort port
    let v := portGet s p
    let m ← ownMb h v mb
    need m.pend.isNone .busy
    done (setPort { s with qm := mbReturn h.fn [mbNum p mb] s.qm } p { v with mbs := tdel v.mbs mb })

/-! ### Filters and inspection (R261-R263, R300) -/

/-- The policer and message buffer that an entry names belong to the caller (17 Table 17-9). -/
def filterNames (h : Hdr) (s : State) (v : Port) (f : Tbl RVal) : Except Status Unit := do
  match fopt f 0xAB0E with
  | some n => do
    let x ← named (tget s.sched.policers n)
    owned h x.owner
  | none => .ok ()
  if fnat f 0xAB0C 0 = 1 then do
    let m ← named (tget v.mbs (fnat f 0xAB0D 0))
    owned h m.owner
  else .ok ()

/-- BUS.FILTER.SET: VALID 0 releases the entry; from PISTE entries 0-15 belong to the engine (R300). -/
def execBusFilterSet (h : Hdr) (port entry : Nat) (recs : List Rec) (s : State) : Host.Outcome State Fault Refusal :=
  mbx { op := 0x060E } h s fun s => do
    let p ← busPort port
    need (decide (entry < 1024)) .badArg
    recsOk filterFields recs
    need (decide (16 ≤ entry) || s.eng == .snowplough) .conflict
    let v := portGet s p
    let old := tget v.filters entry
    need (match old with | some x => x.owner == h.fn | none => true) .conflict
    let f := fapply ((old.map (fun x => x.f)).getD []) recs
    if fnat f 0xAB01 0 = 0 then done (setPort s p { v with filters := tdel v.filters entry })
    else do
      filterNames h s v f
      done (setPort s p { v with filters := tput v.filters entry { owner := h.fn, f := f } })

/-- A packet of the inspection queue as the frame it came in. -/
def frameOf (b : BusInfo) (payload : List Byte) : Frame :=
  { urg := b.urg, cls := b.cls, src := b.src, fdf := b.fdf, dkind := b.dkind, dst := b.dst, flow := b.flow, seq := b.seq,
    frag := b.frag, len := payload.length, auth := b.auth, kph := b.kph, hcrcOk := true, bodyOk := true, tagOk := true,
    payload := payload }

/-- The status of a verdict that an RX flow cannot take now. -/
def verdictStatus (reason : Nat) : Status :=
  if reason = 1 then .auth else if reason = 3 then .tooLong else if reason = 7 then .noCredit
  else if reason = 8 then .busy else .state

/-- What a frame that inspection lets through attaches: an authenticated one is held as on its own flow (R74). -/
def inspectInfo (b : BusInfo) (g : Frame) (fl : Flow) (s : State) : PktInfo :=
  { hold := g.auth && !(match qGet s (flowQueue fl) with | some q => qGlideAuth q.w | none => false), bus := some b }

/-- BUS.INSPECT.VERDICT: RX_FLOW 0, TRAVERSE 1, DROP 2 (R263). -/
def execBusInspectVerdict (h : Hdr) (port verdict flow : Nat) (s : State) : Host.Outcome State Fault Refusal :=
  mbx { op := 0x060F, pf := true, inS := false } h s fun s => do
    let p ← busPort port
    need (decide (verdict < 3) && decide (flow ≤ 32767)) .badArg
    let n ← named (fopt (portGet s p).f 0xAC05)
    let q ← queueFor s h.fn n
    let x ← named (qHead q)
    need (!(hasBad x)) .integrity
    let b ← named x.bus
    let f := frameOf b (bytesOf x.cells)
    let seq := [Int.ofNat x.seq]
    if verdict = 2 then done (dropRestOp n s) seq
    else if verdict = 1 then do
      need (travRoom s p f) .busy
      let v := portGet s (otherPort p)
      done (popHead n (setPort s (otherPort p) { v with traverse := v.traverse ++ [{ f := f, recv := b.recvFrc }] })) seq
    else
      let g := { f with flow := flow }
      match judgeFlow s p g with
      | .error r => .error (verdictStatus r)
      | .ok (fl, _) => done (popHead n (commitFlow p g fl (inspectInfo b g fl s) s)) seq

end Sys2Proof.Machine
end

