-- ==== Sys2Proof/Machine/Cells.lean ====
section
/-! DEFINITION. The events of the queue manager (03 R63-R80, R85): cells written and read, DROP_REST, the
rebuilds of a queue and of the free list, and histogram samples. -/

namespace Sys2Proof.Machine

/-- A cell has the bytes that its position asks for (R62). -/
def cellShape (c : CellIn) : Bool :=
  if c.last then decide (1 ≤ c.data.length) && decide (c.data.length ≤ 256) else c.data.length == 256

/-- CELL_WRITE: a producer writes a cell (R63, R68, R70, R71). While the queue is BLOCKED its producer
stalls. -/
def execCellWrite (t q : Nat) (c : CellIn) (s : State) : Host.Outcome State Fault Refusal :=
  ev t s fun s =>
    match qGet s q with
    | none => s
    | some y =>
      if y.stopped || y.blocked || !(cellShape c) then s
      else if c.mismatch then blockQueue q s
      else
        let s := if c.flMismatch && !s.qm.flBlocked then blockFreeList s else s
        if qProducer y.w = 4 then coreCell q c s
        else writeCell q c.first c.last c.err c.bad false c.data {} s

/-! ### Reading (R66, R67, R72, R73, R80) -/

/-- The value of a read that finds nothing to return (R66): PENDING, the link information as it was. -/
def pendingRead (q : Queue) : Queue := { q with lastRead := { q.lastRead with st := 1, stale := false } }

/-- Does the consumer release a cell by reading it? A consumer of the host link, the dispatcher, a port, a check unit,
and an object's own hardware keep the packet until what they make of it is committed (01 R20-R22; log 74). -/
def releasesAtRead (s : State) (n : Nat) (y : Queue) : Bool :=
  [4, 5, 8].contains (qConsumer y.w) && !(sideNamed s n true)

/-- The value that a read of the packet's cell `c` returns, `r` being the cells behind it (R57, R67). -/
def readValue (y : Queue) (p : Pkt) (c : Cell) (r : List Cell) : ReadVal :=
  let later := (r ++ ((y.pkts.drop 1).map (fun p => p.cells)).flatten).map (fun c => c.index)
  { index := c.index, next := later.head?, first := p.released + p.readN == 0
    last := r.isEmpty && p.closed && p.abort.isNone, bytes := c.data.length, seq := p.seq }

/-- The consumer's position moves past a cell that stays in the queue. -/
def passCell (v : ReadVal) (p : Pkt) (y : Queue) : Queue :=
  { y with lastRead := v, pkts := { p with readN := p.readN + 1 } :: y.pkts.drop 1 }

/-- CELL_READ: the consumer reads the next cell, and releases it where its kind does (R66, R67, R72, R80). -/
def execCellRead (t q : Nat) (mismatch : Bool) (s : State) : Host.Outcome State Fault Refusal :=
  ev t s fun s =>
    match qGet s q with
    | none => s
    | some y =>
      if y.stopped then s
      else if y.blocked || y.awaitDrop then qSet s q (pendingRead y)
      else if mismatch then qMod q pendingRead (blockQueue q s)
      else
        match qFirst y with
        | none => qSet s q (qFlag s.keel.frc 1 { y with lastRead := { y.lastRead with stale := true } })
        | some p =>
          match (readable p).drop p.readN with
          | [] => qSet s q (if p.abort.isSome then readMarker p y else pendingRead y)
          | c :: r =>
            if c.bad then badCell q p s
            else if releasesAtRead s q y then releaseCell q (qSet s q { y with lastRead := readValue y p c r })
            else qSet s q (passCell (readValue y p c r) p y)

/-- DROP_REST: the consumer ends its current packet (R73). A packet of a queue whose consumer keeps it until its own
commit leaves with that commit alone (01 R20-R22): of those, HOST_DMA issues it with the packet's output completion (R72,
PACKET_DELIVERY). -/
def execDropRest (t q : Nat) (mismatch : Bool) (s : State) : Host.Outcome State Fault Refusal :=
  ev t s fun s =>
    match qGet s q with
    | none => s
    | some y =>
      if y.stopped || y.blocked || !(releasesAtRead s q y) then s
      else if mismatch then blockQueue q s
      else dropRestOp q s

/-! ### Rebuilds (R77-R79) -/

/-- The entries of a list at the positions named, or at the others. -/
def atPositions {α : Type} (l : List α) (idx : List Nat) (named : Bool) : List α :=
  ((l.zipIdx).filter (fun e => idx.contains e.2 == named)).map (fun e => e.1)

/-- Chains that became the lowest while their queue was BLOCKED are linked (R63, R77). -/
def relinkStreams (q : Nat) (s : State) : State :=
  match s.arr.streams.filter (fun e => outQueue e.2 == some q && !e.2.stopped) with
  | [] => linkCommitted q s
  | l => l.foldl (fun s e => linkReady e.1 64 s) s

/-- The packets of a queue whose journal entries are all intact, `lost` naming by place from the head those that have an
uncorrectable entry whose mirror is lost too (R78). -/
def intactEntries (n : Nat) (y : Queue) (lost : List Nat) (m : Qm) : List JEntry :=
  let gone := (atPositions y.pkts lost true).map (fun p => if p.visible then p.seq else y.seq)
  m.journal.filter (fun e => e.queue == n && !(gone.contains e.seq))

/-- Does the journal restore a packet, cell by cell in its place (R77)? -/
def restored (q : Queue) (es : List JEntry) (p : Pkt) : Bool :=
  p.cells.zipIdx.all (fun e => es.any (fun j =>
    j.cell == e.1.index && j.seq == (if p.visible then p.seq else q.seq) && j.pos == p.released + e.2))

/-- QUEUE_REBUILD_DONE: the queue is relinked from the journal (R77); packets whose entries were lost with their mirror
are counted as lost, and the producer of an open one among them is told (R78). An end of the open packet that came
meanwhile takes place. -/
def execQueueRebuildDone (t q : Nat) (lost : List Nat) (s : State) : Host.Outcome State Fault Refusal :=
  ev t s fun s =>
    match qGet s q with
    | none => s
    | some y =>
      if !y.blocked then s
      else
        let es := intactEntries q y lost s.qm
        let back := fun (p : Pkt) => restored y es p && !((atPositions y.pkts lost true).contains p)
        let gone := y.pkts.filter (fun p => !(back p))
        let openLost := gone.any (fun p => !p.closed)
        let y' := countLoss s.keel.frc gone.length (qFlag s.keel.frc 5 { y with
          blocked := false
          endDue := none
          pkts := y.pkts.filter back
          discard := if openLost then 2 else y.discard
          mode := if openLost then none else y.mode
          awaitDrop := y.awaitDrop && !(lost.contains 0) })
        let s := { s with qm := freeCells (gone.map (fun p => p.cells)).flatten s.qm }
        let s := regrant q (noteDepth q y.blockDepth (qSet s q y'))
        let s := match y.endDue with
          | some r => endOpen q r s
          | none => s
        let s := relinkStreams q s
        if gone.isEmpty then s else raise 0x103 1 (addrQueue q) false s

/-- FREE_LIST_REBUILD_DONE: allocation goes on (R79). -/
def execFreeListRebuildDone (t : Nat) (s : State) : Host.Outcome State Fault Refusal :=
  ev t s fun s =>
    { s with qm := grantWaiters { s.qm with flBlocked := false } }

/-! ### Histograms (R85) -/

/-- One sample of a slot: the bin of its queue's depth or age rises by 1, saturating. -/
def sampleHist (s : State) (r : Hist) : Hist :=
  match qGet s r.queue with
  | none => r
  | some q =>
    let v := if r.age then qAge q s.keel.frc else qDepth q
    let k := r.edges.countP (fun e => decide (e ≤ v))
    { r with bins := listSet r.bins k (satAdd ((r.bins[k]?).getD 0) 1 (2 ^ 32 - 1)) }

/-- HISTOGRAM_SAMPLE: every SAMPLE_INTERVAL each slot takes a sample. -/
def execHistogramSample (t : Nat) (s : State) : Host.Outcome State Fault Refusal :=
  ev t s fun s =>
    if !(inService s) || decide (s.keel.frc < s.qm.sampleAt + s.link.samplingUs * 1000) then s
    else { s with qm := { s.qm with sampleAt := s.keel.frc, hists := tmap s.qm.hists (fun _ r => sampleHist s r) } }

end Sys2Proof.Machine
end

