-- ==== Sys2Proof/Machine/Queue.lean ====
section
/-! DEFINITION. The QUEUE commands (17 Table 17-6; 03 R60, R61, R69, R83-R86; 16 R470). -/

namespace Sys2Proof.Machine

/-- A queue that a command names: its number is in range (E_BADARG), it exists (E_STATE) and belongs to the
caller (E_NOPERM) (R397). -/
def ownQueue (h : Hdr) (s : State) (n : Nat) : Except Status Queue := do
  need (decide (n < 32768)) .badArg
  let q ← named (qGet s n)
  owned h (qFn q.w)
  .ok q

/-- A queue that a command changes, which R413 refuses once it is stopped. -/
def liveQueue (h : Hdr) (s : State) (n : Nat) : Except Status Queue := do
  let q ← ownQueue h s n
  need (!q.stopped) .state
  .ok q

/-- The number of a new queue: the one named, or the lowest free (R60). -/
def newQueue (s : State) (q : Option Nat) : Except Status Nat :=
  match q with
  | some n => if thas s.qm.queues n then .error .conflict else .ok n
  | none =>
    match tfree s.qm.queues 0 32768 with
    | some n => .ok n
    | none => .error .noRes

/-- QUEUE.CREATE (R60, R61, R68). -/
def execQueueCreate (h : Hdr) (q : Option Nat) (d : QWords) (s : State) : Host.Outcome State Fault Refusal :=
  mbx { op := 0x0301 } h s fun s => do
    need (match q with | some n => decide (n < 32768) | none => true) .badArg
    need (qConfigOk d) .badArg
    need (h.warden || qFn d == h.fn) .noPerm
    need (fnExists s (qFn d)) .state
    let n ← newQueue s q
    need (decide (minSum s.qm (qFn d) none + qMin d ≤ quotaOf s.qm (qFn d))) .noRes
    done (regrant n (qSet s n { w := d })) [Int.ofNat n]

/-- The words that MASK selects replace the queue's (R61). -/
def mergeWords (mask : Nat) (old new : QWords) : QWords :=
  { config := if bitOf mask 0 then new.config else old.config
    endpoints := if bitOf mask 1 then new.endpoints else old.endpoints
    minCells := if bitOf mask 2 then new.minCells else old.minCells
    maxCells := if bitOf mask 3 then new.maxCells else old.maxCells
    grant := if bitOf mask 4 then new.grant else old.grant
    wmHigh := if bitOf mask 5 then new.wmHigh else old.wmHigh
    wmLow := if bitOf mask 6 then new.wmLow else old.wmLow }

/-- Seven words of zeros. -/
def zeroWords : QWords := ⟨0, 0, 0, 0, 0, 0, 0⟩

/-- ONDIE_ONLY has been set: the credit that spill cells back is backed by free on-die cells from now on, and where those
do not suffice it returns to the pool, so that the producer waits for on-die cells (R59; DESIGN CHOICE, log 75). -/
def dieOnly (n : Nat) (s : State) : State :=
  match qGet s n with
  | none => s
  | some q =>
    if !(qOnDie q.w) || q.creditSpill = 0 then s
    else
      let k := min q.creditSpill s.qm.onDieFree
      let m := { s.qm with onDieFree := s.qm.onDieFree - k, spillFree := s.qm.spillFree + q.creditSpill }
      { s with qm := { m with queues := tput m.queues n { q with credit := q.credit - (q.creditSpill - k), creditSpill := 0 } } }

/-- The W1C flags that a clear through `mask` leaves: those not named, and those that hardware set in this very cell
cycle (R12). -/
def flagsLeft (frc mask : Nat) (q : Queue) : Nat :=
  (List.range 8).foldl (fun v i =>
    if bitOf q.status i && (!(bitOf mask i) || flagFresh q frc i) then v + 2 ^ i else v) 0

/-- A crossing of this very cycle counts 1 after the acknowledge, and the re-armed watermark `i` (3 or 4) raises a new
notice at once (R83). -/
def rearm (n mask i : Nat) (s : State) : State :=
  match qGet s n with
  | none => s
  | some q =>
    if !(bitOf mask i && flagFresh q s.keel.frc i) then s
    else event (qFn q.w) 0x0301 [n, if i = 3 then 0 else 1, 0, qDepth q, 1]
      (qSet s n (if i = 3 then { q with wmHighN := 1 } else { q with wmLowN := 1 }))

/-- QUEUE.SET (R61, R69). -/
def execQueueSet (h : Hdr) (q mask : Nat) (d : QWords) (s : State) : Host.Outcome State Fault Refusal :=
  mbx { op := 0x0302 } h s fun s => do
    need (decide (mask < 128) && decide (q < 32768) && qReservedOk (mergeWords mask zeroWords d)) .badArg
    let x ← ownQueue h s q
    let w := mergeWords mask x.w d
    need (qConfigOk w) .badArg
    need (!x.stopped) .state
    need (qFn w == qFn x.w) .state
    need (decide (minSum s.qm (qFn w) (some q) + qMin w ≤ quotaOf s.qm (qFn w)) || decide (qMin w ≤ qMin x.w)) .noRes
    let moved := qProducer w != qProducer x.w || qConsumer w != qConsumer x.w
    need (!moved || !(qNamed s q || (qOpen x).isSome)) .busy
    done (regrant q (dieOnly q (qSet s q { x with w := w })))

/-- The descriptor of Table 3-1, field by field (R61). -/
def descriptor (q : Queue) : List Int :=
  [Int.ofNat q.w.config.toNat, Int.ofNat q.w.endpoints.toNat, Int.ofNat q.w.minCells.toNat,
   Int.ofNat q.w.maxCells.toNat, Int.ofNat q.w.grant.toNat, Int.ofNat q.w.wmHigh.toNat, Int.ofNat q.w.wmLow.toNat,
   Int.ofNat (headIndex q), Int.ofNat (tailIndex q), Int.ofNat (qDepth q), Int.ofNat (qVisible q), Int.ofNat q.credit,
   Int.ofNat (statusWord q), Int.ofNat q.wmHighN, Int.ofNat q.wmLowN, Int.ofNat q.loss, Int.ofNat q.seq]

/-- QUEUE.QUERY. -/
def execQueueQuery (h : Hdr) (q : Nat) (s : State) : Host.Outcome State Fault Refusal :=
  mbx { op := 0x0303, res := 64 } h s fun s => do
    let x ← ownQueue h s q
    done s (descriptor x)

/-- QUEUE.DESTROY (R86): the packets that hold accepted work and those that a stop cancelled (R413) are
counted. -/
def execQueueDestroy (h : Hdr) (q : Nat) (force : Bool) (s : State) : Host.Outcome State Fault Refusal :=
  mbx { op := 0x0304 } h s fun s => do
    let x ← ownQueue h s q
    need (!(qNamed s q)) .busy
    need (force || (x.pkts.isEmpty && x.chains.isEmpty)) .busy
    done (freeQueue q s) [Int.ofNat (if x.stopped then x.cancelled else x.cancelled + acceptedPkts x)]

/-- QUEUE.ACK (R83): the flags named in MASK are cleared, and the watermarks among them counted anew. -/
def execQueueAck (h : Hdr) (q mask : Nat) (s : State) : Host.Outcome State Fault Refusal :=
  mbx { op := 0x0305 } h s fun s => do
    need (decide (mask < 256)) .badArg
    let x ← liveQueue h s q
    let s' := qSet s q { x with
      status := flagsLeft s.keel.frc mask x
      wmHighN := if bitOf mask 3 then 0 else x.wmHighN
      wmLowN := if bitOf mask 4 then 0 else x.wmLowN }
    done (rearm q mask 4 (rearm q mask 3 s')) [Int.ofNat (statusWord x)]

/-- QUEUE.QUOTA.SET (R60, R69). -/
def execQueueQuotaSet (h : Hdr) (fn cells : Nat) (s : State) : Host.Outcome State Fault Refusal :=
  mbx { op := 0x0306, w := true } h s fun s => do
    need (decide (fn < 64) && decide (cells < 2 ^ 32)) .badArg
    need (fnExists s fn) .state
    need (decide (minSum s.qm fn none ≤ cells)) .busy
    let m := { s.qm with quotas := tput s.qm.quotas fn cells }
    done { s with qm := grantWaiters m }

/-- QUEUE.STATS.READ: it clears the peaks, and with CLEAR the counters. -/
def execQueueStatsRead (h : Hdr) (q : Nat) (clear : Bool) (s : State) : Host.Outcome State Fault Refusal :=
  mbx { op := 0x0307, res := 96 } h s fun s => do
    let x ← ownQueue h s q
    let y := { x with peakDepth := qDepth x, peakAge := 0 }
    let y := if clear then
        { y with overrunCells := 0, rewound := 0, aborted := 0, droppedCells := 0, consumerDrops := 0, orphans := 0,
                 secondDiscards := 0, lossBase := x.loss }
      else y
    done (qSet s q y) (queueStats s x)

/-- Strictly ascending. -/
def ascending : List Nat → Bool
  | a :: b :: r => decide (a < b) && ascending (b :: r)
  | _ => true

/-- QUEUE.HIST.SET (R85): METRIC DEPTH 0, AGE 1, NONE 2. -/
def execQueueHistSet (h : Hdr) (q metric : Nat) (edges : List Nat) (s : State) : Host.Outcome State Fault Refusal :=
  mbx { op := 0x0308 } h s fun s => do
    need (decide (metric < 3)) .badArg
    need (metric == 2 || (edges.length == 7 && ascending edges && edges.all (fun e => decide (e < 2 ^ 32)))) .badArg
    let x ← liveQueue h s q
    if metric = 2 then
      match x.histSlot with
      | none => .error .state
      | some k =>
        let s := qSet s q { x with histSlot := none }
        done { s with qm := { s.qm with hists := tdel s.qm.hists k } } [Int.ofNat k]
    else
      need (qHistOk x.w) .state
      match (match x.histSlot with | some k => some k | none => tfree s.qm.hists 0 1024) with
      | none => .error .noRes
      | some k =>
        let s := qSet s q { x with histSlot := some k }
        let r : Hist := { queue := q, age := metric == 1, edges := edges, bins := List.replicate 8 0 }
        done { s with qm := { s.qm with hists := tput s.qm.hists k r } } [Int.ofNat k]

/-- QUEUE.HIST.READ. -/
def execQueueHistRead (h : Hdr) (q : Nat) (clear : Bool) (s : State) : Host.Outcome State Fault Refusal :=
  mbx { op := 0x0309, res := 32 } h s fun s => do
    let x ← liveQueue h s q
    match x.histSlot.bind (fun k => (tget s.qm.hists k).map (fun r => (k, r))) with
    | none => .error .state
    | some (k, r) =>
      let s' := if clear then
          { s with qm := { s.qm with hists := tput s.qm.hists k { r with bins := List.replicate 8 0 } } }
        else s
      done s' (r.bins.map Int.ofNat)

/-- Is a doorbell of a function bound to a ring? -/
def doorbellBound (s : State) (fn db : Nat) : Bool :=
  s.qm.queues.any (fun e => qFn e.2.w == fn &&
    ((match e.2.sub with | some r => r.doorbell == db | none => false) ||
     (match e.2.del with | some r => r.doorbell == db | none => false)))

/-- The fields of a ring to bind are in range (R391, R470). -/
def ringArgsOk (fn : Nat) (a : RingArgs) : Bool :=
  decide (a.doorbell < 8192) && decide (6 ≤ a.log2) && decide (a.log2 ≤ 16) && decide (a.vector < vectorsOf fn) &&
  decide (a.gather < 2) && decide (a.batch < 2) && a.addr % 4096 == 0 &&
  (a.side == 0 || (a.gather == 0 && a.batch == 0))

/-- QUEUE.RING.SET (16 R470, R385): it binds or unbinds the ring of one side. -/
def execQueueRingSet (h : Hdr) (a : RingArgs) (s : State) : Host.Outcome State Fault Refusal :=
  mbx { op := 0x030A } h s fun s => do
    need (decide (a.side < 2) && (a.addr == 0 || ringArgsOk h.fn a)) .badArg
    let x ← ownQueue h s a.queue
    need (if a.side = 0 then qProducer x.w == 1 else qConsumer x.w == 2) .badArg
    need (!x.stopped) .state
    let bound := if a.side = 0 then x.sub else x.del
    if a.addr = 0 then do
      need bound.isSome .state
      let s := if a.side = 0 then flushBatch a.queue s else s
      done (qMod a.queue (fun x => if a.side = 0 then { x with sub := none } else { x with del := none }) s)
    else do
      need (!(doorbellBound s h.fn a.doorbell)) .conflict
      need bound.isNone .busy
      let r : DRing := { doorbell := a.doorbell, log2 := a.log2, vector := a.vector, gather := a.gather == 1,
                         batch := a.batch == 1, addr := a.addr }
      done (qSet s a.queue (if a.side = 0 then { x with sub := some r } else { x with del := some r }))

end Sys2Proof.Machine
end

