-- ==== Sys2Proof/Machine/SegOps.lean ====
section
/-! DEFINITION. What the rules of segments share (12): bridges and their standby, anchors, heartbeats, global operations
and barriers. -/

namespace Sys2Proof.Machine

/-! ### Anchors and bridges (R304, R305, R308-R310) -/

/-- Does a port act as primary of its segment (R305, R309)? -/
def actingPrimary (v : Port) : Bool := anchorRole v == 1 || (anchorRole v == 2 && v.anchor.acting)

/-- The anchor of a port changed. -/
def anchorMod (p : BusPort) (g : Anchor → Anchor) (s : State) : State :=
  let v := portGet s p
  setPort s p { v with anchor := g v.anchor }

/-- A bridge whose down port is a secondary that does not act is in standby (R305). -/
def settleTraverse (s : State) : State :=
  let d := portGet s (downPort s)
  { s with bus := { s.bus with travActive := traverseOn s && (anchorRole d != 2 || d.anchor.acting) } }

/-- PARTNER of a port's anchor. -/
def partnerOf (v : Port) : Option Nat := fopt v.anchor.f 0xC403

/-- BUS_ANCHOR with a kind. -/
def anchorEvent (p : BusPort) (kind : Nat) (s : State) : State :=
  event 0 0x0604 [Int.ofNat (portNum p), Int.ofNat kind, Int.ofNat (nodeOf p (portGet s p))] s

/-- The anchor's partner is silent: ANCHOR_LINK, 0x305 (R308). -/
def setLink (p : BusPort) (s : State) : State :=
  if (portGet s p).anchor.link then s
  else anchorEvent p 2 (raise 0x305 1 (addrPort (portNum p)) true (anchorMod p (fun a => { a with link := true }) s))

/-- The partner is heard. -/
def clearLink (p : BusPort) (s : State) : State :=
  if (portGet s p).anchor.link then endCond 0x305 (anchorMod p (fun a => { a with link := false }) s) else s

/-- The takeover of R309. -/
def takeOver (p : BusPort) (s : State) : State :=
  let s := settleTraverse (anchorMod p (fun a => { a with acting := true, checkAt := none }) s)
  anchorEvent p 1 (raise 0x304 1 (addrPort (portNum p)) false s)

/-- An acting secondary yields: standby, and TB moves to the measured TA (R310). -/
def yieldAnchor (p : BusPort) (s : State) : State :=
  let s := settleTraverse (anchorMod p (fun a => { a with acting := false }) s)
  let s := anchorEvent p 4 s
  let d := domNow s .ta - domNow s .tb
  if d = 0 then s else leaderMove .tb d s

/-- The node whose time the engine follows: the anchor that leads the followed domain and is heard (R303, R307). -/
def followsNode (s : State) : Option Nat :=
  let v := portGet s (followPort s)
  let d := s.keel.followed
  if leadsDom s d then none
  else (v.members.find? (fun e =>
    within3ms s (some e.2.frc) &&
    (match d with
     | .ta => bitOf e.2.flags 0 && !(bitOf e.2.flags 1)
     | .tb => bitOf e.2.flags 1))).map (fun e => e.1)

/-! ### Heartbeats (R268, R303) -/

/-- FLAGS of a heartbeat. -/
def hbFlags (s : State) (v : Port) : Nat :=
  bit01 (actingPrimary v) + 2 * bit01 (anchorRole v == 2) + 4 * bit01 (followsNode s).isSome +
    8 * domNum s.keel.followed + 16 * bit01 v.anchor.link

/-- The payload of Table 10-12a. -/
def hbPayload (s : State) (v : Port) : List Byte :=
  let st := servoCode s.keel.ta.st + 4 * servoCode s.keel.tb.st + 16 * (if s.eng == .piste then 2 else 1)
  leBytes 1 0x10 ++ leBytes 1 (hbFlags s v) ++ leBytes 2 ((followsNode s).getD 0) ++ leBytes 2 s.keel.ta.epoch ++
    leBytes 2 s.keel.tb.epoch ++ leBytes 4 v.hbSeq ++ leBytes 1 st ++ leBytes 3 0

/-! ### Global operations (R312-R317) -/

/-- The 24-byte payload of Table 12-7. -/
def gopPayload (o : GlobalOp) : List Byte :=
  leBytes 1 o.msg ++ leBytes 1 (domNum o.dom + 2 * bit01 o.skipLate + 4 * bit01 o.partial_ + 8 * bit01 o.timeout) ++
    leBytes 2 o.opId ++ leBytes 8 o.execNs ++ leBytes 2 o.epoch ++ leBytes 1 o.reqType ++ leBytes 1 0 ++ leBytes 8 o.arg

/-- A frame of flow 32,767, numbered from the counter that the keel holds; it contends once flow 32,767 is open (R313). -/
def sendGop (p : BusPort) (dkind dst : Nat) (o : GlobalOp) (s : State) : State :=
  let v := portGet s p
  if !v.enabled then s
  else
    let seq := match p with | .oa => s.keel.gopSeqA | .ob => s.keel.gopSeqB
    let k := match p with
      | .oa => { s.keel with gopSeqA := (seq + 1) % 65536 }
      | .ob => { s.keel with gopSeqB := (seq + 1) % 65536 }
    let f := { ctlFrame p v 1 0 dkind dst false (gopPayload o) with flow := 32767, seq := seq }
    setPort { s with keel := k } p { v with ctl := v.ctl ++ [f] }

/-- Is a port an acting primary of the root segment, whose prefix has LEN 0? -/
def isRootPort (v : Port) : Bool := fnat v.f 0xC103 0 == 0 && actingPrimary v

/-- The port on which the engine is the root acting primary (R315). -/
def rootPort (s : State) : Option BusPort :=
  if isRootPort s.bus.oa then some .oa else if isRootPort s.bus.ob then some .ob else none

/-- A setting of the domain that either port's anchor gives. -/
def domainField (s : State) (id d : Nat) : Nat :=
  match fopt s.bus.oa.anchor.f id with
  | some n => n
  | none => (fopt s.bus.ob.anchor.f id).getD d

/-- EXEC_NS of an instant of a domain. -/
def domNs (t : Ticks) : Nat := (t / tickNs).toNat

/-- The members of a port's segment now (R303). -/
def membersNow (s : State) (p : BusPort) : List Nat :=
  ((portGet s p).members.filter (fun e => within3ms s (some e.2.frc))).map (fun e => e.1)

/-- The expected set of a barrier: the members of every segment that the engine is acting primary of (R318). -/
def expectNow (s : State) : List (BusPort × Nat) :=
  let one := fun (p : BusPort) => if actingPrimary (portGet s p) then (membersNow s p).map (fun n => (p, n)) else []
  one .oa ++ one .ob

/-- A barrier changed. -/
def barrierPut (id : Nat) (b : Barrier) (s : State) : State :=
  { s with bus := { s.bus with barriers := tput s.bus.barriers id b } }

/-- A flow-32,767 broadcast of the root: on the root segment, and down where the engine is an active bridge (R314). -/
def sendDown (p : BusPort) (o : GlobalOp) (s : State) : State :=
  let s := sendGop p 2 0 o s
  if s.bus.travActive && p == upPort s then sendGop (otherPort p) 2 0 o s else s

/-- The operation that the root issues now: OP_ID, the execution time where it has one, the domain and its epoch
(R316, Table 12-6). -/
def rootOp (s : State) (p : BusPort) (msg arg : Nat) (partial_ timeout : Bool) : GlobalOp :=
  let d := s.keel.followed
  let lead := domainField s 0xC406 250 * 1000
  { src := nodeOf p (portGet s p), msg := msg, dom := d, skipLate := false, partial_ := partial_, timeout := timeout,
    opId := s.bus.nextOp, execNs := if msg = 0x1A then 0 else domNs (activeNow s) + lead,
    epoch := (domSet s.keel d).epoch, reqType := 0, arg := arg }

/-- The root issues an operation and takes part in it itself (R315, R316, R318). -/
def issueOp (p : BusPort) (msg arg : Nat) (partial_ timeout : Bool) (s : State) : GlobalOp × State :=
  let o := rootOp s p msg arg partial_ timeout
  let s := { s with bus := { s.bus with nextOp := (s.bus.nextOp + 1) % 65536 } }
  let s := sendDown p o s
  if msg = 0x1A then
    let id := arg % 65536
    let b : Barrier := tgetD s.bus.barriers id {}
    let due := s.keel.frc + domainField s 0xC407 1000 * 1000000
    let b := { b with expect := expectNow s, heard := [], reported := [], partial_ := false, root := true, deadline := due }
    (o, barrierPut id b s)
  else (o, { s with bus := { s.bus with ops := s.bus.ops ++ [{ op := o, port := p }] } })

/-! ### Barriers (R318) -/

/-- The aggregator of a port's segment: its acting primary, as the members' flags tell. -/
def aggregatorOf (s : State) (p : BusPort) : Option Nat :=
  let up := (portGet s p).members.filter (fun e => within3ms s (some e.2.frc) && bitOf e.2.flags 0)
  match up.find? (fun e => !(bitOf e.2.flags 1)) with
  | some e => some e.1
  | none => (up.head?).map (fun e => e.1)

/-- BARRIER_REPORT of one port. -/
def reportOn (id : Nat) (s : State) (p : BusPort) : State :=
  let b : Barrier := tgetD s.bus.barriers id {}
  let v := portGet s p
  if b.reported.contains p || actingPrimary v then s
  else match aggregatorOf s p with
    | none => s
    | some n =>
      let d := s.keel.followed
      let o : GlobalOp :=
        { src := nodeOf p v, msg := 0x1B, dom := d, skipLate := false, partial_ := b.partial_, timeout := false,
          opId := 0, execNs := 0, epoch := (domSet s.keel d).epoch, reqType := 0, arg := id }
      sendGop p 0 n o (barrierPut id { b with reported := b.reported ++ [p] } s)

/-- A barrier after a change: the root releases it once all have reported; an engine that has arrived, with its whole
subtree, reports. -/
def settleBarrier (id : Nat) (s : State) : State :=
  match tget s.bus.barriers id with
  | none => s
  | some b =>
    if !b.expect.isEmpty then s
    else if b.root then
      match rootPort s with
      | some p => (issueOp p 0x1C id b.partial_ false (barrierPut id { b with root := false } s)).2
      | none => s
    else if b.arrived then b.heard.foldl (reportOn id) s
    else s

/-! ### Actions at EXEC_NS (R317, Table 12-8) -/

/-- FLAGS of an operation. -/
def opFlags (o : GlobalOp) : Nat := domNum o.dom + 2 * bit01 o.skipLate + 4 * bit01 o.partial_ + 8 * bit01 o.timeout

/-- BUS_STATE: a port clears TEC, REC and k and integrates. -/
def clearPort (p : BusPort) (s : State) : State :=
  let v := portGet s p
  if v.conf = .stuckOff then setPort s p { v with tec := 0, rec_ := 0, k := 0 }
  else
    let s := if v.conf = .busOff then recoverPort p false s else s
    let w := portGet s p
    let s := setPort s p { w with tec := 0, rec_ := 0, k := 0, conf := .errorActive, integrated := false }
    if w.conf = .errorActive then s else stateEvent p w.conf s

/-- The action of an operation. -/
def actOp (o : GlobalOp) (s : State) : State :=
  match o.msg with
  | 0x19 => event 0 0x0605 [Int.ofNat o.opId, Int.ofNat o.msg, Int.ofNat (opFlags o), Int.ofNat o.epoch, Int.ofNat o.arg] s
  | 0x1D => snapshot o.arg o.opId s
  | 0x1E => if o.arg % 256 = 1 then clearPort .ob (clearPort .oa s) else if o.arg % 256 = 2 then askReset s else s
  | 0x1C =>
    let id := o.arg % 65536
    let s := endLongs (fun _ l => l == .barrier id) (if o.timeout then .timeout else .ok)
      [Int.ofNat (bit01 o.partial_ + 2 * bit01 o.timeout)] s
    { s with bus := { s.bus with barriers := tdel s.bus.barriers id } }
  | _ => s

/-- An operation whose time has come, `late` ns after it where that is not 0: a late one is recorded, and dropped under
SKIP_LATE. -/
def runOp (o : GlobalOp) (late : Nat) (s : State) : State :=
  if late = 0 then actOp o s
  else
    let s := { s with bus := { s.bus with lateOps := s.bus.lateOps ++ [(o.opId, late)] } }
    let s := raise 0x307 1 0 false s
    if o.skipLate then s else actOp o s

/-- Nanoseconds by which the operation's domain is past EXEC_NS, none before it. -/
def opLate (s : State) (o : GlobalOp) : Option Nat :=
  let d := domNow s o.dom - Int.ofNat o.execNs * tickNs
  if d < 0 then none else some (d / tickNs).toNat

/-- A host command that waits for an operation of this kind ends (R315). -/
def answerIssue (o : GlobalOp) (s : State) : State :=
  match s.bus.issues.find? (fun e => e.2.2.1 == o.msg && e.2.2.2.1 == o.arg) with
  | none => s
  | some e =>
    endLongs (fun _ l => l == .globalIssue e.1) .ok [Int.ofNat o.opId, Int.ofNat o.execNs]
      { s with bus := { s.bus with issues := tdel s.bus.issues e.1 } }

/-- A barrier is announced on a port (R318). -/
def announceBarrier (p : BusPort) (id : Nat) (s : State) : State :=
  let b : Barrier := tgetD s.bus.barriers id {}
  let first := b.heard.isEmpty
  let b := { b with heard := if b.heard.contains p then b.heard else b.heard ++ [p]
                    expect := if first then expectNow s else b.expect }
  settleBarrier id (barrierPut id b s)

/-- An operation that arrived on a port: it never acts twice, waits for its time, or acts at once where that has passed. -/
def takeOp (p : BusPort) (o : GlobalOp) (s : State) : State :=
  let key := (o.src, o.opId, o.execNs)
  if o.msg = 0x1A then announceBarrier p (o.arg % 65536) s
  else if s.bus.seenOps.contains key then s
  else
    let s := { s with bus := { s.bus with seenOps := s.bus.seenOps ++ [key] } }
    match opLate s o with
    | some n => runOp o n s
    | none =>
      if 16 ≤ s.bus.ops.length then s
      else { s with bus := { s.bus with ops := s.bus.ops ++ [{ op := o, port := p }] } }

end Sys2Proof.Machine
end

