-- ==== Sys2Proof/Machine/Segments.lean ====
section
/-! DEFINITION. The commands and events of segments, domains and anchor pairs (12 R297, R298, R303-R318; 17 Table 17-9). -/

namespace Sys2Proof.Machine

/-! ### Commands -/

/-- Is the down prefix strictly inside the up port's, and clear of 0xFFF0-0xFFFF (R298)? -/
def travPrefixOk (up down : Port) : Bool :=
  let dl := fnat down.f 0xC103 0
  let dv := fnat down.f 0xC102 0
  let ul := fnat up.f 0xC103 0
  decide (ul < dl) && prefixHas (fnat up.f 0xC102 0) ul dv && !(prefixHas dv dl 0xFFF0)

/-- Does a port have a NODE_ID that is not segment-local? -/
def hasNodeId (v : Port) : Bool :=
  match fopt v.f 0xC101 with
  | some n => !(segLocal n)
  | none => false

/-- BUS.TRAVERSE.SET (R298). -/
def execBusTraverseSet (h : Hdr) (recs : List Rec) (s : State) : Host.Outcome State Fault Refusal :=
  mbx { op := 0x0611, pf := true, inS := false } h s fun s => do
    recsOk travFields recs
    let s := { s with bus := { s.bus with trav := fapply s.bus.trav recs } }
    let ok := travPrefixOk (portGet s (upPort s)) (portGet s (downPort s)) && hasNodeId s.bus.oa && hasNodeId s.bus.ob
    need (!(traverseOn s) || ok) .badArg
    done (settleTraverse s)

/-- BUS.ANCHOR.SET (R304): a new role starts its watch of the partner anew. FAILOVER belongs to the engine, so both ports take
it (01 Table 1-11). -/
def execBusAnchorSet (h : Hdr) (recs : List Rec) (s : State) : Host.Outcome State Fault Refusal :=
  mbx { op := 0x0612, pf := true } h s fun s => do
    recsOk anchorFields recs
    recsHave anchorFields recs
    let p ← busPort (fnat (fapply [] recs) 0xC401 0)
    let v := portGet s p
    let f := fapply v.anchor.f recs
    let role := fnat f 0xC402 0
    need (role == 0 || (fopt f 0xC403).isSome) .badArg
    let fresh : Anchor := { f := f, heardFrc := some s.keel.frc, primRun := v.anchor.primRun }
    let same := role == anchorRole v && fopt f 0xC403 == partnerOf v
    let s := if same then s else clearLink p s
    let a := if same then { v.anchor with f := f } else fresh
    let s := if thas (fapply [] recs) 0xC404 then
        anchorMod (otherPort p) (fun b => { b with f := tput b.f 0xC404 (.num (fnat f 0xC404 0)) }) s
      else s
    done (settleTraverse (anchorMod p (fun _ => a) s))

/-- BUS.ANCHOR.QUERY (R303): the member table. -/
def execBusAnchorQuery (h : Hdr) (port : Nat) (s : State) : Host.Outcome State Fault Refusal :=
  mbx { op := 0x0613 } h s fun s => do
    let p ← busPort port
    let ms := (portGet s p).members.filter (fun e => within3ms s (some e.2.frc))
    let n := 1 + 8 * ms.length
    need (decide (n ≤ 24) || decide (n ≤ h.room)) .badArg
    done s (Int.ofNat ms.length :: ms.flatMap (fun e =>
      [Int.ofNat e.1, Int.ofNat e.2.flags, Int.ofNat e.2.state, Int.ofNat e.2.follows, Int.ofNat ((s.keel.frc - e.2.frc) / 1000)]))

/-- BUS.ANCHOR.TAKEOVER (R311). -/
def execBusAnchorTakeover (h : Hdr) (port : Nat) (s : State) : Host.Outcome State Fault Refusal :=
  mbx { op := 0x0614, pf := true } h s fun s => do
    let p ← busPort port
    let v := portGet s p
    need (anchorRole v == 2 && !(within3ms s (anchorHeard v false))) .state
    done (if v.anchor.acting then s else takeOver p s)

/-- MSGTYPEs that a host may ask for: GLOBAL_BROADCAST, BARRIER, SNAPSHOT, DOMAIN_RESET. -/
def issuable (msg : Nat) : Bool := msg == 0x19 || msg == 0x1A || msg == 0x1D || msg == 0x1E

/-- A GOP_REQUEST goes to the root's acting primary: ROOT_ANCHOR, or the acting secondary that answers for it. -/
def requestTo (s : State) (root : Nat) : Nat :=
  let v := portGet s (followPort s)
  match v.members.find? (fun e => within3ms s (some e.2.frc) && bitOf e.2.flags 0 && bitOf e.2.flags 1) with
  | some e => if (match tget v.members root with | some m => within3ms s (some m.frc) | none => false) then root else e.1
  | none => root

/-- BUS.GLOBAL.ISSUE (R313, R315). -/
def execBusGlobalIssue (h : Hdr) (msg arg : Nat) (s : State) : Host.Outcome State Fault Refusal :=
  mbx { op := 0x0615, pf := true, inS := false } h s fun s => do
    need (issuable msg && decide (arg < 2 ^ 64)) .badArg
    need (gopOpen s) .state
    match rootPort s with
    | some p => do
      need (msg == 0x1A || decide (s.bus.ops.length < 16)) .busy
      let (o, s) := issueOp p msg arg false false s
      done (if msg = 0x1A then settleBarrier (arg % 65536) s else s) [Int.ofNat o.opId, Int.ofNat o.execNs]
    | none => do
      let root := domainField s 0xC405 0
      need (root != 0) .state
      let tag := s.bus.nextReq
      let p := followPort s
      let d := s.keel.followed
      let o : GlobalOp :=
        { src := nodeOf p (portGet s p), msg := 0x18, dom := d, skipLate := false, partial_ := false,
          timeout := false, opId := tag, execNs := 0, epoch := (domSet s.keel d).epoch, reqType := msg, arg := arg }
      let s := sendGop p 0 (requestTo s root) o s
      let s := { s with bus := { s.bus with nextReq := (tag + 1) % 65536
                                            issues := tput s.bus.issues tag (h, msg, arg, s.keel.frc + 10000000) } }
      .ok (outstanding h (.globalIssue tag) s, none)

/-- BUS.BARRIER.ARRIVE (R318): one that comes before the barrier's announcement waits for it. -/
def execBusBarrierArrive (h : Hdr) (barrier : Nat) (s : State) : Host.Outcome State Fault Refusal :=
  mbx { op := 0x0616, pf := true, inS := false } h s fun s => do
    need (decide (barrier < 65536)) .badArg
    let b : Barrier := tgetD s.bus.barriers barrier {}
    .ok (settleBarrier barrier (barrierPut barrier { b with arrived := true } (outstanding h (.barrier barrier) s)), none)

/-! ### Heartbeats (R297, R303, R307-R311) -/

/-- HEARTBEAT_TX: every 1 ms ± 50 µs once the port has integrated (R303). -/
def execHeartbeatTx (t : Nat) (p : BusPort) (s : State) : Host.Outcome State Fault Refusal :=
  ev t s fun s =>
    let v := portGet s p
    let due := match v.hbAt with
      | some x => decide (x + 950000 ≤ s.keel.frc)
      | none => true
    if !(portLive s v) || !due then s
    else
      let b := hbPayload s v
      queueCtl p 1 1 2 0 false b (setPort s p { v with hbSeq := v.hbSeq + 1, hbAt := some s.keel.frc })

/-- What an anchor makes of its partner's heartbeat (R304, R308, R310). -/
def hearPartner (p : BusPort) (hb : Heartbeat) (before : Nat) (s : State) : State :=
  let v := portGet s p
  if anchorRole v = 0 || partnerOf v != some hb.src then s
  else
    let s := clearLink p (anchorMod p (fun a => { a with heardFrc := some s.keel.frc, silent := false, checkAt := none }) s)
    let both := bitOf hb.flags 0 && bitOf hb.flags 1
    let had := bitOf before 0 && bitOf before 1
    if anchorRole v = 1 then
      (if both && !had then anchorEvent p 3 (raise 0x306 1 (addrPort (portNum p)) false s) else s)
    else if v.anchor.acting && decide (3 ≤ v.anchor.primRun) then yieldAnchor p s
    else s

/-- The heartbeats of the configured primary that the port has heard without a break (R307, R310). -/
def countPrimary (p : BusPort) (hb : Heartbeat) (s : State) : State :=
  let v := portGet s p
  if bitOf hb.flags 0 && !(bitOf hb.flags 1) then
    let heard := within3ms s (anchorHeard v false)
    anchorMod p (fun a => { a with primRun := if heard then a.primRun + 1 else 1 }) s
  else s

/-- The authority enrolls a node that has become a member and whose key it does not hold (15 R366). -/
def enrollNew (p : BusPort) (node : Nat) (wasMember : Bool) (s : State) : State :=
  let v := portGet s p
  let held := s.keel.vault.nodeKeys.any (fun k => k.port == p && k.src == node)
  if wasMember || held || thas v.enrolls node || !s.trust.pcbOk || !(isAuthority p v) then s else startEnroll p node 1 s

/-- HEARTBEAT_RX: a heartbeat under the port's own NODE_ID that it did not send is a duplicate ID (R297); any other one
makes its sender a member (R303). -/
def execHeartbeatRx (t : Nat) (p : BusPort) (hb : Heartbeat) (s : State) : Host.Outcome State Fault Refusal :=
  ev t s fun s =>
    let v := portGet s p
    if !(portLive s v) then s
    else if hb.src = nodeOf p v then
      if hb.hbSeq < v.hbSeq then s
      else anchorEvent p 6 (raise 0x308 1 (addrPort (portNum p)) false s)
    else
      let old := tget v.members hb.src
      let was := match old with
        | some m => within3ms s (some m.frc)
        | none => false
      let before := (old.map (fun m => m.flags)).getD 0
      let s := countPrimary p hb s
      let v := portGet s p
      let m : Member := { flags := hb.flags, follows := hb.follows, state := hb.state, frc := s.keel.frc }
      let s := setPort s p { v with members := tput v.members hb.src m }
      let s := hearPartner p hb before s
      let s := if p = followPort s then autoFollow s else s
      enrollNew p hb.src was s

/-- Does a node's heartbeat arrive on a port in this cell cycle, among the rows that wait? It counts as heard (R308; 02 R53). -/
def beats (s : State) (p : BusPort) (node : Heartbeat → Bool) : Bool :=
  s.pending.any (fun c => match c with
    | .heartbeatRx t q hb => decide (t ≤ s.keel.frc) && q == p && node hb
    | _ => false)

/-- Does the partner's heartbeat arrive in this cycle? -/
def partnerBeats (s : State) (p : BusPort) : Bool := beats s p (fun hb => partnerOf (portGet s p) == some hb.src)

/-- PRIMARY_SILENT_SWITCH: the primary has been silent for 3 ms (R307). -/
def execPrimarySilentSwitch (t : Nat) (p : BusPort) (s : State) : Host.Outcome State Fault Refusal :=
  ev t s fun s =>
    if p = followPort s && inService s && !(beats s p (fun hb => bitOf hb.flags 0 && !(bitOf hb.flags 1))) then autoFollow s else s

/-- PARTNER_SILENT: 3 ms without a heartbeat of the partner (R308). -/
def execPartnerSilent (t : Nat) (p : BusPort) (s : State) : Host.Outcome State Fault Refusal :=
  ev t s fun s =>
    let v := portGet s p
    if anchorRole v = 0 || v.anchor.silent || within3ms s v.anchor.heardFrc || partnerBeats s p || !(inService s) then s
    else
      let s := anchorMod p (fun a => { a with silent := true, primRun := 0 }) s
      if anchorRole v = 1 then setLink p s
      else if v.anchor.acting then s
      else anchorMod p (fun a => { a with checkAt := some (s.keel.frc + 2000000) }) s

/-- ANCHOR_TAKEOVER_CHECK: a member that follows the primary keeps the secondary back; else it takes over, or with
FAILOVER HOST says that a takeover is due and counts the host's missing command (R308, R309, R311; 01 R27). -/
def execAnchorTakeoverCheck (t : Nat) (p : BusPort) (s : State) : Host.Outcome State Fault Refusal :=
  ev t s fun s =>
    let v := portGet s p
    let due := match v.anchor.checkAt with
      | some x => decide (x ≤ s.keel.frc)
      | none => false
    if anchorRole v ≠ 2 || !v.anchor.silent || v.anchor.acting || !due || partnerBeats s p then s
    else if v.members.any (fun e => within3ms s (some e.2.frc) && bitOf e.2.flags 2 && some e.2.follows == partnerOf v) then
      anchorMod p (fun a => { a with checkAt := some (s.keel.frc + 1000000) }) (setLink p s)
    else if fnat v.anchor.f 0xC404 0 = 1 then
      anchorEvent p 5 (hostMiss 0 (anchorMod p (fun a => { a with link := true, checkAt := none }) s))
    else takeOver p s

/-- MEMBER_HEARTBEAT_AGE_OUT: a node whose last heartbeat is 3 ms old is no member, no barrier waits for it, and an exchange
of keys with it raises 0x016 at once (R303, R318; 15 R366). -/
def execMemberHeartbeatAgeOut (t : Nat) (p : BusPort) (node : Nat) (s : State) : Host.Outcome State Fault Refusal :=
  ev t s fun s =>
    let v := portGet s p
    match tget v.members node with
    | none => s
    | some m =>
      if within3ms s (some m.frc) || beats s p (fun hb => hb.src == node) then s
      else
        let s := abortEnroll p node (setPort s p { v with members := tdel v.members node })
        let waiting := (s.bus.barriers.filter (fun e => e.2.expect.contains (p, node))).map (fun e => e.1)
        let bs := tmap s.bus.barriers (fun _ b =>
          if b.expect.contains (p, node) then { b with expect := b.expect.filter (· != (p, node)), partial_ := true } else b)
        waiting.foldl (fun s id => settleBarrier id s) { s with bus := { s.bus with barriers := bs } }

/-! ### Global operations and barriers -/

/-- GOP_REQUEST_RX: the root acting primary issues what was asked for (R315). -/
def execGopRequestRx (t : Nat) (p : BusPort) (op : GlobalOp) (s : State) : Host.Outcome State Fault Refusal :=
  ev t s fun s =>
    if !(portLive s (portGet s p)) || !(issuable op.reqType) || (op.reqType != 0x1A && decide (16 ≤ s.bus.ops.length)) then s
    else match rootPort s with
      | none => s
      | some r =>
        let s := (issueOp r op.reqType op.arg false false s).2
        if op.reqType = 0x1A then settleBarrier (op.arg % 65536) s else s

/-- GLOBAL_OP_RX (R314, R315, R317, R318). -/
def execGlobalOpRx (t : Nat) (p : BusPort) (op : GlobalOp) (s : State) : Host.Outcome State Fault Refusal :=
  ev t s fun s => if portLive s (portGet s p) then takeOp p op (answerIssue op s) else s

/-- GLOBAL_OP_EXECUTE: a pending operation whose time has come acts (R317). -/
def execGlobalOpExecute (t : Nat) (src opId : Nat) (s : State) : Host.Outcome State Fault Refusal :=
  ev t s fun s =>
    match s.bus.ops.find? (fun x => x.op.src == src && x.op.opId == opId) with
    | none => s
    | some x =>
      match opLate s x.op with
      | none => s
      | some n => runOp x.op n { s with bus := { s.bus with ops := s.bus.ops.erase x } }

/-- GLOBAL_ISSUE_TIMEOUT: no issue followed within 10 ms (R315). -/
def execGlobalIssueTimeout (t tag : Nat) (s : State) : Host.Outcome State Fault Refusal :=
  ev t s fun s =>
    match tget s.bus.issues tag with
    | none => s
    | some e =>
      if s.keel.frc < e.2.2.2 then s
      else endLongs (fun _ l => l == .globalIssue tag) .timeout [] { s with bus := { s.bus with issues := tdel s.bus.issues tag } }

/-- BARRIER_REPORT_RX at an aggregator (R318). -/
def execBarrierReportRx (t : Nat) (p : BusPort) (src barrier : Nat) (partial_ : Bool) (s : State) :
    Host.Outcome State Fault Refusal :=
  ev t s fun s =>
    match tget s.bus.barriers barrier with
    | none => s
    | some b =>
      if !(b.expect.contains (p, src)) || !(portLive s (portGet s p)) then s
      else settleBarrier barrier
        (barrierPut barrier { b with expect := b.expect.filter (· != (p, src)), partial_ := b.partial_ || partial_ } s)

/-- BARRIER_TIMEOUT: the root releases with TIMEOUT set (R318). -/
def execBarrierTimeout (t barrier : Nat) (s : State) : Host.Outcome State Fault Refusal :=
  ev t s fun s =>
    match tget s.bus.barriers barrier, rootPort s with
    | some b, some p =>
      if b.root && decide (b.deadline ≤ s.keel.frc) then
        (issueOp p 0x1C barrier b.partial_ true (barrierPut barrier { b with root := false } s)).2
      else s
    | _, _ => s

end Sys2Proof.Machine
end

