-- ==== Sys2Proof/Machine/Sched.lean ====
section
/-! DEFINITION. The SCHED commands and the gate lists' boundaries (17 Table 17-10; 13 R321-R337, R339). -/

namespace Sys2Proof.Machine

/-! ### The host link (R320-R324) -/

/-- SCHED.HOST.SET (R322). -/
def execSchedHostSet (h : Hdr) (recs : List Rec) (s : State) : Host.Outcome State Fault Refusal :=
  mbx { op := 0x0701, w := true, inS := false } h s fun s => do
    recsOk hostFields recs
    let f := fapply [] recs
    done { s with sched := { s.sched with wDec := fnat f 0xD101 s.sched.wDec, wAst := fnat f 0xD102 s.sched.wAst } }

/-- The shaper of a function with a rate and a burst; RATE 0 leaves it unshaped (R322, R323). -/
def fnBucket (frc rate burst : Nat) (b : Option Bucket) : Option Bucket :=
  if rate = 0 then none
  else match b with
    | some x => some (retune (refill x frc) rate burst)
    | none => some (newBucket rate burst frc)

/-- SCHED.FN.SET: RESET clears debt (R322, R324). -/
def execSchedFnSet (h : Hdr) (fn : Nat) (reset : Bool) (recs : List Rec) (s : State) : Host.Outcome State Fault Refusal :=
  mbx { op := 0x0702, w := true, inS := false } h s fun s => do
    need (decide (fn < 64)) .badArg
    recsOk fnFields recs
    need (rateOk recs 0xD104) .badArg
    need (fnExists s fn) .state
    let x : FnSched := tgetD s.sched.fns fn {}
    let f := fapply [] recs
    let rate := fnat f 0xD104 ((x.b.map (fun b => b.rate)).getD 0)
    let burst := fnat f 0xD105 x.burst
    let b := fnBucket s.keel.frc rate burst x.b
    let b := if reset then b.map clearDebt else b
    let x := { x with weight := fnat f 0xD103 x.weight, b := b, burst := burst }
    done { s with sched := { s.sched with fns := tput s.sched.fns fn x } }

/-- Bytes of a class, or of a function's share of it, written in the last 100 µs, as bit/s (R321). -/
def rateNow (s : State) (asset : Bool) (fn : Option Nat) : Nat :=
  80000 * (s.sched.window.map (fun e =>
    if e.2.1 == asset && (match fn with | some n => e.2.2.1 == n | none => true) && decide (s.keel.frc < e.1 + 100000) then
      e.2.2.2
    else 0)).sum

/-- The rates and counters of one function. -/
def fnStats (s : State) (fn : Nat) : List Nat :=
  let x : FnSched := tgetD s.sched.fns fn {}
  [rateNow s false (some fn), rateNow s true (some fn), x.bytesDec, x.bytesAst, x.unitsDec, x.unitsAst]

/-- The rates and counters of the classes. -/
def classStats (s : State) : List Nat :=
  [rateNow s false none, rateNow s true none, s.sched.bytesDec, s.sched.bytesAst, s.sched.unitsDec, s.sched.unitsAst]

/-- A function's counters start anew. -/
def zeroFn (x : FnSched) : FnSched := { x with bytesDec := 0, bytesAst := 0, unitsDec := 0, unitsAst := 0 }

/-- SCHED.STATS.READ (R321, R330): a VF sees its own share only. -/
def execSchedStatsRead (h : Hdr) (clear : Bool) (s : State) : Host.Outcome State Fault Refusal :=
  mbx { op := 0x070D, inS := false } h s fun s => do
    let fns := (List.range 64).filter (fnExists s)
    let shares := if h.fn = 0 then classStats s ++ fns.flatMap (fnStats s) else fnStats s h.fn
    let mine := s.sched.policers.filter (fun e => e.2.owner == h.fn)
    let pol := mine.flatMap (fun e => [e.2.conformF, e.2.conformB, e.2.excessF, e.2.excessB])
    let res := shares ++ pol
    need (decide (8 * res.length ≤ 24) || decide (8 * res.length ≤ h.room)) .badArg
    let c := { s.sched with
      fns := tmap s.sched.fns (fun n x => if h.fn = 0 ∨ n = h.fn then zeroFn x else x)
      policers := tmap s.sched.policers (fun _ x =>
        if x.owner = h.fn then { x with conformF := 0, conformB := 0, excessF := 0, excessB := 0 } else x) }
    let c := if h.fn = 0 then { c with bytesDec := 0, bytesAst := 0, unitsDec := 0, unitsAst := 0 } else c
    done (if clear then { s with sched := c } else s) (res.map Int.ofNat)

/-! ### Bus shapers (R323-R327) -/

/-- The shaper a claim takes, where it is new: the one named, or the lowest free one of `top` (R326, R404). -/
def claimNew {α : Type} (t : Tbl α) (top : Nat) (n : Option Nat) : Except Status Nat :=
  match n with
  | some k => .ok k
  | none =>
    match tfree t 0 top with
    | some k => .ok k
    | none => .error .noRes

/-- SCHED.SHAPER.SET: it claims a shaper, or changes one of the caller's. -/
def execSchedShaperSet (h : Hdr) (shaper : Option Nat) (recs : List Rec) (s : State) : Host.Outcome State Fault Refusal :=
  mbx { op := 0x0703, inS := false } h s fun s => do
    need (match shaper with | some n => decide (n < 4096) | none => true) .badArg
    recsOk shaperFields recs
    need (rateOk recs 0xD202) .badArg
    let f := fapply [] recs
    match shaper.bind (tget s.sched.shapers) with
    | some x => do
      need (x.owner == h.fn) .conflict
      let b := retune (refill x.b s.keel.frc) (fnat f 0xD202 x.b.rate) (fnat f 0xD203 x.b.burst)
      let n := shaper.getD 0
      let x := { x with b := b, overhead := fnat f 0xD204 x.overhead }
      done { s with sched := { s.sched with shapers := tput s.sched.shapers n x } } [Int.ofNat n]
    | none => do
      need (names recs 0xD202) .badArg
      let n ← claimNew s.sched.shapers 4096 shaper
      let x : Shaper := { owner := h.fn, b := newBucket (fnat f 0xD202 0) (fnat f 0xD203 16384) s.keel.frc,
                          overhead := fnat f 0xD204 16 }
      done { s with sched := { s.sched with shapers := tput s.sched.shapers n x } } [Int.ofNat n]

/-- A shaper of the caller. -/
def ownShaper (h : Hdr) (s : State) (n : Nat) : Except Status Shaper := do
  need (decide (n < 4096)) .badArg
  let x ← named (tget s.sched.shapers n)
  owned h x.owner
  .ok x

/-- A TX flow (KIND 0) or TX message buffer (KIND 1) of the caller, with its shaper replaced. -/
def bindTo (h : Hdr) (v : Port) (kind id : Nat) (sh : Option Nat) : Except Status Port :=
  if kind = 0 then do
    let f ← named (tget v.tx id)
    owned h f.owner
    need (!f.stopped) .state
    .ok { v with tx := tput v.tx id { f with shaper := sh } }
  else do
    need (decide (id < 64)) .badArg
    let m ← named (tget v.mbs id)
    owned h m.owner
    need m.tx .state
    .ok { v with mbs := tput v.mbs id { m with shaper := sh } }

/-- SCHED.SHAPER.BIND (R326): the first binding fixes the shaper's port. -/
def execSchedShaperBind (h : Hdr) (shaper : Option Nat) (port kind id : Nat) (s : State) : Host.Outcome State Fault Refusal :=
  mbx { op := 0x0704, inS := false } h s fun s => do
    let p ← busPort port
    need (decide (kind < 2)) .badArg
    match shaper with
    | none => do
      let v ← bindTo h (portGet s p) kind id none
      done (setPort s p v)
    | some n => do
      let x ← ownShaper h s n
      need (match x.port with | some q => q == p | none => true) .badArg
      let v ← bindTo h (portGet s p) kind id (some n)
      let s := setPort s p v
      done { s with sched := { s.sched with shapers := tput s.sched.shapers n { x with port := some p } } }

/-- SCHED.SHAPER.RESET (R324): it answers the count before. -/
def execSchedShaperReset (h : Hdr) (shaper : Nat) (s : State) : Host.Outcome State Fault Refusal :=
  mbx { op := 0x0705, inS := false } h s fun s => do
    let x ← ownShaper h s shaper
    let b := refill x.b s.keel.frc
    done { s with sched := { s.sched with shapers := tput s.sched.shapers shaper { x with b := clearDebt b } } } [b.tokens]

/-- Is a shaper bound to a flow or a message buffer? -/
def shaperBound (s : State) (n : Nat) : Bool :=
  let one := fun (v : Port) => v.tx.any (fun e => e.2.shaper == some n) || v.mbs.any (fun e => e.2.shaper == some n)
  one s.bus.oa || one s.bus.ob

/-- SCHED.SHAPER.RELEASE: not while bound, nor while LB_SHAPER names it. -/
def execSchedShaperRelease (h : Hdr) (shaper : Nat) (s : State) : Host.Outcome State Fault Refusal :=
  mbx { op := 0x0706, inS := false } h s fun s => do
    let _ ← ownShaper h s shaper
    let lb := s.arr.streams.any (fun e => e.2.kind == .encode && fopt e.2.f 0x6111 == some shaper)
    need (!(shaperBound s shaper) && !lb) .busy
    done { s with sched := { s.sched with shapers := tdel s.sched.shapers shaper } }

/-! ### Policers (R330) -/

/-- SCHED.POLICER.SET: it claims a policer, or changes one of the caller's. -/
def execSchedPolicerSet (h : Hdr) (policer : Option Nat) (recs : List Rec) (s : State) : Host.Outcome State Fault Refusal :=
  mbx { op := 0x0707, inS := false } h s fun s => do
    need (match policer with | some n => decide (n < 2048) | none => true) .badArg
    recsOk policerFields recs
    let f := fapply [] recs
    match policer.bind (tget s.sched.policers) with
    | some x => do
      need (x.owner == h.fn) .conflict
      let b := retune (refill x.b s.keel.frc) (fnat f 0xD302 x.b.rate) (fnat f 0xD303 x.b.burst)
      let n := policer.getD 0
      done { s with sched := { s.sched with policers := tput s.sched.policers n { x with b := b } } } [Int.ofNat n]
    | none => do
      need (names recs 0xD302) .badArg
      let n ← claimNew s.sched.policers 2048 policer
      let x : Policer := { owner := h.fn, b := newBucket (fnat f 0xD302 0) (fnat f 0xD303 32768) s.keel.frc }
      done { s with sched := { s.sched with policers := tput s.sched.policers n x } } [Int.ofNat n]

/-- Does a valid filter entry name a policer? -/
def policerNamed (s : State) (n : Nat) : Bool :=
  let one := fun (v : Port) => v.filters.any (fun e => fopt e.2.f 0xAB0E == some n)
  one s.bus.oa || one s.bus.ob

/-- SCHED.POLICER.RESET: it refills the bucket; with FORCE it also releases the policer. -/
def execSchedPolicerReset (h : Hdr) (policer : Nat) (force : Bool) (s : State) : Host.Outcome State Fault Refusal :=
  mbx { op := 0x0708, inS := false } h s fun s => do
    need (decide (policer < 2048)) .badArg
    let x ← named (tget s.sched.policers policer)
    owned h x.owner
    need (!(force && policerNamed s policer)) .busy
    let b := refill x.b s.keel.frc
    let full := { x with b := { b with tokens := byteTokens b.burst } }
    let t := if force then tdel s.sched.policers policer else tput s.sched.policers policer full
    done { s with sched := { s.sched with policers := t } }

/-! ### Gates (R331-R337) -/

/-- Offsets from 0 on, strictly ascending and below the cycle. -/
def offsetsOk (cycle : Int) : Int → List Int → Bool
  | _, [] => true
  | last, x :: r => decide (last < x) && decide (x < cycle) && offsetsOk cycle x r

/-- A gate list that Tables 13-4 and 13-5 admit. -/
def gateListOk (s : State) (g : GateList) : Bool :=
  let cyc := if g.base < 3 then decide (65536000 ≤ g.cycle) && decide (g.cycle ≤ 2 ^ 56)
    else decide (1 ≤ g.cycle) && decide (g.cycle ≤ 65535)
  let lines := flLines (flGet s (g.base - 3))
  let fit := g.base < 3 || g.entries.all (fun e => decide (e.frame < 65535) && decide (e.line < lines) && decide (e.phase < 65536))
  decide (g.base < 19) && cyc && decide (1 ≤ g.entries.length) && decide (g.entries.length ≤ 64) &&
  decide (g.fallback < 256) && fit && g.entries.all (fun e => decide (e.mask < 256)) &&
  ((g.entries.head?).map (entryOff s g) == some 0) &&
  offsetsOk (gateCycle s g) (-1) (g.entries.map (entryOff s g))

/-- The gates of a port changed. -/
def gatesMod (p : BusPort) (f : Gates → Gates) (s : State) : State :=
  let v := portGet s p
  setPort s p { v with gates := f v.gates }

/-- The pending list of a port comes into force, and its command ends (R333). -/
def swapList (p : BusPort) (s : State) : State :=
  match (portGet s p).gates.pending with
  | none => s
  | some g => endLongs (fun _ l => l == .gateSet p) .ok [] (gatesMod p (fun x => { x with cur := some g, pending := none }) s)

/-- The list of a port stops: every gate opens and the comparator is free (R333). -/
def stopList (p : BusPort) (s : State) : State :=
  let v := portGet s p
  if !v.gates.pendStop then s
  else
    let s := gatesMod p (fun x => { x with running := false, mask := 255, pendStop := false, cmp := none, fellBack := false }) s
    let cmps := match v.gates.cmp with
      | some i => tdel s.tu.cmps i
      | none => s.tu.cmps
    endLongs (fun _ l => l == .gateStop p) .ok [] { s with tu := { s.tu with cmps := cmps } }

/-- Is a port's running list at the start of a cycle now? -/
def atCycleStart (s : State) (v : Port) : Bool :=
  match v.gates.cur.bind (gatePoint s) with
  | some (x, _) => x == 0
  | none => false

/-- The cycle that a port's running list is in. -/
def cycleNow (s : State) (v : Port) : Int :=
  match v.gates.cur.bind (gatePoint s) with
  | some (_, c) => c
  | none => 0

/-- SCHED.GATE.SET (R332, R333, R336): with no list running the list waits for START; else it is in force from the
next cycle start. -/
def execSchedGateSet (h : Hdr) (port : Nat) (list : GateList) (s : State) : Host.Outcome State Fault Refusal :=
  mbx { op := 0x0709, pf := true, inS := false } h s fun s => do
    let p ← busPort port
    need (gateListOk s list) .badArg
    let v := portGet s p
    need v.gates.pending.isNone .busy
    need (portFits s v [list]) .tooLong
    if v.gates.running && !(atCycleStart s v) then
      let s := gatesMod p (fun x => { x with pending := some list, pendCycle := cycleNow s v }) s
      .ok (outstanding h (.gateSet p) s, none)
    else done (gatesMod p (fun x => { x with cur := some list }) s)

/-- Is a comparator armed with GATE_SET for a port? -/
def gateArmed (s : State) (p : BusPort) : Bool :=
  s.tu.cmps.any (fun e => e.2.armed && e.2.action == 3 && e.2.arg / 256 == portNum p)

/-- The lowest comparator that no function and no list holds. -/
def freeCmp (s : State) : Option Nat :=
  (List.range 64).find? (fun i => match tget s.tu.cmps i with
    | some c => c.owner.isNone && c.gate.isNone
    | none => true)

/-- SCHED.GATE.START (R332). -/
def execSchedGateStart (h : Hdr) (port : Nat) (s : State) : Host.Outcome State Fault Refusal :=
  mbx { op := 0x070A, pf := true, inS := false } h s fun s => do
    let p ← busPort port
    let v := portGet s p
    let g ← named v.gates.cur
    need (!v.gates.running) .state
    need (!(gateArmed s p)) .conflict
    match freeCmp s with
    | none => .error .noRes
    | some i =>
      let s := { s with tu := { s.tu with cmps := tput s.tu.cmps i { gate := some p } } }
      let off := decide (3 ≤ g.base) && (baseNow s g.base).isNone
      let s := gatesMod p (fun x => { x with running := true, cmp := some i, fellBack := off }) s
      let s := if off then event 0 0x0702 [Int.ofNat (portNum p), Int.ofNat (g.base - 3), 1] s else s
      done s [Int.ofNat i]

/-- SCHED.GATE.STOP: the list stops at its next cycle start (R333). -/
def execSchedGateStop (h : Hdr) (port : Nat) (s : State) : Host.Outcome State Fault Refusal :=
  mbx { op := 0x070B, pf := true, inS := false } h s fun s => do
    let p ← busPort port
    let v := portGet s p
    need v.gates.running .state
    need (!v.gates.pendStop) .busy
    let c := if v.gates.pending.isSome then v.gates.pendCycle else cycleNow s v
    let s := gatesMod p (fun x => { x with pendStop := true, pendCycle := c }) s
    let s := outstanding h (.gateStop p) s
    .ok (if atCycleStart s v then stopList p s else s, none)

/-- SCHED.GATE.CLASS (R331, R336): class 63 belongs to the engine (15 R366). -/
def execSchedGateClass (h : Hdr) (port cls : Nat) (gate : Option Nat) (s : State) : Host.Outcome State Fault Refusal :=
  mbx { op := 0x070C, pf := true, inS := false } h s fun s => do
    let p ← busPort port
    need (decide (2 ≤ cls) && decide (cls < 64) && (match gate with | some g => decide (g < 8) | none => true)) .badArg
    need (cls != 63) .conflict
    let v := portGet s p
    let cs := match gate with
      | some g => tput v.gates.classes cls g
      | none => tdel v.gates.classes cls
    let v' := { v with gates := { v.gates with classes := cs } }
    need (portFits s v' (boundLists v)) .tooLong
    done (setPort s p v')

/-- GATE_ENTRY_BOUNDARY: the gate state follows from the base (R332); at a cycle start, a list that waits comes into
force and a stop takes place (R333). -/
def execGateEntryBoundary (t : Nat) (p : BusPort) (s : State) : Host.Outcome State Fault Refusal :=
  ev t s fun s =>
    let v := portGet s p
    match v.gates.cur with
    | none => s
    | some g =>
      if !v.gates.running then s
      else match gatePoint s g with
        | none => s
        | some (_, c) => if v.gates.pendCycle < c then stopList p (swapList p s) else s

/-! ### Latency (R339) -/

/-- SCHED.LATENCY.SET. -/
def execSchedLatencySet (h : Hdr) (q limit : Nat) (s : State) : Host.Outcome State Fault Refusal :=
  mbx { op := 0x070E, inS := false } h s fun s => do
    need (decide (limit < 2 ^ 32)) .badArg
    let x ← liveQueue h s q
    need ([2, 6, 7].contains (qConsumer x.w)) .badArg
    done (qSet s q { x with lat := { x.lat with limit := limit, flag := false, excess := 0 } })

/-- SCHED.LATENCY.READ: the extremes are cleared, with CLEAR everything; ACK arms the notice again, but a flag set in its cycle
stays (03 R83). -/
def execSchedLatencyRead (h : Hdr) (q : Nat) (clear ack : Bool) (s : State) : Host.Outcome State Fault Refusal :=
  mbx { op := 0x070F, inS := false, res := 56 } h s fun s => do
    let x ← liveQueue h s q
    need ([2, 6, 7].contains (qConsumer x.w)) .badArg
    let l := x.lat
    let res := [Int.ofNat l.pkts, Int.ofNat l.sum, Int.ofNat (l.min.getD 0), Int.ofNat l.max, l.slack.getD 0,
                Int.ofNat l.late, Int.ofNat l.excess]
    let l' := { l with min := none, max := 0, slack := none }
    let l' := if clear then { l' with pkts := 0, sum := 0, late := 0, excess := 0 } else l'
    let l' := if ack then { l' with flag := l.flag && l.setAt == some s.keel.frc, excess := 0 } else l'
    done (qSet s q { x with lat := l' }) res

end Sys2Proof.Machine
end

