-- ==== Sys2Proof/Machine/Check.lean ====
section
/-! DEFINITION. The CHECK commands and the queue feed of the general check-value units (14; 17 Table 17-11). -/

namespace Sys2Proof.Machine

/-! ### Fields (R347, Table 14-4) -/

/-- The parameters that CUSTOM takes from the command. -/
def customParams (f : Tbl RVal) : CrcParams :=
  { width := fnat f 0xE403 8, poly := fnat f 0xE404 1, init := fnat f 0xE405 0, refin := fnat f 0xE407 0 == 1,
    refout := fnat f 0xE408 0 == 1, xorout := fnat f 0xE406 0, big := fnat f 0xE409 0 == 1 }

/-- PRESET, by default CRC32C. -/
def unitPreset (f : Tbl RVal) : Nat := fnat f 0xE402 2

/-- The parameters that the next message takes. -/
def unitParams (f : Tbl RVal) : CrcParams :=
  match presetOf (unitPreset f) with
  | some p => { p with big := fnat f 0xE409 (if p.big then 1 else 0) == 1 }
  | none => customParams f

/-- MODE: STRIP? -/
def unitStrip (f : Tbl RVal) : Bool := fnat f 0xE40A 0 == 1

/-- FEED_QUEUE. -/
def unitFeed (u : CheckUnit) : Option Nat := fopt u.f 0xE40B

/-- The fields of CUSTOM. -/
def customFields : List Nat := [0xE403, 0xE404, 0xE405, 0xE406, 0xE407, 0xE408]

/-- CUSTOM has every parameter, and each is below 2^WIDTH with POLY odd (Table 14-4). -/
def customOk (f : Tbl RVal) : Bool :=
  let p := customParams f
  (0xE409 :: customFields).all (thas f) && decide (p.poly < 2 ^ p.width) && p.poly % 2 == 1 &&
  decide (p.init < 2 ^ p.width) && decide (p.xorout < 2 ^ p.width)

/-! ### Messages (R343-R346) -/

/-- A message begins: V is INIT, under the fields as they stand. -/
def unitStart (u : CheckUnit) : CheckUnit :=
  let p := unitParams u.f
  { u with p := p, strip := unitStrip u.f, ctx := { value := p.init, held := [], bytes := 0, open_ := true } }

/-- Bytes fed to an open message; STRIP holds the last ones back (R345). -/
def unitFeedBytes (lastBits : Nat) (data : List Byte) (u : CheckUnit) : CheckUnit :=
  let bytes := (u.ctx.bytes + data.length) % 2 ^ 48
  if u.strip then
    let all := u.ctx.held ++ data
    let k := all.length - valueBytes u.p
    { u with ctx := { u.ctx with value := crcFeed u.p 0 u.ctx.value (all.take k), held := all.drop k, bytes := bytes } }
  else { u with ctx := { u.ctx with value := crcFeed u.p lastBits u.ctx.value data, bytes := bytes } }

/-- The check value of the message fed so far. -/
def unitValue (u : CheckUnit) : Nat := crcFinal u.p u.ctx.value

/-- MATCH: a STRIP message whose held bytes are the check value (R345). -/
def unitMatch (u : CheckUnit) : Bool :=
  u.strip && u.ctx.held.length == valueBytes u.p &&
  decide (leNat (if u.p.big then u.ctx.held.reverse else u.ctx.held) = unitValue u)

/-- The message ends. -/
def unitEnd (u : CheckUnit) : CheckUnit := { u with ctx := { u.ctx with open_ := false } }

/-- The running value is lost: the message ends with a value that nothing states. -/
def unitLose (v : Nat) (u : CheckUnit) : CheckUnit :=
  { u with ctx := { value := v % 2 ^ u.p.width, held := [], bytes := 0, open_ := false } }

/-- The state with unit `n` replaced. -/
def setUnit (n : Nat) (u : CheckUnit) (s : State) : State := { s with checks := tput s.checks n u }

/-! ### Commands -/

/-- A unit number that host software may name: 8 to 23 are the engine's (R348, R352). -/
def unitNum (n : Nat) : Except Status Unit := do
  need (decide (n < 24)) .badArg
  need (decide (n < 8)) .noPerm

/-- A unit of the caller. -/
def ownUnit (h : Hdr) (s : State) (n : Nat) : Except Status CheckUnit := do
  unitNum n
  let u ← named (tget s.checks n)
  owned h u.owner
  .ok u

/-- The unit that CHECK.SET claims or changes (R348, R404). -/
def claimUnit (h : Hdr) (s : State) (unit : Option Nat) : Except Status (Nat × CheckUnit) := do
  let fresh : CheckUnit :=
    { owner := h.fn, f := [], p := unitParams [], strip := false
      ctx := { value := (unitParams []).init, held := [], bytes := 0, open_ := false } }
  match unit with
  | some n => do
    unitNum n
    match tget s.checks n with
    | some u => do
      need (u.owner == h.fn) .conflict
      .ok (n, u)
    | none => .ok (n, fresh)
  | none =>
    match tfree s.checks 0 8 with
    | some n => .ok (n, fresh)
    | none => .error .noRes

/-- The fields of a unit with records applied; those of CUSTOM go with it. -/
def unitFields (f : Tbl RVal) (recs : List Rec) : Tbl RVal :=
  let f := fapply f recs
  if unitPreset f = 0 then f else tfilter f (fun id _ => !(customFields.contains id))

/-- CHECK.SET (R347, R348). -/
def execCheckSet (h : Hdr) (unit : Option Nat) (recs : List Rec) (s : State) : Host.Outcome State Fault Refusal :=
  mbx { op := 0x0801 } h s fun s => do
    recsOk checkFields recs
    let (n, u) ← claimUnit h s unit
    let f := unitFields u.f recs
    need (if unitPreset f = 0 then customOk f else customFields.all (fun id => !(names recs id))) .badArg
    let old := unitFeed u
    match fopt f 0xE40B with
    | some q =>
      if old = some q then done (setUnit n { u with f := f } s) [Int.ofNat n]
      else do
        let x ← queueFor s h.fn q
        need (qConsumer x.w == 9) .badArg
        sideFree s q true
        done (setUnit n { u with f := f } s) [Int.ofNat n]
    | none => done (setUnit n { u with f := f } s) [Int.ofNat n]

/-- The result of CHECK.RUN. -/
def runResult (value : Nat) (u : CheckUnit) (isMatch : Bool) : List Int :=
  [Int.ofNat value, Int.ofNat u.ctx.bytes, if isMatch then 1 else 0]

/-- A message finishes: in APPEND mode its value is written behind the data (R344, R349); a STRIP mismatch is
E_INTEGRITY and carries the value. -/
def finishRun (h : Hdr) (n addr len : Nat) (noAppend : Bool) (u : CheckUnit) (s : State) : State × Option Reply :=
  let v := unitValue u
  let s := setUnit n (unitEnd u) s
  if u.strip then (s, some (if unitMatch u then .ok else .integrity, runResult v u (unitMatch u)))
  else
    let w : HostWrite := { fn := h.fn, addr := addr + len, data := orderBytes u.p v, what := 6, info := [] }
    let s := if noAppend then s else { s with link := { s.link with writes := w :: s.link.writes } }
    (s, some (.ok, runResult v u false))

/-- CHECK.RUN (R341, R345, R346, R349). -/
def execCheckRun (h : Hdr) (unit : Nat) (start finish noAppend : Bool) (lastBits addr : Nat) (data : List Byte)
    (readOk parityOk : Bool) (s : State) : Host.Outcome State Fault Refusal :=
  mbx { op := 0x0802 } h s fun s => do
    need (decide (data.length ≤ 16777216) && decide (lastBits < 8)) .badArg
    let u ← ownUnit h s unit
    need (unitFeed u).isNone .busy
    need (start || u.ctx.open_) .badArg
    let u := if start then unitStart u else u
    need (lastBits == 0 || (finish && !u.strip && !data.isEmpty)) .badArg
    need (!(finish && u.strip && decide (u.ctx.held.length + data.length < valueBytes u.p))) .badArg
    if !readOk || !parityOk then
      let s := if readOk then s else readFailed h.fn s
      let (k, s) := takeFree s
      .ok (setUnit unit (unitLose (Config.freeValue k) u) s, some (.integrity, []))
    else
      let u := unitFeedBytes lastBits data u
      if finish then .ok (finishRun h unit addr data.length noAppend u s)
      else done (setUnit unit u s) (runResult u.ctx.value u false)

/-- CHECK.STATE.READ (R351). -/
def execCheckStateRead (h : Hdr) (unit : Nat) (s : State) : Host.Outcome State Fault Refusal :=
  mbx { op := 0x0803 } h s fun s => do
    let u ← ownUnit h s unit
    need (unitFeed u).isNone .busy
    let c := u.ctx
    done s [Int.ofNat c.value, Int.ofNat (leNat c.held), Int.ofNat c.bytes, Int.ofNat c.held.length,
            if c.open_ then 1 else 0]

/-- CHECK.STATE.WRITE (R351): an open message keeps its parameters, else the fields as they stand count. -/
def execCheckStateWrite (h : Hdr) (unit : Nat) (ctx : CrcCtx) (s : State) : Host.Outcome State Fault Refusal :=
  mbx { op := 0x0804 } h s fun s => do
    let u ← ownUnit h s unit
    need (unitFeed u).isNone .busy
    let u := if u.ctx.open_ then u else { u with p := unitParams u.f, strip := unitStrip u.f }
    need (decide (ctx.value < 2 ^ u.p.width) && decide (ctx.held.length ≤ valueBytes u.p)) .badArg
    done (setUnit unit { u with ctx := ctx } s)

/-- CHECK.RELEASE (R348). -/
def execCheckRelease (h : Hdr) (unit : Nat) (force : Bool) (s : State) : Host.Outcome State Fault Refusal :=
  mbx { op := 0x0805 } h s fun s => do
    let u ← ownUnit h s unit
    need (force || !u.ctx.open_) .busy
    done { s with checks := tdel s.checks unit }

/-! ### The queue feed (R350) -/

/-- CHECK_RESULT (17 Table 17-18). -/
def checkResult (n flags seq value : Nat) (u : CheckUnit) (s : State) : State :=
  event u.owner 0x0801 [Int.ofNat n, Int.ofNat flags, Int.ofNat seq, Int.ofNat value] s

/-- The packet ends in a marker: the message is discarded (R350). -/
def feedAborted (n q seq : Nat) (u : CheckUnit) (s : State) : State :=
  let s := dropRestOp q s
  let (k, s) := takeFree s
  let v := Config.freeValue k % 2 ^ 64
  checkResult n 2 seq v u (setUnit n (unitLose v u) s)

/-- A whole packet is one message (R350). -/
def feedWhole (n q : Nat) (p : Pkt) (u : CheckUnit) (s : State) : State :=
  let u := unitFeedBytes 0 (p.cells.map (fun c => c.data)).flatten (unitStart u)
  let flag := if unitMatch u then 1 else 0
  checkResult n flag p.seq (unitValue u) u (setUnit n (unitEnd u) (popHead q s))

/-- A parity error of the running value ends the message as a check failure (R346). The packet leaves the queue, and its event has
neither MATCH nor a stated value (log 111). -/
def feedSpoilt (n q : Nat) (p : Pkt) (u : CheckUnit) (s : State) : State :=
  let (k, s) := takeFree s
  let v := Config.freeValue k % 2 ^ 64
  checkResult n 0 p.seq v u (setUnit n (unitLose v (unitStart u)) (popHead q s))

/-- CHECK_FEED_PACKET: a unit takes one packet from its FEED_QUEUE. -/
def execCheckFeedPacket (t : Nat) (f : FeedFacts) (s : State) : Host.Outcome State Fault Refusal :=
  evOn (decide (f.unit < 8)) t s fun s =>
    match tget s.checks f.unit with
    | none => s
    | some u =>
      match unitFeed u with
      | none => s
      | some q =>
        match qGet s q with
        | none => s
        | some y =>
          if !(inService s) || y.stopped || y.blocked then s
          else match qHead y with
            | none => s
            | some p =>
              if p.cells.any (fun c => c.bad) then feedAborted f.unit q p.seq (unitStart u) (badCell q p s)
              else if p.abort.isSome then feedAborted f.unit q p.seq (unitStart u) s
              else if p.closed then (if f.parityOk then feedWhole f.unit q p u s else feedSpoilt f.unit q p u s)
              else s

end Sys2Proof.Machine
end

