-- ==== Sys2Proof/Machine/DecodeStream.lean ====
section
/-! DEFINITION. The decode events (07 R160-R177): slice intake, display concealment, LATE_LIMIT, the
concealment unit, repeats of recovery requests, and RECOVER messages received. -/

namespace Sys2Proof.Machine

/-! ### Slice intake (R160, R161, R166, R169) -/

/-- The slice record at the head of a packet (Table 5-8). -/
structure InRec where
  seq     : Nat
  picture : Nat
  slice   : Nat
  result  : Bool
  bytes   : Nat
deriving DecidableEq, Repr

/-- The record of a packet whose first cell is written. -/
def inRec (p : Pkt) : Option InRec :=
  match readable p with
  | [] => none
  | c :: _ => some { seq := leAt c.data 0 4, picture := leAt c.data 4 4, slice := leAt c.data 8 2,
                     result := bitOf (leAt c.data 10 2) 10, bytes := leAt c.data 12 4 }

/-- Bands of a picture of a QUEUE stream. -/
def bandCount (x : Stream) : Nat := (stHeight x + bandLines x - 1) / max 1 (bandLines x)

/-- Lines of band `k`. -/
def bandFirst (x : Stream) (k : Nat) : Nat := k * bandLines x
def bandLen (x : Stream) (k : Nat) : Nat := min (bandLines x) (stHeight x - bandFirst x k)

/-- The bands missing between the last band received and one just received (R169): those in the received
picture, or to the end of the earlier picture and from the start of the received one. -/
def missingBands (x : Stream) (picture slice : Nat) : List (Nat × Nat) :=
  match x.dec.lastBand with
  | none => []
  | some (p, k) =>
    if p = picture then (List.range (slice - (k + 1))).map (fun i => (p, k + 1 + i))
    else (List.range (bandCount x - (k + 1))).map (fun i => (p, k + 1 + i)) ++ (List.range slice).map (fun i => (picture, i))

/-- Packets are missing: their bands are damaged GAP, and whole pictures are lost for the rest (R169). -/
def noteGap (n : Nat) (r : InRec) (s : State) : State :=
  match stGet s n with
  | none => s
  | some x =>
    match x.dec.lastSeq, x.dec.lastBand with
    | some last, some (p, _) =>
      let g := (r.seq + 2 ^ 32 - last) % 2 ^ 32
      if g ≤ 1 then s
      else
        let l := (missingBands x r.picture r.slice).take (g - 1)
        let s := l.foldl (fun s b => damage n 1 b.1 b.2 (bandFirst x b.2) (bandLen x b.2) none s) s
        let left := g - 1 - l.length
        let between := (r.picture + 2 ^ 32 - p) % 2 ^ 32 - 1
        let k := if left = 0 then 0 else min between ((left + bandCount x - 1) / max 1 (bandCount x))
        (List.range k).foldl (fun s i => pictureLost n ((p + 1 + i) % 2 ^ 32) s) s
    | _, _ => s

/-- The job that the intake wrote for a sender's JOB_SEQ. -/
def jobOfSeq (x : Stream) (seq : Nat) : Option Job := x.jobs.find? (fun j => j.sub == seq)

/-- Has a deadline on a fall line plus LATE_LIMIT lines passed (R166)? -/
def pastLimit (s : State) (x : Stream) (fl : Nat) (p : Pos) : Bool := reached s fl p (fnat x.f 0x7218 256)

/-- The packet at the head is dropped, and counted (R161, R166). -/
def dropIntake (n q ctr : Nat) (s : State) : State :=
  let s := stCount n ctr 1 (dropRestOp q s)
  stMod n (fun x => { x with dec := { x.dec with intake := 0 } }) s

/-- The band of the packet at the head is damaged, and the packet leaves (R161). -/
def damageIntake (n q kind : Nat) (x : Stream) (r : InRec) (s : State) : State :=
  let j := jobOfSeq x r.seq
  let s := match j with
    | some j => setJob n j.seq (fun j => { j with st := .waiting, damage := kind, ended := false }) (stopJobRuns n j.seq s)
    | none => s
  let s := damage n kind r.picture r.slice (bandFirst x r.slice) (bandLen x r.slice) j s
  let s := dropRestOp q s
  stMod n (fun x => { x with dec := { x.dec with intake := 0, lastSeq := some r.seq, lastBand := some (r.picture, r.slice) } }) s

/-- The band's job is written at its packet's first cell, or the job that waits for this JOB_SEQ goes on
(R160, R161). -/
def intakeJob (n : Nat) (x : Stream) (r : InRec) (refs : List Nat) (s : State) : State :=
  match jobOfSeq x r.seq with
  | some j => setJob n j.seq (fun j => { j with ended := false, refs := refs }) s
  | none =>
    let s := noteGap n r s
    let first := bandFirst x r.slice
    let count := bandLen x r.slice
    let eop := decide (stHeight x ≤ first + count)
    (addJob n (jobBytes 2 r.picture first count r.slice 0 eop)
      { seq := 0, st := .waiting, picture := r.picture, first := first, count := count, slice := r.slice, eop := eop,
        sub := r.seq, refs := refs, deadline := some (hwDeadline s x r.picture first count), host := false } s).1

/-- The intake takes what it can of the packet at the head of SLICE_QUEUE. -/
def intakePkt (n q : Nat) (x : Stream) (p : Pkt) (r : InRec) (refs : List Nat) (s : State) : State :=
  let first := bandFirst x r.slice
  let dl := hwDeadline s x r.picture first (bandLen x r.slice)
  let again := match x.dec.lastSeq with
    | some l => !(later32 r.seq l)
    | none => false
  if again then (if p.closed then dropIntake n q ctrDup s else s)
  else if r.result then damageIntake n q 9 x r s
  else if x.dec.gaveUp.contains (r.picture, r.slice) then dropIntake n q ctrLateDisc s
  else if (jobOfSeq x r.seq).isNone && pastLimit s x (stFl x) dl then
    dropIntake n q ctrLateDisc (stMod n (fun x => { x with dec := { x.dec with
        gaveUp := x.dec.gaveUp ++ [(r.picture, r.slice)], lastSeq := some r.seq, lastBand := some (r.picture, r.slice) } })
      (damage n 6 r.picture r.slice first (bandLen x r.slice) none (noteGap n r s)))
  else
    let have_ := pktBytes p
    let used := match jobOfSeq x r.seq with | some j => x.dec.bsUsed - j.bsBytes | none => x.dec.bsUsed
    if fnat x.f 0x7209 4194304 < used + have_ then s
    else if (jobOfSeq x r.seq).isNone && !(hasCredit s (jobQueue x) 1) then s
    else if s.eng == .snowplough && !refs.isEmpty then damageIntake n q 5 x r s
    else
      let s := if x.dec.intake = p.seq + 1 then s else intakeJob n x r refs s
      let s := stMod n (fun x => { x with
        jobs := x.jobs.map (fun j => if j.sub == r.seq then { j with bsBytes := have_, whole := p.closed } else j)
        dec := { x.dec with bsUsed := used + have_, intake := if p.closed then 0 else p.seq + 1
                            lastSeq := if p.closed then some r.seq else x.dec.lastSeq
                            lastBand := some (r.picture, r.slice) } }) s
      releaseWaiting (if p.closed then popHead q s else s)

/-- SLICE_INTAKE: the intake of a decode stream with INPUT QUEUE handles the packet at the head of its
queue; `height` is the coded picture height and `refs` the pictures that the bitstream names. -/
def execSliceIntake (t stream height : Nat) (refs : List Nat) (s : State) : Host.Outcome State Fault Refusal :=
  ev t s fun s =>
    match stGet s stream with
    | none => s
    | some x =>
      if x.kind != .decode || fromHost x || x.stopped || !(inService s) then s
      else
        let q := fnat x.f 0x7208 0
        match headWhole q s with
        | (s, none) => s
        | (s, some p) =>
          let x := if 0 < height then { x with dec := { x.dec with height := min height (fnat x.f 0x7206 0) } } else x
          let s := stSet s stream x
          match inRec p, p.abort with
          | some r, none => intakePkt stream q x p r refs s
          | some r, some 4 => damageIntake stream q 3 x r s
          | some r, some 6 => damageIntake stream q 8 x r s
          | some r, some _ =>
            let s := match jobOfSeq x r.seq with
              | some j => setJob stream j.seq (fun j => { j with st := .waiting, ended := true, whole := false })
                  (stopJobRuns stream j.seq s)
              | none => s
            stMod stream (fun x => { x with dec := { x.dec with intake := 0 } }) (dropRestOp q s)
          | none, _ => dropRestOp q s

/-! ### Deadlines (R163, R164, R166) -/

/-- The job of the expected band, and its deadline and fall line, whether or not there is a job (R163). -/
def expectedJob (x : Stream) : Option Job := x.jobs.find? (fun j => j.picture == x.dec.expPic && j.slice == x.dec.expSlice)
def expectedDue (s : State) (x : Stream) : Nat × Pos :=
  match expectedJob x with
  | some j => (jobFl x j, j.deadline.getD (hwDeadline s x j.picture j.first j.count))
  | none => (stFl x, hwDeadline s x x.dec.expPic x.dec.expFirst x.dec.expCount)

/-- The area of the expected band for its display concealment (R164); under HOST it takes FREEZE (R173). -/
def expectedArea (s : State) (x : Stream) : Area :=
  let d := x.dec
  let j := expectedJob x
  { id := d.nextDmg, picture := d.expPic, slice := d.expSlice, first := d.expFirst, count := d.expCount,
    job := match j with | some j => j.seq | none => 2 ^ 32
    kind := 0, mode := if concealMode s x == 3 then 0 else concealMode s x, display := true
    deadline := some (expectedDue s x).2, fl := (expectedDue s x).1, waiting := false
    userTag := match j with | some j => j.userTag | none => 0 }

/-- DISPLAY_CONCEALMENT: the active view has reached the deadline of the expected band and no job of it has
committed, nor commits in this cycle (R164). -/
def execDisplayConcealment (t stream : Nat) (s : State) : Host.Outcome State Fault Refusal :=
  ev t s fun s =>
    match stGet s stream with
    | none => s
    | some x =>
      let due := expectedDue s x
      let inTime := match expectedJob x with | some j => jobCommitDue s stream j.seq | none => false
      if x.kind != .decode || !x.dec.running || x.stopped || !(reached s due.1 due.2 0) || inTime then s
      else
        let a := expectedArea s x
        let last := match expectedJob x with | some j => j.eop | none => decide (stHeight x ≤ a.first + a.count)
        let s := if concealMode s x == 3 then hostMiss x.owner (stCount stream ctrHostMiss 1 s) else s
        takeArea (stMod stream (fun x =>
          let x := expectAfter x a.picture a.slice a.first a.count last
          { x with dec := { x.dec with areas := x.dec.areas ++ [a], nextDmg := a.id + 1
                                       concealed := x.dec.concealed ++ [(a.picture, a.slice)] } })
          (stCount stream ctrConcealed 1 s))

/-- A job of a stream that has not committed LATE_LIMIT lines after its deadline, and does not commit in this cycle. -/
def lateJob (s : State) (n : Nat) (x : Stream) : Option Job :=
  x.jobs.find? (fun j => j.damage == 0 && !(jobCommitDue s n j.seq) &&
    (match j.deadline with | some p => pastLimit s (jobView x j) (jobFl x j) p | none => false))

/-- LATE_LIMIT_EXPIRY: a band has not committed LATE_LIMIT lines after its deadline (R166). -/
def execLateLimitExpiry (t stream : Nat) (s : State) : Host.Outcome State Fault Refusal :=
  ev t s fun s =>
    match stGet s stream with
    | none => s
    | some x =>
      if x.kind != .decode then s
      else
        match lateJob s stream x with
        | none => s
        | some j =>
          let s := stopJobRuns stream j.seq s
          let s := setJob stream j.seq (fun j => { j with st := .waiting, damage := 6 }) s
          let s := stMod stream (fun x => { x with dec := { x.dec with gaveUp := x.dec.gaveUp ++ [(j.picture, j.slice)] } }) s
          damage stream 6 j.picture j.slice j.first j.count (some j) s

/-! ### Concealment (R168-R173) -/

/-- The camera transform that HINT_QUEUE has for a picture: earlier entries are discarded, and one with a reserved field set
gives none (R172; log 99). -/
def takeHint (x : Stream) (picture : Nat) : Nat → State → State × Option (List Int)
  | 0, s => (s, none)
  | k + 1, s =>
    let q := fnat x.f 0x7216 0
    match headWhole q s with
    | (s, none) => (s, none)
    | (s, some p) =>
      let b := (p.cells.map (fun c => c.data)).flatten
      let pic := leAt b 0 4
      if p.abort.isSome then takeHint x picture k (dropRestOp q s)
      else if pic = picture then
        (popHead q s, if leAt b 4 4 == 0 && leAt b 44 20 == 0 then
            some ((List.range 9).map (fun i => signed32 (leAt b (8 + 4 * i) 4))) else none)
      else if later32 picture pic then takeHint x picture k (popHead q s)
      else (s, none)

/-- The mode that an area is concealed in, and the camera of its HINT: a damage still without a verdict takes FREEZE, and a HINT
without an entry MOTION_COPY (R172, R173). -/
def areaMode (n : Nat) (x : Stream) (a : Area) (s : State) : State × Nat × List Int :=
  if a.waiting then (hostMiss x.owner (stCount n ctrHostMiss 1 s), 0, [])
  else if a.mode = 2 then
    match takeHint x a.picture (((qGet s (fnat x.f 0x7216 0)).map (fun y => y.pkts.length + 1)).getD 0) s with
    | (s, some h) => (s, 2, h)
    | (s, none) => (stCount n ctrHintMiss 1 s, 1, [])
  else (s, a.mode, [])

/-- The band that an area belongs to: its job's, or the area itself. -/
def areaBand (x : Stream) (a : Area) : Nat × Nat :=
  match jobGet x a.job with
  | some j => (j.first, j.count)
  | none => (a.first, a.count)

/-- The record of a concealed band (Table 7-4). -/
def areaRecord (x : Stream) (a : Area) (mode : Nat) : BandRec :=
  let (first, count) := areaBand x a
  let repair := !a.display && x.dec.concealed.contains (a.picture, a.slice)
  let dirty := dirtyIn x a.picture first count
  { jobSeq := min a.job (2 ^ 32 - 1), picture := a.picture, slice := a.slice
    flags := 1 + mode * 2 + bit01 repair * 16 + bit01 (decide (0 < dirty)) * 128
    first := first, count := count, damage := a.kind, dirty := dirty, userTag := a.userTag, runNs := 0 }

/-- The job of a damaged band, or a placeholder in its place, commits as concealed (R168). -/
def commitConcealed (n : Nat) (x : Stream) (a : Area) (s : State) : State :=
  let s := stMod n (fun x => { x with
    recon := tput x.recon a.picture (max (tgetD x.recon a.picture 0) (a.first + a.count))
    dec := { x.dec with concealed := x.dec.concealed.filter (fun e => e != (a.picture, a.slice)) } }) s
  match jobGet x a.job with
  | none =>
    releaseWaiting (bandEnd n a.picture (decide (stHeight x ≤ a.first + a.count)) (feedTranscode n a.picture s))
  | some j =>
    let s := removeJob n x j.seq s
    let s := stMod n (fun x => { x with dec := { x.dec with bsUsed := x.dec.bsUsed - j.bsBytes } }) s
    let s := jobCommitted x j .ok (feedTranscode n j.picture s)
    releaseWaiting (bandEnd n j.picture (j.eop || decide (stHeight x ≤ j.first + j.count)) s)

/-- An area is concealed: its pixels go into HBM, the host write and the record follow, and a damaged band's job commits
(R164, R168); of a band under HOST_FILL the host gets only the lines before the area. -/
def concealArea (n : Nat) (x : Stream) (a : Area) (s : State) : State :=
  let s := stMod n (fun x => { x with dec := { x.dec with areas := x.dec.areas.filter (fun b => b.id != a.id) } }) s
  let (s, mode, hint) := areaMode n x a s
  let fmt := fnat (picView x a.picture).f 0x720E 2
  let s := stMod n (concealLines fmt a.picture a.first a.count mode hint) s
  match stGet s n with
  | none => s
  | some y =>
    let (first, count) := areaBand y a
    let v := picView y a.picture
    let lines := if mode = 3 then a.first - first else count
    let noOut := match jobGet y a.job with | some j => j.noOutput | none => false
    let s := emitBand n (areaRecord y a mode) (!noOut) (pixelBytes v lines)
      (outRowsOf v a.picture first lines (decPicOf y a.picture)) a.deadline a.fl s
    if a.display then s else commitConcealed n y a s

/-- CONCEALMENT_DONE: the concealment unit, at 8 Gpixel/s, has finished the area that it works on, one of this stream, and takes
the next (R170). -/
def execConcealmentDone (t stream : Nat) (s : State) : Host.Outcome State Fault Refusal :=
  ev t s fun s =>
    let s := takeArea s
    match concealNow s with
    | none => s
    | some (n, a, begun) =>
      match stGet s n with
      | none => s
      | some x =>
        if n != stream || decide (s.keel.frc < begun + (stWidth x * a.count + 7) / 8) then s
        else takeArea (concealArea n x a { s with arr := { s.arr with concealing := none } })

/-! ### Recovery (R176, R177) -/

/-- RECOVERY_REPEAT: pending requests are repeated every RECOVERY_REPEAT, 0 never. -/
def execRecoveryRepeat (t stream : Nat) (s : State) : Host.Outcome State Fault Refusal :=
  ev t s fun s =>
    match stGet s stream with
    | none => s
    | some x =>
      let ms := fnat x.f 0x721D 50
      if x.kind != .decode || ms = 0 then s
      else
        let due := x.dec.reqs.filter (fun r => decide (r.sentAt + ms * 1000000 ≤ s.keel.frc))
        let s := due.foldl (fun s r => announce stream r true s) s
        stMod stream (fun x => { x with dec := { x.dec with reqs := x.dec.reqs.map (fun r =>
          if r.sentAt + ms * 1000000 ≤ s.keel.frc then { r with sentAt := s.keel.frc } else r) } }) s

/-- The stream and picture of a RECOVER message (Table 7-7); none where it is not one, or has a reserved field set. -/
def parseRecover (b : List Byte) : Option (Nat × Nat) :=
  if b.length = 24 ∧ leAt b 0 1 = 0x20 ∧ leAt b 18 6 = 0 then some (leAt b 2 2, leAt b 4 4) else none

/-- RECOVER_MESSAGE_RX: the engine takes a RECOVER message from RECOVERY_QUEUE and applies it to its encode
stream; a message that names none, or has a reserved field set, is dropped and counted (R177). -/
def execRecoverMessageRx (t queue : Nat) (s : State) : Host.Outcome State Fault Refusal :=
  ev t s fun s =>
    match s.arr.recoverQ with
    | none => s
    | some q =>
      if q != queue || !(inService s) then s
      else match headWhole q s with
      | (s, none) => s
      | (s, some p) =>
        if p.abort.isSome then dropRestOp q s
        else
          let s := popHead q s
          let drop := { s with arr := { s.arr with recoverDrops := s.arr.recoverDrops + 1 } }
          match parseRecover ((p.cells.map (fun c => c.data)).flatten) with
          | none => drop
          | some (n, picture) =>
            match stGet s n with
            | some x => if x.kind == .encode then recoverEncode n picture s else drop
            | none => drop

end Sys2Proof.Machine
end

