-- ==== Sys2Proof/Machine/MbxOps.lean ====
section
/-! DEFINITION. What the mailbox events share (16 R378-R385, R391): which registers answer, MSI-X signalling, the
stop of a request ring, the fetch of requests, and ENABLE. -/

namespace Sys2Proof.Machine

/-- Are the registers of a function there: the link is up, the function exists, and in HALTED it is the PF (19 R441, Table
19-7)? -/
def regLive (s : State) (fn : Nat) : Bool :=
  s.keel.powered && !s.resetN && s.link.up && !s.link.perst && fnExists s fn && (s.eng != .halted || fn == 0)

/-- A mailbox is named by a function, or by the PF with the warden's window (R387). -/
def mbxNamed (fn : Nat) (warden : Bool) : Bool := decide (fn < 64) && (!warden || fn == 0)

/-! ### MSI-X (R391) -/

/-- The vector of a function. -/
def vecGet (s : State) (fn v : Nat) : Vec := tgetD (fnGet s fn).vecs v {}

/-- The state with a vector replaced. -/
def setVec (fn v : Nat) (x : Vec) (s : State) : State :=
  let f := fnGet s fn
  setFn s fn { f with vecs := tput f.vecs v x }

/-- Is the vector masked? -/
def vecMasked (x : Vec) : Bool := bitOf x.row.2.toNat 32

/-- A message of a vector waits for the link, behind the entries it signals; one message signals all of them. -/
def putMsix (fn v : Nat) (s : State) : State :=
  if s.link.compl.contains (.msix fn v) then s
  else { s with link := { s.link with compl := s.link.compl ++ [.msix fn v] } }

/-- An entry has been written to a ring that signals through a vector: a message, or the pending bit of a masked
vector, or a message at the end of the holdoff. -/
def signal (fn v : Nat) (s : State) : State :=
  let x := vecGet s fn v
  if vectorsOf fn ≤ v then s
  else if vecMasked x then setVec fn v { x with pendBit := true } s
  else if (match x.holdEnd with | some e => decide (s.keel.frc < e) | none => false) then setVec fn v { x with due := true } s
  else putMsix fn v s

/-- A mailbox ring signals where INT_EN is set in its base register (Table 16-7). -/
def signalRing (fn : Nat) (base : DWord) (s : State) : State :=
  if bitOf base.toNat 11 then signal fn (base.toNat % 2048) s else s

/-- A message leaves: the holdoff of MBX_INT begins. -/
def sendMsix (fn v : Nat) (s : State) : State :=
  let x := vecGet s fn v
  let hold := (fnGet s fn).mbx.holdoff
  setVec fn v { x with sent := x.sent + 1, holdEnd := if hold = 0 then none else some (s.keel.frc + hold * 1000) } s

/-! ### Rings that stop (R380, R385) -/

/-- MBX_RING_ERROR (17 Table 17-18). -/
def ringEvent (fn code ring index queue : Nat) (s : State) : State :=
  event fn 0x0003 [Int.ofNat code, Int.ofNat ring, Int.ofNat index, Int.ofNat queue] s

/-- A request ring stops: 1 STALE_PHASE, 2 BAD_TAIL, 3 RING_READ_FAILED. -/
def stopRing (fn : Nat) (warden : Bool) (code index : Nat) (s : State) : State :=
  let s := setMbx s fn warden { mbxGet s fn warden with stopped := some code, waiting := [], stale := false }
  let s := setFn s fn (flagSet 3 s.keel.frc { fnGet s fn with ringError := true, ringCode := code })
  raise 0x202 1 (addrFn fn) false (ringEvent fn code (if warden then 1 else 0) index 0 s)

/-! ### Fetching requests (R380, R382, R383) -/

/-- Commands of each family (17 Table 17-1). -/
def familySize : Nat → Nat
  | 1 => 3
  | 2 => 11
  | 3 => 10
  | 4 => 6
  | 5 => 7
  | 6 => 23
  | 7 => 15
  | 8 => 5
  | 9 => 19
  | 10 => 8
  | 11 => 3
  | 12 => 5
  | 15 => 4
  | _ => 0

/-- Does some table list the opcode (17 R395)? -/
def opKnown (op : Nat) : Bool := decide (1 ≤ op % 256) && decide (op % 256 ≤ familySize (op / 256))

/-- The entry has been read: it is fetched, or refused at once where no table lists its opcode (R382). -/
def takeEntry (fn : Nat) (warden : Bool) (e : ReqEntry) (s : State) : State :=
  let m := mbxGet s fn warden
  let head := (m.reqHead + 1) % 65536
  let m := { m with
    reqHead := head, waiting := m.waiting.drop 1, stale := false
    reqPhase := if head % 2 ^ reqLog m = 0 then !m.reqPhase else m.reqPhase }
  if opKnown e.opcode then
    setMbx s fn warden { m with fetched := m.fetched ++
      [{ opcode := e.opcode, tag := e.tag, fence := e.fence, started := false, bad := e.rsvd || (!e.ext && decide (56 < e.len)) }] }
  else respond fn warden { tag := e.tag, status := .badOp, noInt := e.noInt } (setMbx s fn warden m)

/-- The ring's next entry is read; `again` says that it has been read before (R380). -/
def fetchEntry (fn : Nat) (warden again : Bool) (e : ReqEntry) (s : State) : State :=
  let m := mbxGet s fn warden
  if !e.readOk then stopRing fn warden 3 m.reqHead (readFailed fn s)
  else if e.phase != m.reqPhase then
    if again then stopRing fn warden 1 m.reqHead s
    else setMbx s fn warden { m with stale := true, staleAt := s.keel.frc + 1000 }
  else takeEntry fn warden e s

/-- The ring fetches what its doorbell covers, as long as response slots can be reserved. -/
def fetchRing (fn : Nat) (warden : Bool) : Nat → State → State
  | 0, s => s
  | k + 1, s =>
    let m := mbxGet s fn warden
    match m.waiting with
    | [] => s
    | e :: _ =>
      if !(canFetch s fn warden) || m.stale ||
         decide (2 ^ rspLog m - 1 < slotsTaken s fn warden + slotsOf e.opcode) then s
      else fetchRing fn warden k (fetchEntry fn warden false e s)

/-- The ring goes on fetching. -/
def refetch (fn : Nat) (warden : Bool) (s : State) : State :=
  fetchRing fn warden (mbxGet s fn warden).waiting.length s

/-- Both rings of a function go on fetching. -/
def refetchFn (fn : Nat) (s : State) : State :=
  let s := refetch fn false s
  if fn = 0 then refetch 0 true s else s

/-- Memory that the doorbell covers and the row does not give reads as an entry of zeros. -/
def blankEntry : ReqEntry :=
  { opcode := 0, tag := 0, len := 0, ext := false, fence := false, noInt := false, phase := false, rsvd := false, readOk := true }

/-- The doorbell of a request ring: REQ_TAIL is an absolute index (R385). -/
def ringDoorbell (fn : Nat) (warden : Bool) (tail : Nat) (entries : List ReqEntry) (s : State) : State :=
  let m := mbxGet s fn warden
  if !m.ready then setFn s fn { fnGet s fn with drops := (fnGet s fn).drops + 1 }
  else if m.stopped.isSome || tail == m.reqTail then s
  else if 2 ^ reqLog m < (tail + 65536 - m.reqHead) % 65536 then stopRing fn warden 2 tail s
  else
    let k := (tail + 65536 - m.reqTail) % 65536
    let fresh := (entries ++ List.replicate k blankEntry).take k
    refetch fn warden (setMbx s fn warden { m with reqTail := tail, waiting := m.waiting ++ fresh })

/-! ### ENABLE (R378, R391, R392) -/

/-- Is a field of the register a ring's size in its range? -/
def ringLogOk (n : Nat) : Bool := decide (8 ≤ n) && decide (n ≤ 12)

/-- Does a base register name a vector that exists, or none? -/
def baseOk (fn : Nat) (b : DWord) : Bool := !(bitOf b.toNat 11) || decide (b.toNat % 2048 < vectorsOf fn)

/-- The fields of a mailbox admit ENABLE; a warden has no event ring (R387). -/
def enableOk (fn : Nat) (warden : Bool) (m : Mbx) : Bool :=
  ringLogOk (reqLog m) && ringLogOk (rspLog m) && (warden || ringLogOk (evtLog m)) && decide (m.holdoff ≤ 1000) &&
  baseOk fn m.rspBase && (warden || baseOk fn m.evtBase)

/-- The named bits of MBX_REQ_SIZE (Table 16-6). -/
def sizeMask : Word := 0x10FFF

/-- A deferred action of a comparator takes place late, or is dropped (19 R438; 02 R52). -/
def actDeferred (d : Deferred) (s : State) : State :=
  let ns := match baseNow s d.base with
    | some b => baseNs s d.base (b - d.target)
    | none => 0
  let cmps := tmod s.tu.cmps d.cmp (fun c => { c with lateRec := some (d.skip, ns) })
  let s := raise 0x320 (if d.skip then 2 else 1) 0 false { s with tu := { s.tu with cmps := cmps } }
  if d.skip then s else doAction d.cmp d.fn d.action d.arg d.target (some ns) s

/-- The actions that waited for a function's ENABLE. -/
def actAllDeferred (fn : Nat) (s : State) : State :=
  let mine := s.tu.deferred.filter (fun d => d.fn == fn)
  let s := { s with tu := { s.tu with deferred := s.tu.deferred.filter (fun d => d.fn != fn) } }
  mine.foldl (fun s d => actDeferred d s) s

/-- FLR_SUMMARY is the first event on the ring (R394). -/
def flrSummary (fn : Nat) (s : State) : State :=
  match (fnGet s fn).flr with
  | none => s
  | some c =>
    event fn 0x0002 [Int.ofNat (statusCode .cancelled), Int.ofNat c.commands, Int.ofNat c.jobs, Int.ofNat c.packets,
      Int.ofNat c.assets, Int.ofNat c.unreported] (setFn s fn { fnGet s fn with flr := none })

/-- The rings start at index 0 and phase 1; the held responses come first, each with REPLAY. -/
def startRings (fn : Nat) (warden : Bool) (m : Mbx) (s : State) : State :=
  let again := m.held.map (fun r => ComplW.rsp fn warden { r with replay := true })
  let fresh : Mbx :=
    { m with ready := true, reqTail := 0, reqHead := 0, reqPhase := true, waiting := [], stale := false, stopped := none,
             rspTail := 0, rspHead := 0, rspPhase := true, evtTail := 0, evtHead := 0, evtPhase := true, rsp := [], evt := [],
             held := [], evtDropped := 0 }
  let s := setMbx s fn warden fresh
  let s := { s with link := { s.link with compl := s.link.compl ++ again } }
  if warden then s
  else
    let s := flrSummary fn s
    let s := if m.evtDropped = 0 then s else event fn 0x0001 [Int.ofNat m.evtDropped] s
    actAllDeferred fn s

/-- A write of MBX_REQ_SIZE that sets ENABLE: while it is set already nothing changes, else every field takes the
write (R378). In START_HUT no ring is served, so the rings start when the engine leaves it (R388; DEDUCED, log 104). -/
def enableSet (fn : Nat) (warden : Bool) (value : Word) (s : State) : State :=
  let m := mbxGet s fn warden
  if mbxEnable m then s
  else
    let m := { m with size := value &&& sizeMask }
    if enableOk fn warden m then (if s.eng == .startHut then setMbx s fn warden m else startRings fn warden m s)
    else setMbx s fn warden { m with size := m.size &&& 0xFFF }

/-- The rings that were enabled in START_HUT start, and are served from now on (R388). -/
def serveRings (s : State) : State :=
  let start := fun (fn : Nat) (warden : Bool) (s : State) =>
    let m := mbxGet s fn warden
    if mbxEnable m && !m.ready then startRings fn warden m s else s
  (List.range 64).foldl (fun s fn => start fn false s) (start 0 true s)

/-- Responses and events of a ring that the link has not taken yet. -/
def ringWaits (fn : Nat) (warden : Bool) : ComplW → Bool
  | .rsp f w _ => f == fn && w == warden
  | .evt f _ => f == fn && !warden
  | .msix _ _ => false

/-- ENABLE is cleared: MBX_READY goes, nothing further is fetched, and unwritten responses are held (R378). -/
def enableClear (fn : Nat) (warden : Bool) (s : State) : State :=
  let m := mbxGet s fn warden
  if !(mbxEnable m) then s
  else
    let back := complOf s fn warden
    let s := setMbx s fn warden { m with
      size := m.size &&& 0xFFF, ready := false, waiting := [], stale := false, held := m.held ++ back }
    { s with link := { s.link with compl := s.link.compl.filter (fun w => !(ringWaits fn warden w)) } }

/-- A write of MBX_REQ_SIZE with ENABLE clear: the fields take it while ENABLE was clear already (R378). -/
def sizeClear (fn : Nat) (warden : Bool) (value : Word) (s : State) : State :=
  let m := mbxGet s fn warden
  if mbxEnable m then enableClear fn warden s else setMbx s fn warden { m with size := value &&& 0xFFF }

/-! ### Heads (R383, R384) -/

/-- Entries that host software has read leave; EVT_LOST comes before any other event once an entry is free. -/
def headWrite (fn : Nat) (warden : Bool) (value : Word) (s : State) : State :=
  let m := mbxGet s fn warden
  let rh := Word.field value 15 0
  let eh := if warden then m.evtHead else Word.field value 31 16
  let readR := (rh + 65536 - m.rspHead) % 65536
  let readE := (eh + 65536 - m.evtHead) % 65536
  let lost := m.evtDropped
  let m := { m with rspHead := rh, evtHead := eh, rsp := m.rsp.drop readR, evt := m.evt.drop readE }
  let frees := decide (0 < lost) && decide (m.evt.length + evtWaiting s fn < 2 ^ evtLog m)
  let s := setMbx s fn warden (if frees then { m with evtDropped := 0 } else m)
  let s := if frees then event fn 0x0001 [Int.ofNat lost] s else s
  refetch fn warden s

end Sys2Proof.Machine
end

