-- ==== Sys2Proof/Machine/Dev.lean ====
section
/-! DEFINITION. The DEV commands (17 Tables 17-4, 17-4a) and the end of ENGINE.RESET (19 R437). -/

namespace Sys2Proof.Machine

/-- CORES_ONLINE as a mask of the cores that are not OFFLINE (DEDUCED, log 40). -/
def coresOnline (s : State) : Nat :=
  ((List.range 16).map (fun c => if (coreGet s c).st == .offline then 0 else 2 ^ c)).sum

/-- DEV.INFO. -/
def execDevInfo (h : Hdr) (s : State) : Host.Outcome State Fault Refusal :=
  mbx { op := 0x0101, inH := true, core := true } h s fun s =>
    done s [Int.ofNat Config.part, Int.ofNat Config.siliconStep, Int.ofNat (engCode s.eng),
            Int.ofNat (Config.fwVersion s.trust.meas), Int.ofNat (bit01 s.trust.runB), Int.ofNat s.link.numVfs,
            Int.ofNat (coresOnline s), Int.ofNat s.keel.frc]

/-- The value of a key in force; none is all ones. -/
def configValue (s : State) (key : Nat) : Nat :=
  match key with
  | 1 => s.link.spillBytes
  | 2 => s.arr.horizon
  | 3 => s.arr.assetMax
  | 4 => s.asset.hbmStaging
  | 5 => s.arr.recoverQ.getD (2 ^ 64 - 1)
  | 6 => s.link.vfReturn
  | _ => s.link.samplingUs

/-- RECOVERY_QUEUE: a queue of the caller with consumer FIRMWARE, that no other object reads (R177, R469). -/
def setRecoveryQueue (h : Hdr) (s : State) (q : Nat) : Except Status State := do
  need (decide (q < 32768)) .badArg
  let y ← queueFor s h.fn q
  need (qConsumer y.w == 8) .badArg
  if s.arr.recoverQ == some q then .ok s
  else
    sideFree s q true
    .ok { s with arr := { s.arr with recoverQ := some q } }

/-- A number within a range, in steps. -/
def stepped (v lo hi step : Nat) : Except Status Unit := need (decide (lo ≤ v) && decide (v ≤ hi) && v % step == 0) .badArg

/-- One key written (Table 17-4a). -/
def setConfig (h : Hdr) (key : Nat) (value : Option Nat) (s : State) : Except Status State :=
  match key, value with
  | 1, some v => do
    stepped v 0 (2 ^ 32) (2 ^ 28)
    need (s.eng == .snowplough) .state
    .ok { s with link := { s.link with spillBytes := v } }
  | 2, some v => do
    stepped v 100 100000 1
    .ok (rekeyTextures { s with arr := { s.arr with horizon := v } })
  | 3, some v => do
    stepped v 0 16 1
    .ok { s with arr := { s.arr with assetMax := v } }
  | 4, some v => do
    stepped v 0 1024 16
    need s.asset.reqs.isEmpty .busy
    .ok { s with asset := { s.asset with hbmStaging := v } }
  | 5, some v => setRecoveryQueue h s v
  | 5, none => .ok { s with arr := { s.arr with recoverQ := none } }
  | 6, some v => do
    stepped v 1 60 1
    .ok { s with link := { s.link with vfReturn := v } }
  | 7, some v => do
    stepped v 1 1000 1
    .ok { s with link := { s.link with samplingUs := v } }
  | _, _ => .error .badArg

/-- DEV.CONFIG; WRITE 0 reads. -/
def execDevConfig (h : Hdr) (key : Nat) (write : Bool) (value : Option Nat) (s : State) : Host.Outcome State Fault Refusal :=
  mbx { op := 0x0102, pf := true } h s fun s => do
    need (decide (1 ≤ key) && decide (key ≤ 7)) .badArg
    let s' ← if write then setConfig h key value s else .ok s
    done s' [Int.ofNat key, Int.ofNat (configValue s' key)]

/-- ENGINE.RESET: long; its response is held and written after the reset (R437, R392). -/
def execEngineReset (h : Hdr) (s : State) : Host.Outcome State Fault Refusal :=
  mbx { op := 0x0103, w := true, inH := true, core := true } h s fun s =>
    .ok (askReset (outstanding h .engineReset s), none)

/-- Every queue is rebuilt from its journal (R437 step 4, R77). -/
def rebuildQueues (s : State) : State :=
  s.qm.queues.foldl (fun s e => qMod e.1 (fun q => qFlag s.keel.frc 5 { q with blocked := false }) s)
    { s with qm := { s.qm with flBlocked := false } }

/-- ENGINE_RESET_DONE: the engine enters PISTE, with work held; after a KEEL raise it stays in HALTED (R437,
R440). -/
def execEngineResetDone (t : Nat) (s : State) : Host.Outcome State Fault Refusal :=
  ev t s fun s =>
    if !(s.eng == .startHut && s.warm && s.trust.fwRuns && !s.resetN) then s
    else
      let s := restartAssets (portsStart (rebuildQueues { s with eng := .piste, warm := false }))
      serveRings (endLongs (fun _ l => l == .engineReset) .ok [] s)

end Sys2Proof.Machine
end

