-- ==== Sys2Proof/Machine/Layout.lean ====
section
/-! DEFINITION. Response and event entries as bytes in host memory (16 Tables 16-10, 16-11, R384; 17 Tables 17-4 to 17-18,
R399, R403). -/

namespace Sys2Proof.Machine

/-- A field of an entry: its bytes, and the reserved bytes behind it. -/
abbrev FieldFmt := Nat × Nat

/-- The bytes of a field: a time of 14 bytes is in the format of Table 2-1, any other number is little-endian (R7, R403). -/
def fieldBytes (f : FieldFmt) (v : Int) : List Byte :=
  (if f.1 = 14 then timeBytes v else leInt f.1 v) ++ leBytes f.2 0

/-- The values of an entry, each in its field; `rep` is the form of what repeats behind the fields of `fmt`. -/
def layBytes (rep : List FieldFmt) : List FieldFmt → List Int → List Byte
  | _, [] => []
  | f :: fs, v :: vs => fieldBytes f v ++ layBytes rep fs vs
  | [], v :: vs =>
    match rep with
    | [] => []
    | f :: fs => fieldBytes f v ++ layBytes rep fs vs

/-- Exactly `n` bytes of an entry: zeros where it gives none. -/
def padTo (n : Nat) (l : List Byte) : List Byte := (l ++ leBytes (n - l.length) 0).take n

/-- Fields without reserved bytes. -/
def plain (sizes : List Nat) : List FieldFmt := sizes.map (fun n => (n, 0))

/-- A fault record (18 Table 18-6). -/
def recordFmt : List FieldFmt := plain [2, 1, 1, 1, 1, 1, 1, 8, 8, 4, 4]

/-- An attestation report (15 Table 15-9). -/
def reportFmt : List FieldFmt :=
  plain [4, 2, 1, 1, 4, 1, 1, 2, 48, 48, 48, 16, 8] ++ [(4, 4), (8, 0), (48, 0), (64, 0), (4, 100), (96, 0)]

/-- The result of a command: its fields, and what repeats behind them (17 Tables 17-4 to 17-16). Where a table gives no sizes,
each field has 8 bytes, TEC, REC, STATE, BUSOFF_MODE and k of BUS.PORT.QUERY 1, its sequence counts 4, and COUNT of a list 1
(DESIGN CHOICE, log 103). -/
def resultFmt (op : Nat) : List FieldFmt × List FieldFmt :=
  match op with
  | 0x0101 => (plain [2, 1, 1, 4, 1, 1, 2, 8], [])
  | 0x0102 => ([(2, 6), (8, 0)], [])
  | 0x0201 => (plain [8, 14, 14, 14, 10, 2, 2, 1, 1, 1], [])
  | 0x020B => ([(1, 3), (4, 0)], [(14, 0), (2, 0), (2, 0), (1, 0), (1, 4)])
  | 0x0301 => (plain [2], [])
  | 0x0303 => (plain [4, 4, 4, 4, 4, 4, 4, 4, 4, 4, 4, 4, 4, 2, 2, 4, 4], [])
  | 0x0304 => (plain [4], [])
  | 0x0305 => (plain [4], [])
  | 0x0308 => (plain [2], [])
  | 0x0309 => ([], plain [4])
  | 0x0401 => (plain [2, 2], [])
  | 0x0403 => (plain [4], [])
  | 0x0501 => (plain [2], [])
  | 0x0503 => ([(2, 2), (4, 0), (4, 0), (16, 0)], [])
  | 0x0505 => (plain [1, 1, 2, 4, 8, 4, 4], [])
  | 0x0602 => (plain [1, 1, 1, 1, 1, 4, 4, 1, 8, 8, 8, 8, 8, 8, 8, 8, 2, 2, 2, 2, 2], [])
  | 0x0608 => (plain [4], [])
  | 0x060C => ([(2, 0), (2, 0), (2, 0), (1, 1), (14, 0)], plain [1])
  | 0x060F => (plain [4], [])
  | 0x0613 => (plain [1], plain [2, 1, 1, 2, 2])
  | 0x0615 => ([(2, 6), (8, 0)], [])
  | 0x0616 => (plain [1], [])
  | 0x0703 => (plain [2], [])
  | 0x0707 => (plain [2], [])
  | 0x070A => (plain [1], [])
  | 0x0801 => (plain [1], [])
  | 0x0802 => (plain [8, 6, 1], [])
  | 0x0803 => (plain [8, 8, 6, 1, 1], [])
  | 0x0901 => (plain [1, 48, 1, 1, 1, 4, 32, 256], [])
  | 0x0905 => (plain [1], [])
  | 0x0907 => (plain [1, 1, 1], [])
  | 0x090A => (plain [1], [])
  | 0x090B => (plain [1, 248], [])
  | 0x090F => (plain [32], [])
  | 0x0910 => (plain [4, 97] ++ reportFmt, [])
  | 0x0912 => (reportFmt ++ plain [256], [])
  | 0x0A03 => (recordFmt, [])
  | 0x0A04 => (plain [1], recordFmt)
  | 0x0A05 => (plain [2], [])
  | 0x0A06 => ([], plain [4])
  | 0x0B02 => (plain [4, 4, 1, 1, 1, 1], [])
  | 0x0C01 => (plain [2, 1], [])
  | 0x0C03 => (plain [1, 1], [])
  | 0x0C05 => (plain [1], [])
  | 0x0F02 => ([], plain [1])
  | 0x0F03 => ([], plain [2])
  | 0x0F04 => (plain [4], [])
  | _ => ([], plain [8])

/-- The result of a response: Table 16-11 for KIND SUBMIT and JOB_COMMITTED. -/
def resultBytes (r : Rsp) : List Byte :=
  if r.kind = 0 then layBytes (resultFmt r.op).2 (resultFmt r.op).1 r.result
  else layBytes [] (plain [2, 2, 4, 2, 2, 4]) r.result

/-- CTRL of a response entry (Table 16-10). -/
def rspCtrl (phase : Bool) (r : Rsp) : Nat := bit01 phase + 2 * r.kind + 16 * bit01 r.replay + 32 * bit01 r.more

/-- The 32 bytes of a response entry (Table 16-10); of a longer result it carries the first 24 bytes (R382). -/
def rspBytes (phase : Bool) (r : Rsp) : List Byte :=
  leBytes 2 r.tag ++ leBytes 2 (statusCode r.status) ++ leBytes 4 (rspCtrl phase r) ++ padTo 24 (resultBytes r)

/-- The data of an event entry (Table 17-18). TARGET of TIME_CMP is a time, or the position (R403). -/
def eventFmt (code : Nat) (n : Nat) : List FieldFmt :=
  match code with
  | 0x0001 => plain [4]
  | 0x0002 => plain [2, 4, 4, 4, 4, 2]
  | 0x0003 => plain [1, 1, 2, 2]
  | 0x0201 => [(1, 0), (1, 0), (1, 1), (10, 0), (2, 0)]
  | 0x0202 => plain [1, 1, 2, 10]
  | 0x0203 => plain (if n = 4 then [1, 1, 2, 14] else [1, 1, 2, 6, 2, 2])
  | 0x0204 => plain [1, 1, 6, 2, 2]
  | 0x0301 => plain [2, 1, 1, 4, 2]
  | 0x0401 => plain [2, 2, 4, 4]
  | 0x0402 => plain [2, 1, 1, 4, 2, 2, 4, 4]
  | 0x0403 => plain [2, 2, 4]
  | 0x0404 => plain [2, 1, 1, 4, 2, 2, 2]
  | 0x0405 => plain [2, 2, 4]
  | 0x0503 => [(1, 1), (2, 0)]
  | 0x0601 => plain [1, 1, 2, 2]
  | 0x0602 => plain [1, 1, 2, 2, 1]
  | 0x0604 => plain [1, 1, 2]
  | 0x0605 => [(2, 0), (1, 0), (1, 0), (2, 2), (8, 0)]
  | 0x0701 => [(2, 2), (8, 0), (4, 0)]
  | 0x0801 => [(1, 0), (1, 2), (4, 0), (8, 0)]
  | 0x0901 => [(1, 1), (2, 0), (4, 0), (8, 0)]
  | 0x0A01 => [(2, 0), (1, 0), (1, 0), (1, 3), (8, 0), (4, 0)]
  | 0x0B01 => plain [4, 4]
  | _ => plain [1, 1, 1, 1, 1, 1]

/-- The 32 bytes of an event entry (R384). -/
def evtBytes (phase : Bool) (e : Evt) : List Byte :=
  leBytes 2 e.code ++ leBytes 2 (bit01 phase) ++ leBytes 8 e.frc ++ padTo 20 (layBytes [] (eventFmt e.code e.data.length) e.data)

/-- Where entry `i` of a mailbox ring lies (Table 16-7). -/
def ringAddr (base : DWord) (log i : Nat) : Nat := base.toNat / 4096 * 4096 + 32 * (i % 2 ^ log)

end Sys2Proof.Machine
end

