-- ==== Sys2Proof/Machine/Submit.lean ====
section
/-! DEFINITION. Submission rings: the checks of an entry, the acceptance of a job or packet, and SUBMIT responses (16
R383, R389, R390; 04 R90-R93; 05 R118; 06 R153; 07 R159). -/

namespace Sys2Proof.Machine

/-! ### Job descriptors (R90, R93, R118, R159) -/

/-- PICTURE of a slice 0 is later than the picture before it (R118). -/
def nextPictureOk (x : Stream) (d : JobDesc) : Bool := !x.sub.any || later32 d.picture x.sub.picture

/-- With CBR and HRD_SIGNAL the PICTURE of a slice 0 is the one after the picture before it (06 R153). -/
def hrdPictureOk (x : Stream) (d : JobDesc) : Bool :=
  !(cbrHrd x) || !x.sub.any || d.picture == (x.sub.picture + 1) % 2 ^ 32

/-- The order of slices and pictures of an encode stream (R118, 06 R153). -/
def sliceOrderOk (x : Stream) (d : JobDesc) : Bool :=
  if d.slice = 0 then (!x.sub.any || x.sub.eop) && nextPictureOk x d && hrdPictureOk x d
  else x.sub.any && !x.sub.eop && d.slice == x.sub.slice + 1 && d.picture == x.sub.picture &&
    d.addr == x.sub.srcAddr && d.pitch == x.sub.pitch && d.chroma == x.sub.chroma && d.hint == x.sub.hint &&
    d.flags == x.sub.flags

/-- An ENCODE_SLICE descriptor that R118 admits. -/
def encDescOk (x : Stream) (d : JobDesc) : Bool :=
  let rgb := decide (3 ≤ fnat x.f 0x5309 0)
  d.kind == 1 && d.encRsvdOk && !(srcDecode x) && d.first == d.slice * sliceLines x &&
  d.count == min (sliceLines x) (stHeight x - d.first) && d.eop == (d.first + d.count == stHeight x) &&
  sliceOrderOk x d && d.addr != 0 && d.addr % 64 == 0 && d.hint % 64 == 0 && d.pitch % 64 == 0 && d.chroma % 64 == 0 &&
  (!rgb || d.chroma == 0)

/-- A DECODE_SLICE descriptor that R159 admits. -/
def decDescOk (x : Stream) (d : JobDesc) : Bool :=
  d.kind == 2 && d.decRsvdOk && fromHost x && decide (1 ≤ d.bsBytes) && decide (d.bsBytes ≤ 16777216) &&
  d.first % 16 == 0 && (d.count % 16 == 0 || d.eop) && (d.slice != 0 || nextPictureOk x d)

/-- What R90 asks of every descriptor, and then the rules of its kind. -/
def descOk (x : Stream) (d : JobDesc) : Bool :=
  d.rsvdOk && decide (1 ≤ d.count) && decide (d.first + d.count ≤ stHeight x) &&
  (match x.kind with
   | .encode => encDescOk x d
   | .decode => decDescOk x d
   | .texture => false)

/-- The deadline of a job: computed, or given by the host (R92, R93); none where the descriptor breaks its mode. -/
def descDeadline (s : State) (x : Stream) (d : JobDesc) : Option Pos :=
  if fnat x.f 0x4303 0 = 0 then
    if d.dlValid then none else some (hwDeadline s x d.picture d.first d.count)
  else if d.dlValid && decide (d.dl.line < flLines (flGet s (stFl x))) then some d.dl
  else none

/-- The job that a descriptor describes, submitted at ring index `idx`. -/
def jobOf (x : Stream) (d : JobDesc) (data : List Byte) (dl : Pos) (idx : Nat) (refs : List Nat) : Job :=
  let enc := x.kind == .encode
  { seq := 0, st := if d.held then .held else .waiting, picture := d.picture, first := d.first, count := d.count,
    slice := d.slice, eop := d.eop, noReissue := d.noReissue, userTag := d.userTag, sub := idx,
    picFlags := if enc then d.flags else 0, refs := if enc then [] else refs,
    deadline := some dl, laWait := enc && decide (0 < fnat x.f 0x610E 0), bsBytes := if enc then 0 else d.bsBytes,
    noOutput := !enc && jobNoOutput data
    src := if enc then { addr := d.addr, pitch := d.pitch, chroma := d.chroma, hint := d.hint }
      else { addr := d.addr, crc := jobCrc data } }

/-- The picture being submitted after a job of it. -/
def subAfter (d : JobDesc) : SubState :=
  { any := true, picture := d.picture, slice := d.slice, next := d.first + d.count, eop := d.eop, srcAddr := d.addr, pitch := d.pitch,
    chroma := d.chroma, hint := d.hint, flags := d.flags }

/-- What a submission entry comes to: a refusal, a wait for credit, or an acceptance with its sequence number. -/
inductive SubResult
  | refuse (st : Status) (s : State)
  | wait
  | accept (seq : Nat) (s : State)

/-- The bands of lines `first` to `last` of a picture, the first of them band `slice`: by SLICE_LINES where the stream gives it,
else one band (DESIGN CHOICE, log 100). -/
def gapBands (x : Stream) (slice first last : Nat) : List (Nat × Nat × Nat) :=
  if last ≤ first then []
  else match fopt x.f 0x720A with
    | some n => (List.range ((last - first + n - 1) / max 1 n)).map (fun k => (slice + k, first + k * n, min n (last - first - k * n)))
    | none => [(slice, first, last - first)]

/-- The bands that a decode job of INPUT HOST leaves out since the job before it: in its own picture those before it, and the
rest of an earlier picture that has had no END_OF_PICTURE (R169). -/
def hostGaps (x : Stream) (d : JobDesc) : List (Nat × Nat × Nat × Nat) :=
  let o := x.sub
  let of := fun (p : Nat) (l : List (Nat × Nat × Nat)) => l.map (fun b => (p, b))
  if x.kind != .decode || !o.any then []
  else if o.picture == d.picture then of d.picture (gapBands x (o.slice + 1) o.next d.first)
  else if later32 d.picture o.picture then
    (if o.eop then [] else of o.picture (gapBands x (o.slice + 1) o.next (stHeight x))) ++ of d.picture (gapBands x 0 0 d.first)
  else []

/-- Those bands are damaged GAP. -/
def noteHostGaps (n : Nat) (gaps : List (Nat × Nat × Nat × Nat)) (s : State) : State :=
  gaps.foldl (fun s b => damage n 1 b.1 b.2.1 b.2.2.1 b.2.2.2 none s) s

/-- A job that its stream cannot take as things are: its fall line is OFF (02 R49), or it has references while the engine is in
SNOWPLOUGH, where streams are intra-only (R109). -/
def jobBarred (s : State) (x : Stream) (refs : List Nat) : Bool :=
  flSource (flGet s (stFl x)) == 3 || (s.eng == .snowplough && x.kind == .decode && !refs.isEmpty)

/-- A descriptor for the stream of a job queue. -/
def takeJob (n : Nat) (x : Stream) (data : List Byte) (idx : Nat) (refs : List Nat) (s : State) : SubResult :=
  let d := parseJob data
  if data.length != 64 || !(descOk x d) then .refuse .badArg s
  else
    match descDeadline s x d with
    | none =>
      .refuse .badArg (if fnat x.f 0x4303 0 = 0 then s else hostMiss x.owner (stCount n ctrHostMiss 1 s))
    | some dl =>
      if jobBarred s x refs then .refuse .state s
      else match addJob n data (jobOf x d data dl idx refs) s with
      | (s, some j) =>
        .accept j.seq (releaseWaiting (noteHostGaps n (hostGaps x d) (stMod n (fun x => { x with sub := subAfter d }) s)))
      | (_, none) => .wait

/-! ### Packets (R390, 10 R252, R265) -/

/-- The TX flow that sends the packets of a queue. -/
def flowOfQueue (s : State) (q : Nat) : Option Flow :=
  let one := fun (v : Port) => (v.tx.find? (fun e => fopt e.2.f 0xA903 == some q)).map (fun e => e.2)
  (one s.bus.oa).orElse (fun _ => one s.bus.ob)

/-- Does the flow release its packets by their own launch time (R265)? -/
def hostTimed (f : Option Flow) : Bool :=
  match f with
  | some f => fnat f.f 0xA90B 0 == 2
  | none => false

/-- The status with which a GATHER entry is refused before its data are read (R390). -/
def gatherRefusal (s : State) (y : Queue) (f : Option Flow) (g : GatherEntry) : Option Status :=
  let lineBad := g.dlOn && (match f with
    | some f => decide (flLines (flGet s (fnat f.f 0xA909 0)) ≤ g.dl.line)
    | none => false)
  if !g.rsvdOk || g.bytes == 0 || lineBad then some .badArg
  else if hostTimed f && !g.ltOn then some .badArg
  else if qPktMax y.w * 256 < g.bytes then some .tooLong
  else none

/-- A packet is committed whole against credit. -/
def takePacket (q : Nat) (data : List Byte) (i : PktInfo) (s : State) : SubResult :=
  match qGet s q with
  | none => .wait
  | some y => if hasCredit s q (cellCount data.length) then .accept y.seq (writePacket q data true i s) else .wait

/-- An entry whose data are at hand: a job descriptor for a job queue, else a packet. -/
def acceptEntry (q : Nat) (y : Queue) (r : DRing) (e : SubEntry) (idx : Nat) (s : State) : SubResult :=
  let g := parseGather e.bytes
  let data := if r.gather then e.data.take g.bytes else e.bytes.take 64
  if qConsumer y.w = 3 then
    match streamOfQueue s q with
    | some (n, x) => takeJob n x data idx e.refs s
    | none => .refuse .badArg s
  else if r.gather then
    takePacket q data { userTag := g.userTag, deadline := if g.dlOn then some g.dl else none
                        launch := if g.ltOn then some g.launch else none } s
  else takePacket q data {} s

/-- GATHER data are read once credit for the whole packet is held; a read that fails twice refuses the entry (R389, R390). -/
def readEntry (q : Nat) (y : Queue) (r : DRing) (e : SubEntry) (idx : Nat) (s : State) : SubResult :=
  if !r.gather then acceptEntry q y r e idx s
  else if !(hasCredit s q (cellCount (parseGather e.bytes).bytes)) then .wait
  else
    let s := (List.range (min e.readFails 2)).foldl (fun s _ => readFailed (qFn y.w) s) s
    if 2 ≤ e.readFails then .refuse .integrity s else acceptEntry q y r e idx s

/-- An entry of queue `q` at ring index `idx` (R389, R390); one without the launch time that its flow needs is a HOST_MISS (01
R27). -/
def takeSubmission (q : Nat) (y : Queue) (r : DRing) (e : SubEntry) (idx : Nat) (s : State) : SubResult :=
  let st := streamOfQueue s q
  if y.stopped || (match st with | some (_, x) => x.stopped | none => false) then .refuse .state s
  else if !(hasCredit s q 1) then .wait
  else
    let g := parseGather e.bytes
    let f := flowOfQueue s q
    match (if r.gather then gatherRefusal s y f g else if hostTimed f then some .badArg else none) with
    | some bad => .refuse bad (if bad == .badArg && hostTimed f && !(r.gather && g.ltOn) then hostMiss (qFn y.w) s else s)
    | none => readEntry q y r e idx s

/-! ### Responses (R389) -/

/-- USER_TAG of an entry: a job descriptor's and a GATHER entry's; other INLINE entries have none. -/
def entryTag (y : Queue) (r : DRing) (e : SubEntry) : Nat :=
  if r.gather then (parseGather e.bytes).userTag else if qConsumer y.w = 3 then (parseJob e.bytes).userTag else 0

/-- The ring's head moves past the entry. -/
def subAdvance (q : Nat) (s : State) : State :=
  qMod q (fun y => { y with sub := y.sub.map (fun r => { r with head := (r.head + 1) % 65536 }) }) s

/-- Entries that one response may cover. -/
def batchTop (r : DRing) : Nat := min (2 ^ r.log2) 65535

/-- An accepted entry: its own response, or a place in the batch, which ends at the doorbell's tail. -/
def subAccepted (q : Nat) (r : DRing) (idx seq tag : Nat) (s : State) : State :=
  let s := subAdvance q s
  if !r.batch then submitted q .ok idx seq 1 tag s
  else
    let s := qMod q (fun y => { y with sub := y.sub.map (fun r =>
      { r with batchN := r.batchN + 1, batchAt := idx, batchSeq := seq, batchTag := tag }) }) s
    if (r.head + 1) % 65536 = r.tail ∨ batchTop r ≤ r.batchN + 1 then flushBatch q s else s

/-- A refused entry ends the batch and has its own response. -/
def subRefused (q idx tag : Nat) (st : Status) (s : State) : State :=
  submitted q st idx 0 1 tag (subAdvance q (flushBatch q s))

/-- Response slots that an entry needs: one, and another for a job whose JOB_COMMITTED is due (R383). -/
def subSlots (s : State) (q : Nat) : Nat :=
  match streamOfQueue s q with
  | some (_, x) => if fromHost x then 2 else 1
  | none => 1

/-- May the queue's submission ring fetch an entry now (R383, R385, R392)? -/
def subReady (s : State) (q : Nat) (y : Queue) (r : DRing) : Bool :=
  let m := (fnGet s (qFn y.w)).mbx
  inService s && canWrite s m && !(replayPending s (qFn y.w)) && !r.stopped && r.head != r.tail &&
  decide (slotsTaken s (qFn y.w) false + subSlots s q ≤ 2 ^ rspLog m - 1)

/-- SUBMISSION_FETCH: the engine takes the next entry of a queue's submission ring. -/
def execSubmissionFetch (t q : Nat) (e : SubEntry) (s : State) : Host.Outcome State Fault Refusal :=
  ev t s fun s =>
    match qGet s q with
    | none => s
    | some y =>
      match y.sub with
      | none => s
      | some r =>
        if !(subReady s q y r) then s
        else
          match takeSubmission q y r e r.head s with
          | .wait => s
          | .refuse st s => subRefused q r.head (entryTag y r e) st s
          | .accept seq s => subAccepted q r r.head seq (entryTag y r e) s

end Sys2Proof.Machine
end

