-- ==== Sys2Proof/Machine/Egress.lean ====
section
/-! DEFINITION. Writes to host memory: the order of R320, the deficit round robin over classes and functions, packets
into posted buffers with their output completions, and what a finished write brings about (13 R319-R324; 16 R390,
R391; 01 R21; 07 R167; 08 R188, R199). -/

namespace Sys2Proof.Machine

/-! ### Eligibility and charges (R320-R324) -/

/-- May data be written to a function now (16 R392)? -/
def fnReady (s : State) (fn : Nat) : Bool := canWrite s (fnGet s fn).mbx && !(replayPending s fn)

/-- The scheduling record of a function. -/
def fnSched (c : Sched) (fn : Nat) : FnSched := tgetD c.fns fn {}

/-- Is the function's shaper out of debt (R324)? -/
def fnOpen (s : State) (fn : Nat) : Bool :=
  match (fnSched s.sched fn).b with
  | none => true
  | some b => shaperOpen (refill b s.keel.frc)

/-- May something of the function start on the link? -/
def fnEligible (s : State) (fn : Nat) : Bool := fnReady s fn && fnOpen s fn

/-- The deficits of a class and of a function's share of it, changed. -/
def classDef (c : Sched) (asset : Bool) : Int := if asset then c.defAst else c.defDec
def setClassDef (asset : Bool) (v : Int) (c : Sched) : Sched := if asset then { c with defAst := v } else { c with defDec := v }
def fnDef (c : Sched) (asset : Bool) (fn : Nat) : Int :=
  if asset then (fnSched c fn).defAst else (fnSched c fn).defDec
def setFnDef (asset : Bool) (fn : Nat) (v : Int) (c : Sched) : Sched :=
  let x := fnSched c fn
  { c with fns := tput c.fns fn (if asset then { x with defAst := v } else { x with defDec := v }) }

/-- Bytes of a class have been written for a function: counters, the 100 µs window, deficits, and the function's
shaper (R321, R322, R324). -/
def chargeWrite (asset : Bool) (fn bytes : Nat) (s : State) : State :=
  let c := s.sched
  let units := (bytes + 4095) / 4096
  let top := 2 ^ 64 - 1
  let x := fnSched c fn
  let x := { x with b := x.b.map (fun b => chargeBucket (refill b s.keel.frc) bytes) }
  let x := if asset then
      { x with bytesAst := satAdd x.bytesAst bytes top, unitsAst := satAdd x.unitsAst units top, defAst := x.defAst - Int.ofNat bytes }
    else
      { x with bytesDec := satAdd x.bytesDec bytes top, unitsDec := satAdd x.unitsDec units top, defDec := x.defDec - Int.ofNat bytes }
  let c := { c with
    fns := tput c.fns fn x
    window := c.window.filter (fun (e : Nat × Bool × Nat × Nat) => decide (s.keel.frc < e.1 + 100000)) ++ [(s.keel.frc, asset, fn, bytes)] }
  let c := if asset then
      { c with bytesAst := satAdd c.bytesAst bytes top, unitsAst := satAdd c.unitsAst units top, defAst := c.defAst - Int.ofNat bytes }
    else
      { c with bytesDec := satAdd c.bytesDec bytes top, unitsDec := satAdd c.unitsDec units top, defDec := c.defDec - Int.ofNat bytes }
  { s with sched := c }

/-! ### Round robin (R320) -/

/-- Does a DECODE_OUT write come before another: the earlier deadline, one with a deadline before one without, then
the order in which they began to wait? -/
def dueBefore (k1 : Option Nat) (b1 : Nat) (k2 : Option Nat) (b2 : Nat) : Bool :=
  match k1, k2 with
  | some a, some b => decide (a < b) || (a == b && decide (b1 < b2))
  | some _, none => true
  | none, some _ => false
  | none, none => decide (b1 < b2)

/-- Are two writes bands of one stream, and so one queue's? -/
def sameSource (u v : HUnit) : Bool :=
  match u.band, v.band with
  | some (a, _), some (b, _) => a == b
  | _, _ => false

/-- Does unit `u` go before unit `v` of the same function and class? Of one stream a write once started is finished first. -/
def unitBefore (u v : HUnit) : Bool :=
  if sameSource u v && (u.sent != 0 || v.sent != 0) then decide (v.sent = 0)
  else if u.asset then decide (u.prio < v.prio) || (u.prio == v.prio && decide (u.order < v.order))
  else dueBefore u.key u.born v.key v.born || (u.key == v.key && u.born == v.born && decide (u.order < v.order))

/-- The next unit of some. -/
def bestUnit : List HUnit → Option HUnit
  | [] => none
  | u :: r =>
    match bestUnit r with
    | none => some u
    | some v => if unitBefore v u then some v else some u

/-- Units of a class that a function has waiting. -/
def unitsOf (s : State) (asset : Bool) (fn : Nat) : List HUnit := s.sched.units.filter (fun u => u.asset == asset && u.fn == fn)

/-- Functions that have an eligible unit of a class. -/
def busyFns (s : State) (asset : Bool) : List Nat :=
  (List.range 64).filter (fun fn => !(unitsOf s asset fn).isEmpty && fnEligible s fn)

/-- Size of the unit that the link would take of a waiting write. -/
def unitSize (u : HUnit) : Nat := min 4096 u.bytes

/-- The function after `f` in a round. -/
def nextFn (fns : List Nat) (f : Nat) : Nat :=
  match fns.find? (fun n => decide (f < n)) with
  | some n => n
  | none => (fns.head?).getD f

/-- Visits of a round robin that always reach a unit: a packet leaves a deficit of at most 2^24 bytes behind it, over at most 64
functions. -/
def drrVisits : Nat := 2 ^ 20

/-- The round robin over functions within a class: the unit that is next, with the deficits on the way to it. -/
def pickFn (s : State) (asset : Bool) (fns : List Nat) : Nat → Sched → Option (HUnit × Sched)
  | 0, _ => none
  | k + 1, c =>
    let f := if asset then c.fnAst else c.fnDec
    let next := fun (c : Sched) =>
      let g := nextFn fns f
      let c := setFnDef asset g (fnDef c asset g + Int.ofNat ((fnSched c g).weight * 4096)) c
      pickFn s asset fns k (if asset then { c with fnAst := g } else { c with fnDec := g })
    match (if fns.contains f then bestUnit (unitsOf s asset f) else none) with
    | none => next (setFnDef asset f 0 c)
    | some u => if Int.ofNat (unitSize u) ≤ fnDef c asset f then some (u, c) else next c

/-- The round robin over the two classes. -/
def pickUnit (s : State) : Nat → Sched → Option (HUnit × Sched)
  | 0, _ => none
  | k + 1, c =>
    let a := c.turnAst
    let fns := busyFns s a
    let next := fun (c : Sched) =>
      let b := !a
      let w := if b then c.wAst else c.wDec
      pickUnit s k { (setClassDef b (classDef c b + Int.ofNat (w * 4096)) c) with turnAst := b }
    match (if fns.isEmpty then none else pickFn s a fns drrVisits c) with
    | none => next (setClassDef a 0 c)
    | some (u, c') => if Int.ofNat (unitSize u) ≤ classDef c' a then some (u, c') else next c

/-! ### Finished writes -/

/-- Bytes go into host memory. -/
def hostWrite (fn addr what : Nat) (data : List Byte) (s : State) : State :=
  { s with link := { s.link with writes := { fn := fn, addr := addr, data := data, what := what, info := [] } :: s.link.writes } }

/-- The tag record of a chunk written under a session: 12 bytes of nonce, which holds the counter value that the chunk took, 4
of zeros and the 16-byte tag, which is a free value (08 R199, 15 R371). -/
def sessionTag (q : AssetReq) (c : Nat) (s : State) : State :=
  match tget s.keel.vault.sessions q.a.sessionId, (chunkGet q c).bind (fun x => x.ctr) with
  | some x, some n =>
    let tag := Config.sealedVal [6, x.key, n, q.hac.id, c]
    hostWrite q.h.fn (q.a.tagAddr + 32 * (c - q.a.first)) 8 (leBytes 4 q.a.sessionId ++ leBytes 8 n ++ leBytes 4 0 ++ leBytes 16 tag) s
  | _, _ => s

/-- A chunk's output, or its host-assisted form, is whole in host memory. -/
def chunkOut (r c : Nat) (s : State) : State :=
  match reqGet s r with
  | none => s
  | some q =>
    match chunkEntry q c with
    | none => s
    | some e =>
      let bytes := if hostForm q.a e then formBytes e else e.outBytes
      let s := if q.a.session then sessionTag q c s else s
      let s := if hostForm q.a e then
          hostWrite q.h.fn (q.a.stageAddr + formOffset q.a q.hac.table c) 11 (stageRecord c e) s
        else s
      chunkWritten r c bytes (assetCount (reqPort q) 2 bytes s)

/-- What a finished write brings about: a band's record follows its pixels, and a chunk is done. -/
def unitDone (u : HUnit) (s : State) : State :=
  match u.band, u.chunk with
  | some (n, r), _ => flushRecs n 16 (stMod n (fun x => { x with dec := { x.dec with recs := x.dec.recs ++ [r] } }) s)
  | none, some (r, c) => chunkOut r c s
  | none, none => s

/-- Bytes `off` to `off + n - 1` of lines that follow each other, each piece at its address. -/
def pieces : List (Nat × List Byte) → Nat → Nat → List (Nat × List Byte)
  | [], _, _ => []
  | (a, b) :: r, off, n =>
    if b.length ≤ off then pieces r (off - b.length) n
    else if n = 0 then []
    else
      let p := (b.drop off).take n
      (a + off, p) :: pieces r 0 (n - p.length)

/-- What the host memory gets of the next `n` bytes of a unit: the bytes of its picture lines, or of a chunk, whose bytes
the model does not hold. -/
def unitWrites (u : HUnit) (n : Nat) : List HostWrite :=
  let what := if u.asset then 5 else 7
  if u.rows.isEmpty then [{ fn := u.fn, addr := u.addr + u.sent, data := [], what := what, info := [Int.ofNat n] }]
  else (pieces u.rows u.sent n).reverse.map (fun p => { fn := u.fn, addr := p.1, data := p.2, what := what, info := [Int.ofNat n] })

/-- The link takes a unit of at most 4,096 bytes. -/
def sendUnit (u : HUnit) (c : Sched) (s : State) : State :=
  let n := unitSize u
  let left := s.sched.units.filter (fun x => x.order != u.order)
  let keep := if u.bytes ≤ n then left else s.sched.units.map (fun x =>
    if x.order = u.order then { x with bytes := x.bytes - n, sent := x.sent + n } else x)
  let s := { s with sched := { c with units := keep }, link := { s.link with writes := unitWrites u n ++ s.link.writes } }
  let s := chargeWrite u.asset u.fn n s
  if u.bytes ≤ n then unitDone u s else s

/-! ### COMPLETION writes (R319, 16 R379, R391) -/

/-- The phase of a ring after the entry at `i` has been written. -/
def phaseAfter (log i : Nat) (ph : Bool) : Bool := if (i + 1) % 2 ^ log = 0 then !ph else ph

/-- A response goes into its ring, behind the result at RESULT_ADDR of one that is longer than 24 bytes (R382, R399). -/
def writeRsp (fn : Nat) (warden : Bool) (r : Rsp) (s : State) : State :=
  let m := mbxGet s fn warden
  let res := resultBytes r
  let s := if 24 < res.length then hostWrite fn r.addr 10 res s else s
  let s := hostWrite fn (ringAddr m.rspBase (rspLog m) m.rspTail) 1 (rspBytes m.rspPhase r) s
  let s := setMbx s fn warden { m with
    rsp := m.rsp ++ [(m.rspTail, m.rspPhase, r)], rspTail := (m.rspTail + 1) % 65536
    rspPhase := phaseAfter (rspLog m) m.rspTail m.rspPhase }
  let s := if r.noInt then s else signalRing fn m.rspBase s
  if r.replay then refetchFn fn s else s

/-- An event goes into its ring. -/
def writeEvt (fn : Nat) (e : Evt) (s : State) : State :=
  let m := (fnGet s fn).mbx
  let s := hostWrite fn (ringAddr m.evtBase (evtLog m) m.evtTail) 2 (evtBytes m.evtPhase e) s
  let s := setMbx s fn false { m with
    evt := m.evt ++ [(m.evtTail, m.evtPhase, e)], evtTail := (m.evtTail + 1) % 65536
    evtPhase := phaseAfter (evtLog m) m.evtTail m.evtPhase }
  signalRing fn m.evtBase s

/-- The first COMPLETION write leaves. -/
def sendCompl (w : ComplW) (rest : List ComplW) (s : State) : State :=
  let s := { s with link := { s.link with compl := rest } }
  match w with
  | .rsp fn warden r => writeRsp fn warden r s
  | .evt fn e => writeEvt fn e s
  | .msix fn v => sendMsix fn v s

/-- HOST_LINK_WRITE (R320): a waiting COMPLETION write has strict priority. -/
def execHostLinkWrite (t : Nat) (s : State) : Host.Outcome State Fault Refusal :=
  ev t s fun s =>
    if !s.link.up || s.link.perst then s
    else match s.link.compl with
      | w :: rest => sendCompl w rest s
      | [] =>
        if (busyFns s false).isEmpty && (busyFns s true).isEmpty then
          { s with sched := setClassDef false 0 (setClassDef true 0 s.sched) }
        else match pickUnit s drrVisits s.sched with
          | some (u, c) => sendUnit u c s
          | none => s

/-! ### Delivery rings (16 R389, R390) -/

/-- The deadline of a packet as an FRC value, from the fall line of the encode stream that wrote it (R320, 04 R94). -/
def packetKey (s : State) (q : Nat) (p : Pkt) : Option Nat :=
  match s.arr.streams.find? (fun e => e.2.kind == .encode && outQueue e.2 == some q) with
  | none => none
  | some (_, x) => (p.deadline.bind (posTime s (stFl x))).map (fun t => (frcOfActive s t).toNat)

/-- The slack of a packet at its delivery. -/
def packetSlack (s : State) (q : Nat) (p : Pkt) : Option Int :=
  match s.arr.streams.find? (fun e => e.2.kind == .encode && outQueue e.2 == some q) with
  | none => none
  | some (_, x) => p.deadline.bind (slackOf s (stFl x))

/-- Is the queue's head packet whole, so that it can be delivered with a posted buffer? -/
def deliverable (y : Queue) : Option Pkt :=
  match y.del, qHead y with
  | some r, some p =>
    if qConsumer y.w == 2 && !r.stopped && r.head != r.tail && !y.stopped && !y.blocked && (p.closed || p.abort.isSome) then
      some p
    else none
  | _, _ => none

/-- Class of a queue's packets (R319). -/
def classOf (y : Queue) : Bool := qProducer y.w == 5

/-- Is the head packet of queue `q` the next write of its function in DECODE_OUT (R320)? ASSET packets go in their queue's
order. -/
def packetFirst (s : State) (q : Nat) (y : Queue) (p : Pkt) : Bool :=
  let key := packetKey s q p
  let fn := qFn y.w
  classOf y ||
  ((unitsOf s false fn).all (fun u => !(dueBefore u.key u.born key p.visFrc)) &&
   s.qm.queues.all (fun e => e.1 == q || qFn e.2.w != fn || classOf e.2 ||
     (match deliverable e.2 with
      | some p2 => !(dueBefore (packetKey s e.1 p2) p2.visFrc key p.visFrc)
      | none => true)))

/-- The 32 bytes of an output completion (Table 16-13). -/
def completionBytes (phase aborted late : Bool) (reason bytes : Nat) (p : Option Pkt) : List Byte :=
  let b := p.bind (fun p => p.bus)
  let flags := bit01 phase + 2 * bit01 aborted + 4 * bit01 b.isSome + 8 * bit01 late
  let seq := (p.map (fun p => p.seq)).getD 0
  let tail := match b with
    | some b => leBytes 2 b.src ++ leBytes 2 b.flow ++ leBytes 2 b.seq ++ timeBytes b.stamp
    | none => leBytes 20 0
  leBytes 2 flags ++ leBytes 1 reason ++ leBytes 1 ((b.map (fun b => b.cls)).getD 0) ++ leBytes 4 bytes ++ leBytes 4 seq ++ tail

/-- The completion overwrites the buffer's entry, and the ring moves on and signals. -/
def putCompletion (q fn : Nat) (r : DRing) (aborted late : Bool) (reason bytes : Nat) (p : Option Pkt) (s : State) : State :=
  let w : HostWrite := { fn := fn, addr := r.addr + 32 * (r.head % 2 ^ r.log2)
                         data := completionBytes r.phase aborted late reason bytes p, what := 4, info := [Int.ofNat q] }
  let s := { s with link := { s.link with writes := w :: s.link.writes } }
  let s := qMod q (fun y => { y with del := y.del.map (fun r =>
    { r with head := (r.head + 1) % 65536, phase := phaseAfter r.log2 r.head r.phase }) }) s
  signal fn r.vector s

/-- A posted buffer that is too small receives no data (R390). -/
def smallBuffer (q fn : Nat) (r : DRing) (s : State) : State :=
  let s := setFn s fn { fnGet s fn with smallBuffers := (fnGet s fn).smallBuffers + 1 }
  putCompletion q fn r true false 0 0 none s

/-- A packet is written into a posted buffer, then its completion, and then it leaves its queue (01 R21). -/
def deliver (q buf : Nat) (y : Queue) (r : DRing) (p : Pkt) (s : State) : State :=
  let fn := qFn y.w
  let data := ((goodCells p).map (fun c => c.data)).flatten
  let bad := p.cells.any (fun c => c.bad)
  let slack := packetSlack s q p
  let late := match slack with | some d => decide (d < 0) | none => false
  let w : HostWrite := { fn := fn, addr := buf, data := data, what := 3, info := [Int.ofNat q, Int.ofNat p.seq] }
  let s := { s with link := { s.link with writes := w :: s.link.writes } }
  let s := chargeWrite (classOf y) fn (data.length + 32) s
  let s := noteLatency q p.visFrc slack s
  let s := putCompletion q fn r (bad || p.abort.isSome) late (if bad then 6 else p.abort.getD 0) data.length (some p) s
  if bad then dropRestOp q (badCell q p s)
  else if p.abort.isSome then dropRestOp q s
  else popHead q s

/-- PACKET_DELIVERY: a queue's head packet goes into the buffer posted next. -/
def execPacketDelivery (t q bufAddr bufBytes : Nat) (s : State) : Host.Outcome State Fault Refusal :=
  ev t s fun s =>
    match qGet s q with
    | none => s
    | some y =>
      match y.del with
      | none => s
      | some r =>
        let fn := qFn y.w
        if !s.link.compl.isEmpty || !(fnEligible s fn) || r.stopped || r.head == r.tail then s
        else if bufBytes < qPktMax y.w * 256 then smallBuffer q fn r s
        else match deliverable y with
          | none => s
          | some p => if packetFirst s q y p then deliver q bufAddr y r p s else s

end Sys2Proof.Machine
end

