-- ==== Sys2Proof/Machine/Enroll.lean ====
section
/-! DEFINITION. The events of enrollment (15 R366-R370). -/

namespace Sys2Proof.Machine

/-- A TEST certificate in FIELD, or one that is not in PROVISIONED (R367). -/
def testMismatch (s : State) (r : EnrollRec) : Bool :=
  (lifecycle s.trust == 2 && r.test) || (lifecycle s.trust == 1 && !r.test)

/-- Why the authority refuses a node's ENROLL_REPLY, if it does: 1 chain, 2 signature, 3 TEST mismatch, 4 revoked,
5 vault full (R367, Table 15-8). -/
def refusal (s : State) (v : Port) (r : EnrollRec) : Option Nat :=
  if !r.chainOk then some 1
  else if !r.sigOk then some 2
  else if testMismatch s r then some 3
  else if v.revoked.contains r.subject then some 4
  else if !(vaultRoom s) then some 5
  else none

/-- ENROLL_REPLY at the authority: the node's first epoch and key, and ENROLL_CONFIRM (R367, R368). -/
def takeReply (p : BusPort) (e : Enroll) (r : EnrollRec) (s : State) : State :=
  match refusal s (portGet s p) r with
  | some reason => refuseNode p r.src r.exchange reason s
  | none =>
    let (key, s) := takeRandom s
    let s := addNodeKey p r.src 1 key s
    let v := portGet s p
    let own := nodeOf p v
    let has := s.keel.vault.nodeKeys.any (fun k => k.port == p && k.src == own)
    let s := if has then s else
      let (k, s) := takeRandom s
      addNodeKey p own 1 k (takeEpoch p 1 s)
    let v := portGet s p
    let s := setPort s p { v with enrolls := tput v.enrolls r.src { e with stage := 2, since := s.keel.frc, subject := r.subject } }
    sendRecord p r.src r.exchange 0x32 (sealedBytes 96 [r.exchange] ++ wrapBytes 72 [r.src, 1, v.epoch, key]) s

/-- ENROLL_DONE at the authority: the node is enrolled, and its key and the others' pass between the holders. -/
def takeDone (p : BusPort) (e : Enroll) (r : EnrollRec) (s : State) : State :=
  let own := nodeOf p (portGet s p)
  let s := dropExchange p r.src s
  let s := event 0 0x0901 [Int.ofNat (portNum p), Int.ofNat r.src, 1, Int.ofNat (e.subject % 2 ^ 64)] s
  let mine := s.keel.vault.nodeKeys.filter (fun k => k.port == p && k.src == r.src)
  let others := s.keel.vault.nodeKeys.filter (fun k => k.port == p && k.src != r.src && k.src != own)
  let s := (keyHolders s p own r.src).foldl (fun s n =>
    mine.foldl (fun s k => grantKey p n r.exchange k.src k.epoch k.key s) s) s
  others.foldl (fun s k => grantKey p r.src r.exchange k.src k.epoch k.key s) s

/-- A record at the authority. -/
def authorityRecord (p : BusPort) (r : EnrollRec) (s : State) : State :=
  let v := portGet s p
  let e := tget v.enrolls r.src
  let open_ := match e with
    | some x => x.exchange == r.exchange
    | none => false
  match r.msg, e with
  | 0x31, some x => if open_ && x.stage == 1 then takeReply p x r s else s
  | 0x33, some x => if open_ && x.stage == 2 && r.macOk then takeDone p x r s else s
  | 0x34, some _ => if open_ then repeatEnroll p r.src s else s
  | 0x37, _ =>
    let held := s.keel.vault.nodeKeys.any (fun k => k.port == p && k.src == r.src && k.epoch == r.epoch)
    if r.macOk && held then grantEpoch p r.src r.exchange ((r.epoch + 1) % 2 ^ 30) s else s
  | 0x38, _ =>
    match s.keel.vault.nodeKeys.find? (fun k => k.port == p && k.src == r.node && k.epoch == r.epoch) with
    | some k => if r.macOk then grantKey p r.src r.exchange k.src k.epoch k.key s else s
    | none => s
  | _, _ => s

/-- A record at a node that is not the authority. -/
def nodeRecord (p : BusPort) (r : EnrollRec) (s : State) : State :=
  let v := portGet s p
  let e := tget v.enrolls r.src
  let open_ := match e with
    | some x => x.exchange == r.exchange
    | none => false
  match r.msg with
  | 0x30 =>
    if !r.chainOk || testMismatch s r then sendRecord p r.src r.exchange 0x34 (leBytes 1 (if r.chainOk then 3 else 1)) s
    else
      let x : Enroll := { exchange := r.exchange, stage := 11, tries := 1, since := s.keel.frc, subject := r.subject }
      let (n, s) := takeRandom (setPort s p { v with enrolls := tput v.enrolls r.src x })
      sendRecord p r.src r.exchange 0x31 (sealedBytes 738 [n, r.exchange]) s
  | 0x32 =>
    if !open_ then s
    else if !r.sigOk || !r.macOk then dropExchange p r.src (sendRecord p r.src r.exchange 0x34 (leBytes 1 2) s)
    else if !(vaultRoom s) then dropExchange p r.src (sendRecord p r.src r.exchange 0x34 (leBytes 1 5) s)
    else
      let s := addNodeKey p r.src r.authEpoch r.authKey (addNodeKey p (nodeOf p v) r.epoch r.key s)
      dropExchange p r.src (sendRecord p r.src r.exchange 0x33 (sealedBytes 48 [r.exchange]) (takeEpoch p r.epoch s))
  | 0x34 => if open_ then dropExchange p r.src s else s
  | 0x35 => if r.macOk && vaultRoom s then addNodeKey p r.node r.epoch r.key s else s
  | 0x36 => takeEpochGo p r s
  | _ => s

/-- A key that another segment's authority grants: it is held, and passed to the receivers of the port's own segment (R368). -/
def takeRemoteKey (p : BusPort) (r : EnrollRec) (s : State) : State :=
  let own := nodeOf p (portGet s p)
  (keyHolders s p own r.node).foldl (fun s n => grantKey p n r.exchange r.node r.epoch r.key s) (addNodeKey p r.node r.epoch r.key s)

/-- ENROLL_RECORD_RX: nothing is enrolled without a valid configuration block (R362). -/
def execEnrollRecordRx (t : Nat) (port : BusPort) (r : EnrollRec) (s : State) : Host.Outcome State Fault Refusal :=
  ev t s fun s =>
    let v := portGet s port
    if !(inService s) || !s.trust.pcbOk then s
    else if isAuthority port v then
      if r.msg = 0x35 then (if r.macOk && vaultRoom s then takeRemoteKey port r s else s)
      else authorityRecord port r s
    else if v.authority == some r.src then nodeRecord port r s
    else s

/-- ENROLL_TIMEOUT: the other party's next record is not complete within 100 ms (R366). -/
def execEnrollTimeout (t : Nat) (port : BusPort) (node : Nat) (s : State) : Host.Outcome State Fault Refusal :=
  ev t s fun s =>
    match tget (portGet s port).enrolls node with
    | some e => if e.since + 100000000 ≤ s.keel.frc then repeatEnroll port node s else s
    | none => s

end Sys2Proof.Machine
end

