-- ==== Sys2Proof/Machine/FaultCmds.lean ====
section
/-! DEFINITION. The FAULT commands and the events of the collector and of the dual-rail pairs (17 Table 17-13;
18). -/

namespace Sys2Proof.Machine

/-- A range of fault sources is in range. -/
def srcRange (first last : Nat) : Bool := decide (first ≤ last) && decide (last < 1024)

/-- The listed sources of a range. -/
def srcsIn (first last : Nat) : List Nat := ((List.range (last + 1 - first)).map (fun i => first + i)).filter srcListed

/-- A source's record replaced. -/
def srcPut (n : Nat) (x : Source) (s : State) : State := { s with fc := { s.fc with srcs := tput s.fc.srcs n x } }

/-- FAULT.SET (R411, R415): REACTION PROGRAMMED 0, HOST 1. -/
def execFaultSet (h : Hdr) (first last severity reaction timeoutMs : Nat) (s : State) : Host.Outcome State Fault Refusal :=
  mbx { op := 0x0A01, pf := true } h s fun s => do
    need (srcRange first last && decide (severity < 5) && decide (reaction < 2) && decide (1 ≤ timeoutMs) &&
      decide (timeoutMs ≤ 60000) && !(reaction == 1 && decide (3 < severity))) .badArg
    need (!((srcsIn first last).any sevLocked)) .noPerm
    done ((srcsIn first last).foldl (fun s n =>
      srcPut n { srcGet s n with sev := some severity, host := reaction == 1, timeoutMs := timeoutMs } s) s)

/-- FAULT.THRESHOLD.SET (R424, R427). -/
def execFaultThresholdSet (h : Hdr) (faultOk flt : Nat) (s : State) : Host.Outcome State Fault Refusal :=
  mbx { op := 0x0A02, pf := true } h s fun s => do
    need (decide (1 ≤ faultOk) && decide (faultOk ≤ 5) && decide (1 ≤ flt) && decide (flt ≤ 5)) .badArg
    done { s with keel := { s.keel with faultOkTh := faultOk, fltTh := flt } }

/-- A record as Table 18-6 lays it out. -/
def recFields (r : FaultRec) : List Int :=
  [r.source, r.kind + 128 * bit01 r.held, r.severity,
   bit01 r.sameCycle + 2 * bit01 r.transient + 4 * bit01 r.live + 8 * bit01 r.verdictDue + 16 * bit01 r.acked,
   r.reaction, engCode r.state, 0, r.address, r.frc, r.logIndex, r.count].map Int.ofNat

/-- FAULT.READ (R416): WHICH FIRST 0, LAST 1. The KEEL record that the keel holds is the first-fault record. -/
def execFaultRead (h : Hdr) (which : Nat) (s : State) : Host.Outcome State Fault Refusal :=
  mbx { op := 0x0A03, pf := true, inH := true, res := 32 } h s fun s => do
    need (decide (which < 2)) .badArg
    let r ← named (if which = 0 then (match s.keel.keelRec with | some r => some r | none => s.fc.first) else s.fc.last)
    done s (recFields r)

/-- FAULT.LOG.READ (R416): MAX entries from START on are examined, and the records in them returned. -/
def execFaultLogRead (h : Hdr) (start max : Nat) (s : State) : Host.Outcome State Fault Refusal :=
  mbx { op := 0x0A04, pf := true, inH := true } h s fun s => do
    need (decide (start < 64) && decide (1 ≤ max) && decide (max ≤ 64)) .badArg
    let recs := (List.range max).filterMap (fun i => tget s.fc.log ((start + i) % 64))
    need (recs.isEmpty || decide (32 * recs.length < h.room)) .badArg
    done s (Int.ofNat recs.length :: (recs.map recFields).flatten)

/-- One source is acknowledged (R422); one that a raise of the same cycle has latched stays latched (00 R12). -/
def ackSource (s : State) (n : Nat) : State :=
  match tget s.fc.srcs n with
  | none => s
  | some x =>
    if x.latched && !x.live && x.latchSev != 5 && x.raisedAt != some s.keel.frc then
      updRecs (fun r => r.source == n) (fun r => { r with transient := false, acked := true })
        (srcPut n { x with latched := false, transient := false } s)
    else s

/-- Sources of a range that are latched. -/
def latchedIn (s : State) (first last : Nat) : Nat :=
  s.fc.srcs.countP (fun e => e.2.latched && decide (first ≤ e.1) && decide (e.1 ≤ last))

/-- FAULT.ACK (R422): an acknowledgement that leaves no source latched arms the collector anew. -/
def execFaultAck (h : Hdr) (first last : Nat) (s : State) : Host.Outcome State Fault Refusal :=
  mbx { op := 0x0A05, pf := true, inH := true } h s fun s => do
    need (srcRange first last) .badArg
    let s := (srcsIn first last).foldl ackSource s
    let s := if latchedIn s 0 1023 = 0 then { s with fc := { s.fc with armed := true } } else s
    done s [Int.ofNat (latchedIn s first last)]

/-- FAULT.COUNT.READ (R418): the status word of each source of the range. -/
def execFaultCountRead (h : Hdr) (first last : Nat) (clear : Bool) (s : State) : Host.Outcome State Fault Refusal :=
  mbx { op := 0x0A06, pf := true, inH := true } h s fun s => do
    need (srcRange first last) .badArg
    let n := last + 1 - first
    need (decide (4 * n ≤ 24) || decide (4 * n ≤ h.room)) .badArg
    let res := (List.range n).map (fun i => Int.ofNat (srcWord (srcGet s (first + i))))
    let s' := if clear then
        { s with fc := { s.fc with srcs := tmap s.fc.srcs (fun k x =>
          if first ≤ k ∧ k ≤ last then { x with count := 0 } else x) } }
      else s
    done s' res

/-- FAULT.VERDICT (R415): up to the cycle of the timeout, the verdict is the host's. -/
def execFaultVerdict (h : Hdr) (logIndex action : Nat) (s : State) : Host.Outcome State Fault Refusal :=
  mbx { op := 0x0A07, pf := true } h s fun s => do
    need (decide (action < 4)) .badArg
    match s.fc.srcs.find? (fun e => match e.2.verdict with
      | some v => v.raises.any (fun r => r.1 == logIndex)
      | none => false) with
    | some (n, x) =>
      match x.verdict with
      | some v =>
        need (decide (s.keel.frc ≤ v.deadline)) .state
        done (decideVerdict n (some action) s)
      | none => .error .state
    | none => .error .state

/-- FAULT.XF.SET (R426, R427). -/
def execFaultXfSet (h : Hdr) (enable : Nat) (s : State) : Host.Outcome State Fault Refusal :=
  mbx { op := 0x0A08, pf := true } h s fun s => do
    need (decide (enable < 32)) .badArg
    done { s with keel := { s.keel with xfEnable := enable }
                  board := { s.board with xf := tfilter s.board.xf (fun n _ => bitOf enable n) } }

/-! ### Events of the collector -/

/-- A message that a block can send: a listed source and a kind code (R407, R410). -/
def msgOk (m : FaultMsg) : Bool := srcListed m.source && decide (1 ≤ m.kind) && decide (m.kind < 128)

/-- What an integrity error of the trust block's or the keel's storage takes with it (15 Table 15-11, 19 Table 19-2): the vault,
and the shadow counters, which restart from the fuses with secure time INVALID. -/
def integrityLoss (msgs : List FaultMsg) (s : State) : State :=
  let hit := fun n => msgs.any (fun m => m.source == n && m.kind != 0x7F)
  let s := if hit 0x015 || hit 0x004 then eraseVault s else s
  if hit 0x004 then
    { s with keel := { s.keel with shadowFw := s.trust.fuseFw, shadowCfg := s.trust.fuseCfg, secureValid := false } }
  else s

/-- FAULT_MESSAGE: the messages of one cycle (R407, R408, R412, R420). -/
def execFaultMessage (t : Nat) (msgs : List FaultMsg) (s : State) : Host.Outcome State Fault Refusal :=
  evOn (msgs.all (fun m => decide (m.source < 1024))) t s fun s =>
    let l := msgs.filter msgOk
    takeMessages l (integrityLoss l s)

/-- Does the host's verdict come in this cell cycle, among the rows that wait? It is the verdict (R415; 02 R53). -/
def verdictComes (s : State) (v : Verdict) : Bool :=
  decide (s.keel.frc ≤ v.deadline) && s.pending.any (fun c => match c with
    | .faultVerdict h l a => decide (h.time ≤ s.keel.frc) && decide (a < 4) && v.raises.any (fun r => r.1 == l)
    | _ => false)

/-- FAULT_VERDICT_TIMEOUT: the raises' own reactions are carried out, 0x3FE is raised (R415), and the missing verdict is a
HOST_MISS of the PF (01 R27). -/
def execFaultVerdictTimeout (t source : Nat) (s : State) : Host.Outcome State Fault Refusal :=
  evOn (decide (source < 1024)) t s fun s =>
    match (srcGet s source).verdict with
    | none => s
    | some v => if s.keel.frc < v.deadline || verdictComes s v then s else raise 0x3FE 1 0 false (hostMiss 0 (decideVerdict source none s))

/-- LOG_INTAKE_DRAIN: records that waited enter the log ring, at most 4 in a cycle (R417). -/
def execLogIntakeDrain (t : Nat) (s : State) : Host.Outcome State Fault Refusal :=
  ev t s fun s =>
    let used := if s.fc.cycFrc = s.keel.frc then s.fc.cycN else 0
    let l := s.fc.intake.take (4 - used)
    { s with fc := { s.fc with
      cycFrc := s.keel.frc
      cycN := used + l.length
      intake := s.fc.intake.drop (4 - used)
      log := l.foldl (fun t r => tput t (r.logIndex % 64) r) s.fc.log } }

/-! ### Dual-rail pairs (R426, R427) -/

/-- Is an input pair sensed (R426, 19 Table 19-7)? -/
def xfSensed (s : State) (pair : Nat) : Bool :=
  bitOf s.keel.xfEnable pair && s.keel.powered && !s.resetN && s.eng != .startHut

/-- XF_PAIR_CHANGE: a valid level pair has been stable for 200 ns. -/
def execXfPairChange (t pair : Nat) (tRail cRail : Bool) (s : State) : Host.Outcome State Fault Refusal :=
  evOn (decide (pair < 4)) t s fun s =>
    if !(xfSensed s pair) || tRail == cRail then s
    else
      let s := { s with board := { s.board with xf := tput s.board.xf pair (if tRail then .ok else .fault) } }
      let s := endCond (0x3C4 + pair) s
      if tRail then endCond (0x3C0 + pair) s
      else if (srcGet s (0x3C0 + pair)).live then s
      else raise (0x3C0 + pair) 1 (addrPair pair) true s

/-- XF_BROKEN_EXPIRY: equal levels for more than 1,000 ns. -/
def execXfBrokenExpiry (t pair : Nat) (s : State) : Host.Outcome State Fault Refusal :=
  evOn (decide (pair < 4)) t s fun s =>
    if !(xfSensed s pair) || tget s.board.xf pair == some .broken then s
    else raise (0x3C4 + pair) 1 (addrPair pair) true { s with board := { s.board with xf := tput s.board.xf pair .broken } }

/-- FLT_READBACK_MISMATCH: the balls have differed from the driven state for more than 1 us. -/
def execFltReadbackMismatch (t : Nat) (s : State) : Host.Outcome State Fault Refusal :=
  ev t s fun s =>
    if (fltPair s).isNone || s.board.fltMismatch then s
    else raise 0x3C8 1 (addrPair 4) true { s with board := { s.board with fltMismatch := true } }

/-- FLT_READBACK_RESTORED: END, 1 us after the balls agree again. -/
def execFltReadbackRestored (t : Nat) (s : State) : Host.Outcome State Fault Refusal :=
  ev t s fun s =>
    if !s.board.fltMismatch then s
    else endCond 0x3C8 { s with board := { s.board with fltMismatch := false } }

end Sys2Proof.Machine
end

