-- ==== Sys2Proof/Machine/Mailbox.lean ====
section
/-! DEFINITION. The events of the host link's registers and mailboxes (16 R378-R387, R391; 00 R8-R11). -/

namespace Sys2Proof.Machine

/-- MBX_DOORBELL_WRITE: REQ_TAIL; `entries` are the request entries in host memory from the old tail on (R380). -/
def execMbxDoorbellWrite (t fn : Nat) (warden : Bool) (value : Word) (entries : List ReqEntry) (s : State) :
    Host.Outcome State Fault Refusal :=
  evOn (mbxNamed fn warden) t s fun s =>
    if regLive s fn then ringDoorbell fn warden (Word.field value 15 0) entries s else s

/-- STALE_PHASE_RETRY: 1 µs after the wrong phase the entry is read again (R380). -/
def execStalePhaseRetry (t fn : Nat) (warden : Bool) (entry : ReqEntry) (s : State) : Host.Outcome State Fault Refusal :=
  evOn (mbxNamed fn warden) t s fun s =>
    let m := mbxGet s fn warden
    if !m.stale || decide (s.keel.frc < m.staleAt) || !(canWrite s m) then s
    else refetch fn warden (fetchEntry fn warden true entry s)

/-- MBX_ENABLE_SET: a write of MBX_REQ_SIZE with ENABLE set. -/
def execMbxEnableSet (t fn : Nat) (warden : Bool) (value : Word) (s : State) : Host.Outcome State Fault Refusal :=
  evOn (mbxNamed fn warden) t s fun s =>
    if regLive s fn then enableSet fn warden value s else s

/-- MBX_ENABLE_CLEAR. -/
def execMbxEnableClear (t fn : Nat) (warden : Bool) (s : State) : Host.Outcome State Fault Refusal :=
  evOn (mbxNamed fn warden) t s fun s =>
    if regLive s fn then enableClear fn warden s else s

/-- MBX_RSP_HEAD_WRITE. -/
def execMbxRspHeadWrite (t fn : Nat) (warden : Bool) (value : Word) (s : State) : Host.Outcome State Fault Refusal :=
  evOn (mbxNamed fn warden) t s fun s =>
    if regLive s fn then headWrite fn warden value s else s

/-! ### Queue doorbells (R385, R386) -/

/-- A doorbell of a function names a ring: the queue, and whether it is the delivery side. -/
def ringOfDoorbell (s : State) (fn db : Nat) : Option (Nat × Bool) :=
  let has := fun (r : Option DRing) => match r with | some r => r.doorbell == db | none => false
  (s.qm.queues.find? (fun e => qFn e.2.w == fn && (has e.2.sub || has e.2.del))).map (fun e => (e.1, !(has e.2.sub)))

/-- A tail for a data-plane ring: none where it changes nothing; a tail too far ahead stops the ring. -/
def tailWrite (tail : Nat) (r : DRing) : Option DRing :=
  if r.stopped || tail == r.tail then none
  else if 2 ^ r.log2 < (tail + 65536 - r.head) % 65536 then some { r with stopped := true }
  else some { r with tail := tail }

/-- A ring of a queue takes a tail. -/
def ringTail (fn q tail : Nat) (del : Bool) (s : State) : State :=
  match (qGet s q).bind (fun y => if del then y.del else y.sub) with
  | none => s
  | some r =>
    match tailWrite tail r with
    | none => s
    | some x =>
      let s := if x.stopped && !del then flushBatch q s else s
      let s := qMod q (fun y => if del then { y with del := some x } else
        { y with sub := y.sub.map (fun r => { r with tail := x.tail, stopped := x.stopped }) }) s
      if x.stopped then ringEvent fn 2 (if del then 3 else 2) tail q s else s

/-- A write of a doorbell slot. -/
def doorbellWrite (fn db tail : Nat) (s : State) : State :=
  match ringOfDoorbell s fn db with
  | none => setFn s fn { fnGet s fn with drops := (fnGet s fn).drops + 1 }
  | some (q, del) => ringTail fn q tail del s

/-- QUEUE_DOORBELL_WRITE. -/
def execQueueDoorbellWrite (t fn doorbell : Nat) (value : Word) (s : State) : Host.Outcome State Fault Refusal :=
  evOn (decide (fn < 64) && decide (doorbell < 8192)) t s fun s =>
    if regLive s fn then doorbellWrite fn doorbell (Word.field value 15 0) s else s

/-! ### Other registers (Tables 16-2 to 16-8) -/

/-- The lower half of a 64-bit register waits for the upper half (R8). -/
def putHigh (low value : Word) : DWord := BitVec.ofNat 64 (value.toNat * 2 ^ 32 + low.toNat)

/-- A ring's base takes a write only while ENABLE is 0 (R378). -/
def baseWrite (fn : Nat) (warden : Bool) (f : Mbx → Mbx) (s : State) : State :=
  let m := mbxGet s fn warden
  if mbxEnable m then s else setMbx s fn warden (f m)

/-- REQ_BASE without its reserved bits. -/
def reqBaseMask (v : DWord) : DWord := BitVec.ofNat 64 (v.toNat / 4096 * 4096)

/-- MBX_INT. -/
def intWrite (fn : Nat) (warden : Bool) (value : Word) (s : State) : State :=
  setMbx s fn warden { mbxGet s fn warden with holdoff := Word.field value 9 0 }

/-- FN_STATE: RING_ERROR, LINK_RESET and EVT_LOST are cleared by writing 1 (Table 16-4), but not one that the same cycle
sets (00 R12). -/
def fnStateWrite (fn : Nat) (value : Word) (s : State) : State :=
  let f := fnGet s fn
  let one := fun i => bitOf value.toNat i && tget f.flagAt i != some s.keel.frc
  setFn s fn { f with ringError := f.ringError && !(one 3), linkReset := f.linkReset && !(one 5)
                      mbx := { f.mbx with evtLost := f.mbx.evtLost && !(one 6) } }

/-- A 32-bit write into the mailbox registers, at offset `off` from 0x1000. MBX_DOORBELL starts its action here too (00 R11):
REGISTER_WRITE gives no request entries, so what the doorbell covers reads as entries of zeros. -/
def mbxRegWrite (fn : Nat) (warden : Bool) (off : Nat) (value : Word) (s : State) : State :=
  match off with
  | 0x00 => baseWrite fn warden (fun m => { m with lowReq := value }) s
  | 0x04 => baseWrite fn warden (fun m => { m with reqBase := reqBaseMask (putHigh m.lowReq value) }) s
  | 0x08 => if bitOf value.toNat 16 then enableSet fn warden value s else sizeClear fn warden value s
  | 0x10 => baseWrite fn warden (fun m => { m with lowRsp := value }) s
  | 0x14 => baseWrite fn warden (fun m => { m with rspBase := putHigh m.lowRsp value }) s
  | 0x18 => if warden then s else baseWrite fn warden (fun m => { m with lowEvt := value }) s
  | 0x1C => if warden then s else baseWrite fn warden (fun m => { m with evtBase := putHigh m.lowEvt value }) s
  | 0x20 => ringDoorbell fn warden (Word.field value 15 0) [] s
  | 0x24 => headWrite fn warden value s
  | 0x28 => intWrite fn warden value s
  | _ => s

/-- Word `i` of an MSI-X table row replaced. -/
def rowPut (row : DWord × DWord) (i : Nat) (value : Word) : DWord × DWord :=
  let lo := fun (v : DWord) => BitVec.ofNat 64 (v.toNat / 2 ^ 32 * 2 ^ 32 + value.toNat)
  let hi := fun (v : DWord) => BitVec.ofNat 64 (v.toNat % 2 ^ 32 + value.toNat * 2 ^ 32)
  match i with
  | 0 => (lo row.1, row.2)
  | 1 => (hi row.1, row.2)
  | 2 => (row.1, lo row.2)
  | _ => (row.1, hi row.2)

/-- A write into the MSI-X table: a vector unmasked with its pending bit set sends (R391). -/
def msixWrite (fn v i : Nat) (value : Word) (s : State) : State :=
  let x := { vecGet s fn v with row := rowPut (vecGet s fn v).row i value }
  if vectorsOf fn ≤ v then s
  else if x.pendBit && !(vecMasked x) then putMsix fn v (setVec fn v { x with pendBit := false } s)
  else setVec fn v x s

/-- A 32-bit write into a function's window (Table 16-2). -/
def write32 (fn off : Nat) (value : Word) (s : State) : State :=
  if off = 4 then fnStateWrite fn value s
  else if 0x1000 ≤ off ∧ off < 0x102C then mbxRegWrite fn false (off - 0x1000) value s
  else if fn = 0 ∧ 0x1001000 ≤ off ∧ off < 0x100102C then mbxRegWrite 0 true (off - 0x1001000) value s
  else if 0x10000 ≤ off ∧ off < 0x20000 then
    if off % 8 = 0 then doorbellWrite fn ((off - 0x10000) / 8) (Word.field value 15 0) s else s
  else if 0x20000 ≤ off ∧ off < 0x28000 then msixWrite fn ((off - 0x20000) / 16) (off % 16 / 4) value s
  else s

/-- An access that R8 takes, with its width in bytes: 32 bits at a multiple of 4, or 64 bits at a multiple of 8. -/
def accessOk (off width : Nat) : Bool := (width == 4 && off % 4 == 0) || (width == 8 && off % 8 == 0)

/-- BAR0 of the PF is 64 MiB, that of a VF 1 MiB (Table 16-1). -/
def barBytes (fn : Nat) : Nat := if fn = 0 then 0x4000000 else 0x100000

/-- A write into the debug window while Table 15-3 has it open. -/
def debugHit (s : State) (fn off width : Nat) : Bool :=
  regLive s fn && accessOk off width && fn == 0 && decide (0x2000000 ≤ off) && decide (off < 0x4000000) &&
  (lifecycle s.trust == 0 || (s.trust.debug && lifecycle s.trust != 2))

/-- A write that R8 takes: a 64-bit write is its lower half and then its upper half. -/
def barWrite (fn off width : Nat) (value : DWord) (s : State) : State :=
  if !(regLive s fn) || !(accessOk off width) || decide (barBytes fn ≤ off) then s
  else
    let low := BitVec.ofNat 32 value.toNat
    let s := write32 fn off low s
    if width = 8 then write32 fn (off + 4) (BitVec.ofNat 32 (value.toNat / 2 ^ 32)) s else s

/-- REGISTER_WRITE (R8, R9, R11): reserved bits and offsets not listed ignore it; what a write into an open debug window
does, the spec does not say. -/
def execRegisterWrite (t fn offset width : Nat) (value : DWord) (s : State) : Host.Outcome State Fault Refusal :=
  if fn < 64 then
    let s := advance t s
    if debugHit s fn offset width then .refused .debugWindow else .next (barWrite fn offset width value s)
  else .fault .noSuchObject

/-! ### Reads (R8, R9, R11, R386) -/

/-- A 32-bit half of a register. -/
def half (v : DWord) (high : Bool) : Nat := if high then v.toNat / 2 ^ 32 else v.toNat % 2 ^ 32

/-- What a read of the mailbox registers returns, at offset `off` from 0x1000: MBX_DOORBELL reads as zero (WO), and the event
fields of the warden are reserved (R387). -/
def mbxRegRead (s : State) (fn : Nat) (warden : Bool) (off : Nat) : Nat :=
  let m := mbxGet s fn warden
  match off with
  | 0x00 => half m.reqBase false
  | 0x04 => half m.reqBase true
  | 0x08 => m.size.toNat
  | 0x10 => half m.rspBase false
  | 0x14 => half m.rspBase true
  | 0x18 => if warden then 0 else half m.evtBase false
  | 0x1C => if warden then 0 else half m.evtBase true
  | 0x24 => m.rspHead + if warden then 0 else m.evtHead * 65536
  | 0x28 => m.holdoff
  | _ => 0

/-- What a read of a doorbell slot returns: the TAIL held for its ring, or zero (R386). -/
def doorbellRead (s : State) (fn db : Nat) : Nat :=
  match ringOfDoorbell s fn db with
  | none => 0
  | some (q, del) => (((qGet s q).bind (fun y => if del then y.del else y.sub)).map (fun r => r.tail)).getD 0

/-- Word `i` of an MSI-X table row. -/
def msixRead (s : State) (fn v i : Nat) : Nat :=
  let row := (vecGet s fn v).row
  if vectorsOf fn ≤ v then 0 else half (if i < 2 then row.1 else row.2) (i % 2 == 1)

/-- A word of the MSI-X PBA: the pending bits of 32 vectors. -/
def pbaRead (s : State) (fn i : Nat) : Nat :=
  ((List.range 32).map (fun b => if 32 * i + b < vectorsOf fn && (vecGet s fn (32 * i + b)).pendBit then 2 ^ b else 0)).sum

/-- What a 32-bit read of a function's window returns (Table 16-2); offsets not listed read as zero. -/
def read32 (s : State) (fn off : Nat) : Nat :=
  if off = 0 then fnIdWord fn
  else if off = 4 then fnStateWord s fn
  else if off = 8 then fnCapsWord fn
  else if 0x1000 ≤ off ∧ off < 0x102C then mbxRegRead s fn false (off - 0x1000)
  else if fn = 0 ∧ 0x1001000 ≤ off ∧ off < 0x100102C then mbxRegRead s 0 true (off - 0x1001000)
  else if 0x10000 ≤ off ∧ off < 0x20000 then
    if off % 8 = 0 then doorbellRead s fn ((off - 0x10000) / 8) else 0
  else if 0x20000 ≤ off ∧ off < 0x28000 then msixRead s fn ((off - 0x20000) / 16) (off % 16 / 4)
  else if 0x28000 ≤ off ∧ off < 0x28020 then pbaRead s fn ((off - 0x28000) / 4)
  else if fn = 0 ∧ 0x2000000 ≤ off then
    if debugHit s fn off 4 then Config.debugRead (s.keel.frc) off % 2 ^ 32 else 2 ^ 32 - 1
  else 0

/-- What a read of BAR0 returns: nothing while the registers are not there, and all ones for an access that R8 does not take
(19 R441; 00 R8). A 64-bit read is both halves. -/
def barRead (s : State) (fn off width : Nat) : Option Nat :=
  if !(regLive s fn) || decide (barBytes fn ≤ off) then none
  else if !(accessOk off width) then some (2 ^ (8 * width) - 1)
  else some (read32 s fn off + if width = 8 then read32 s fn (off + 4) * 2 ^ 32 else 0)

/-- MSIX_HOLDOFF_END: entries written during the holdoff are signalled with one message (R391). -/
def execMsixHoldoffEnd (t fn vector : Nat) (s : State) : Host.Outcome State Fault Refusal :=
  evOn (decide (fn < 64) && decide (vector < 256)) t s fun s =>
    let x := vecGet s fn vector
    match x.holdEnd with
    | none => s
    | some e =>
      if s.keel.frc < e then s
      else
        let s := setVec fn vector { x with holdEnd := none, due := false } s
        if x.due then signal fn vector s else s

end Sys2Proof.Machine
end

