-- ==== Sys2Proof/Machine/Power.lean ====
section
/-! DEFINITION. Resets, bring-up, keel feeds, SYSREF, tamper, temperature and the host link's resets (16
R392-R394; 18 Table 18-4; 19 R428-R446). -/

namespace Sys2Proof.Machine

/-! ### RESET_N and the start (R430, R436, Table 19-4) -/

/-- Is the main domain held in reset, or has it not booted yet? -/
def mainOff (s : State) : Bool := s.resetN || !s.keel.powered || (s.eng == .startHut && !s.trust.fwRuns)

/-- The main domain leaves reset and boots; the link trains when PERST_N is deasserted too (R441). -/
def leaveReset (b : BootFacts) (s : State) : State :=
  let s := boot b { s with resetN := false, board := { s.board with bootAt := some s.keel.frc } }
  { s with link := { s.link with up := !s.link.perst } }

/-- RESET_N_ASSERT: whatever reset runs ends (R439). -/
def execResetNAssert (t : Nat) (s : State) : Host.Outcome State Fault Refusal :=
  ev t s fun s => { (resetMain s) with resetN := true }

/-- RESET_N_DEASSERT; while the keel is unpowered the main domain stays in reset (R430). -/
def execResetNDeassert (t : Nat) (b : BootFacts) (s : State) : Host.Outcome State Fault Refusal :=
  ev t s fun s =>
    if !s.resetN then s
    else if s.keel.powered then leaveReset b s
    else { s with resetN := false }

/-- MAIN_DOMAIN_RESET_RELEASE: 1 ms after the keel comes up with RESET_N already deasserted (R430). -/
def execMainDomainResetRelease (t : Nat) (b : BootFacts) (s : State) : Host.Outcome State Fault Refusal :=
  ev t s fun s =>
    if s.keel.powered && !s.resetN && s.eng == .startHut && !s.trust.fwRuns && decide (1000000 ≤ s.keel.frc)
    then leaveReset b s else s

/-- A milestone reached late raises 0x34A (R444). -/
def noteLate (late : Bool) (s : State) : State := if late then raise 0x34A 1 0 false s else s

/-- A core enters service, or is OFFLINE from the start where its test failed (R109, R444). -/
def coreEnters (failed : List Nat) (s : State) (c : Nat) : State :=
  let s := coreSet s c { coreGet s c with served := true, st := .online, resSince := s.keel.frc }
  if failed.contains c then coreOffline c s else s

/-- ENTER_SNOWPLOUGH: firmware serves, C0 is tested, the ports start at the strap rate, the collector starts
(Table 19-4, R442, R444, R431, R435, R225). -/
def execEnterSnowplough (t : Nat) (c0Ok late : Bool) (s : State) : Host.Outcome State Fault Refusal :=
  ev t s fun s =>
    if !(s.eng == .startHut && !s.warm && s.trust.fwRuns && !s.resetN && s.keel.powered) then s
    else
      let s := portsStart { s with eng := .snowplough, keel := { s.keel with busWake := false }, board := { s.board with hbmFails := 0 } }
      let s := startCollector s
      let s := coreEnters (if c0Ok then [] else [0]) s 0
      let s := if s.keel.sysrefMissed then raise 0x005 1 0 false { s with keel := { s.keel with sysrefMissed := false } } else s
      let s := noteLate late s
      serveRings (endLongs (fun _ l => l == .engineReset) .ok [] s)

/-- HBM_TRAINING_DONE: a first failure trains again, a second halts the engine (R444). -/
def execHbmTrainingDone (t : Nat) (ok : Bool) (s : State) : Host.Outcome State Fault Refusal :=
  ev t s fun s =>
    if s.eng != .snowplough || s.board.hbmOk then s
    else if ok then { s with board := { s.board with hbmOk := true } }
    else
      let n := s.board.hbmFails + 1
      let s := { s with board := { s.board with hbmFails := n } }
      if n = 1 then raise 0x346 1 (addrMem 0) false s else raise 0x347 1 (addrMem 0) false s

/-- A storage port enumerated: exactly one NVMe controller directly on the port, at most 64 queue pairs (R179,
R180). -/
def enumerate (p : StPort) (d : DevFacts) (s : State) : State :=
  let v := stPort s p
  let found := d.direct && decide (0 < d.queues)
  let v' : StorePort := { present := decide (0 < d.queues), enumd := found, queues := if found then min 64 d.queues else 0, mdts := d.mdts, ctr := v.ctr }
  setStPort s p v'

/-- With BUSOFF_MODE HOST, the mode applies from PISTE on: a count not asked for by a command stops (R285,
R286). -/
def hostModeStops (p : Port) : Port :=
  if fnat p.f 0x0010 0 = 1 && !p.rcv.byCmd then { p with rcv := { p.rcv with counting := false, counted := 0 } } else p

/-- The regions of HBM are laid out (R19, Table 1-3), and the pool takes the spill cells: those from index 131,072 on,
above the 32 MiB of scratch space (03 R58). -/
def layHbm (s : State) : State :=
  let spill := max Config.onDieCells (s.link.spillBytes / 256) - Config.onDieCells
  { s with
    board := { s.board with hbm := { reserve := Config.engineReserve, spill := s.link.spillBytes
                                     media := Config.hbmBytes - Config.engineReserve - s.link.spillBytes } }
    qm := grantWaiters { s.qm with spillCells := spill, spillFree := spill } }

/-- ENTER_PISTE: full service (R19, R179, R443, R444; Table 19-4). -/
def execEnterPiste (t : Nat) (failed : List Nat) (tdcOk late : Bool) (s0 s1 : DevFacts) (s : State) :
    Host.Outcome State Fault Refusal :=
  ev t s fun s =>
    if !(s.eng == .snowplough && s.board.hbmOk) then s
    else
      let s := layHbm { s with eng := .piste, pisteOnce := true }
      let s := ((List.range 15).map (· + 1)).foldl (coreEnters failed) s
      let s := if tdcOk then s else raise 0x322 1 0 false s
      let s := enumerate .s1 s1 (enumerate .s0 s0 s)
      let own := fun (v : Port) => { hostModeStops v with filters := tfilter v.filters (fun n _ => decide (16 ≤ n)) }
      let s := { s with bus := { s.bus with oa := own s.bus.oa, ob := own s.bus.ob } }
      noteLate late s

/-! ### PERST_N, virtual functions, function-level reset (R392-R394, R439) -/

/-- VFs that exist are away until the host enables them again. -/
def vfsAway (s : State) : State :=
  { s with link := { s.link with
    fns := ((List.range 64).filter (fun v => decide (1 ≤ v) && decide (v ≤ s.link.numVfs))).foldl
      (fun f v => let x : Fn := tgetD f v {}; tput f v { x with away := true }) s.link.fns
    numVfs := 0 } }

/-- PERST_N_ASSERT (R392). -/
def execPerstNAssert (t : Nat) (s : State) : Host.Outcome State Fault Refusal :=
  ev t s fun s =>
    if s.link.perst then s
    else
      let s := vfsAway (mbxLayerReset s)
      { s with link := { s.link with perst := true, up := false, retDue := none } }

/-- PERST_N_DEASSERT: the link trains, VF_RETURN counts, a held ENGINE.RESET is carried out first, and asset
requests read on (R190, R392, R393, R439, R441). -/
def execPerstNDeassert (t : Nat) (s : State) : Host.Outcome State Fault Refusal :=
  ev t s fun s =>
    if !s.link.perst then s
    else if mainOff s then { s with link := { s.link with perst := false, up := s.keel.powered && !s.resetN && s.trust.fwRuns } }
    else
      let due := if s.link.fns.any (fun e => e.2.away) then some (s.keel.frc + s.link.vfReturn * 1000000000) else none
      let s := { s with link := { s.link with perst := false, up := true, retDue := due } }
      let s := setFn s 0 (flagSet 5 s.keel.frc { fnGet s 0 with linkReset := true })
      let s := if s.link.resetDue then startReset { s with link := { s.link with resetDue := false } } else s
      if s.eng == .piste then restartAssets s else s

/-- VF_ENABLE: VFs that the new NumVFs covers return; others cease (R393). -/
def execVfEnable (t numVfs : Nat) (s : State) : Host.Outcome State Fault Refusal :=
  ev t s fun s =>
    if !s.link.up || decide (64 ≤ numVfs) then s
    else
      let s := dropVfs numVfs s
      let back := tmap s.link.fns (fun n f =>
        if f.away && decide (n ≤ numVfs) then flagSet 5 s.keel.frc { f with away := false, linkReset := true } else f)
      let due := if back.any (fun e => e.2.away) then s.link.retDue else none
      { s with link := { s.link with fns := back, retDue := due } }

/-- Does the host enable a VF in this cell cycle, among the rows that wait? It counts as its return (R393; 02 R53). -/
def vfReturns (s : State) (vf : Nat) : Bool :=
  s.pending.any (fun c => match c with
    | .vfEnable t n => decide (t ≤ s.keel.frc) && decide (vf ≤ n) && decide (n < 64) && s.link.up
    | _ => false)

/-- VF_RETURN_EXPIRY: a VF that has not returned is reset as by a function-level reset (R393). -/
def execVfReturnExpiry (t vf : Nat) (s : State) : Host.Outcome State Fault Refusal :=
  ev t s fun s =>
    let due := match s.link.retDue with | some d => decide (d ≤ s.keel.frc) | none => false
    if !(due && (fnGet s vf).away) || vfReturns s vf then s
    else
      let s := flr vf s
      setFn s vf { fnGet s vf with away := false }

/-- FUNCTION_LEVEL_RESET (R394). -/
def execFunctionLevelReset (t fn : Nat) (s : State) : Host.Outcome State Fault Refusal :=
  evOn (decide (fn < 64)) t s fun s => if s.link.up && fnExists s fn then flr fn s else s

/-! ### Keel feeds (R432-R435) -/

/-- A change of feed: raised and reported, or latched while the collector does not run (R435). -/
def noteFeed (feed cause : Nat) (kept : Bool) (s : State) : State :=
  let c : KeelChange := { frc := s.keel.frc, feed := feed, cause := cause, kept := kept }
  if s.fc.running then feedChange c s
  else if s.keel.changes.length < 16 then { s with keel := { s.keel with changes := s.keel.changes ++ [c] } }
  else { s with keel := { s.keel with overflow := true } }

/-- The number of a feed, and whether it is the one in use. -/
def feedNum : Feed → Nat
  | .a => 0
  | .b => 1
def feedGood (k : Keel) : Feed → Bool
  | .a => k.aGood
  | .b => k.bGood

/-- The mux takes a feed after a failure. -/
def takeFeed (f : Feed) (s : State) : State :=
  noteFeed (feedNum f) 3 false { s with keel := { s.keel with onB := f == .b, holdSince := none } }

/-- KEEL_FEED_OUT_OF_WINDOW: the mux switches to a good feed, else the keel runs on its hold-up (R432). -/
def execKeelFeedOutOfWindow (t : Nat) (feed : Feed) (s : State) : Host.Outcome State Fault Refusal :=
  ev t s fun s =>
    if !s.keel.powered || !(feedGood s.keel feed) then s
    else
      let inUse := s.keel.onB == (feed == .b)
      let k := match feed with
        | .a => { s.keel with aGood := false, aGoodSince := none }
        | .b => { s.keel with bGood := false }
      let s := noteFeed (feedNum feed) 1 false { s with keel := k }
      let other : Feed := match feed with | .a => .b | .b => .a
      if !inUse then s
      else if feedGood s.keel other then takeFeed other s
      else { s with keel := { s.keel with holdSince := some s.keel.frc } }

/-- KEEL_FEED_RESTORED: a keel on hold-up takes the feed and is kept; an unpowered keel comes up (R29, R432,
R433). -/
def execKeelFeedRestored (t : Nat) (feed : Feed) (s : State) : Host.Outcome State Fault Refusal :=
  ev t s fun s =>
    let late := match s.keel.holdSince with | some h => decide (h + 20000 < s.keel.frc) | none => false
    let s := if late then loseKeel s else s
    if !s.keel.powered then keelUp feed s
    else if feedGood s.keel feed then s
    else
      let k := match feed with
        | .a => { s.keel with aGood := true, aGoodSince := some s.keel.frc }
        | .b => { s.keel with bGood := true }
      let held := s.keel.holdSince.isSome
      let s := noteFeed (feedNum feed) 2 held { s with keel := k }
      if held then takeFeed feed s else s

/-- KEEL_REVERT_EXPIRY: back to VKEEL_A after it was good for 50 ms without a break (R432). -/
def execKeelRevertExpiry (t : Nat) (s : State) : Host.Outcome State Fault Refusal :=
  ev t s fun s =>
    let ripe := match s.keel.aGoodSince with | some f => decide (f + 50000000 ≤ s.keel.frc) | none => false
    if s.keel.powered && s.keel.onB && s.keel.aGood && ripe then noteFeed 0 4 false { s with keel := { s.keel with onB := false } }
    else s

/-- HOLD_UP_EXPIRY: 20 µs without a good feed lose the keel (R433). -/
def execHoldUpExpiry (t : Nat) (s : State) : Host.Outcome State Fault Refusal :=
  ev t s fun s =>
    match s.keel.holdSince with
    | some h => if h + 20000 ≤ s.keel.frc then loseKeel s else s
    | none => s

/-- SYSREF_STOP: the FRC stops, and both domains are in HOLDOVER when it resumes (R431). -/
def execSysrefStop (t : Nat) (s : State) : Host.Outcome State Fault Refusal :=
  ev t s fun s =>
    if !s.keel.powered || !s.keel.sysref then s
    else
      let k := { s.keel with sysref := false, ta := holdDom s.keel.ta, tb := holdDom s.keel.tb }
      let missed := mainOff s
      { s with keel := { k with sysrefMissed := k.sysrefMissed || missed, stoppedIntervals := k.stoppedIntervals + bit01 missed } }

/-- SYSREF_RETURN: the count goes on from the same value (R431). -/
def execSysrefReturn (t : Nat) (s : State) : Host.Outcome State Fault Refusal :=
  ev t s fun s => { s with keel := { s.keel with sysref := true } }

/-! ### Tamper, temperature, link -/

/-- Is a tamper source armed (R429)? -/
def armed (s : State) (src : Nat) : Bool :=
  s.keel.powered && (src == 0x021 || (src == 0x024 && !s.resetN) || (s.trust.tamperArmed && !s.resetN))

/-- TAMPER_TRIP: a KEEL fault (R375). -/
def execTamperTrip (t source : Nat) (s : State) : Host.Outcome State Fault Refusal :=
  evOn (decide (0x020 ≤ source) && decide (source ≤ 0x024)) t s fun s =>
    if !(armed s source) then s
    else
      let off := mainOff s
      let s' := raise source 1 0 false s
      if off then { s' with eng := s.eng } else if s.eng == .startHut then serveRings s' else s'

/-- A core's own sensor reads (R105). -/
def noteTemp (sensor : Nat) (temp : Int) (s : State) : State :=
  if sensor < 16 then
    let k := coreGet s sensor
    coreSet s sensor { k with temp := some temp, peak := some (max (k.peak.getD temp) temp) }
  else s

/-- TJ_THRESHOLD_CROSSING: 0x343 from 105 °C, ending when no sensor is above 100 °C; 0x344 at 120 °C for 1 ms
(Table 19-6). -/
def execTjThresholdCrossing (t sensor : Nat) (temp : Int) (s : State) : Host.Outcome State Fault Refusal :=
  evOn (decide (sensor < 24)) t s fun s =>
    if mainOff s then s
    else
      let s := noteTemp sensor temp { s with board := { s.board with temps := tput s.board.temps sensor temp } }
      let top := fun (lim : Int) => s.board.temps.any (fun e => decide (lim ≤ e.2))
      let s :=
        if !s.board.hot && top 105 then raise 0x343 1 0 true { s with board := { s.board with hot := true } }
        else if s.board.hot && !(top 101) then endCond 0x343 { s with board := { s.board with hot := false } }
        else s
      if top 120 then
        match s.board.hotSince with
        | none => { s with board := { s.board with hotSince := some s.keel.frc } }
        | some f =>
          if f + 1000000 ≤ s.keel.frc then raise 0x344 1 0 false { s with board := { s.board with hotSince := some s.keel.frc } }
          else s
      else { s with board := { s.board with hotSince := none } }

/-- HOST_LINK_RETRAIN: below the rate or width it had, 0x200 is raised (Table 18-4). -/
def execHostLinkRetrain (t gen lanes : Nat) (s : State) : Host.Outcome State Fault Refusal :=
  ev t s fun s =>
    if !s.link.up then s
    else
      let low := decide (gen < s.link.gen) || decide (lanes < s.link.lanes)
      let s := { s with link := { s.link with gen := gen, lanes := lanes } }
      if low then raise 0x200 1 (addrPort 4) false s else s

end Sys2Proof.Machine
end

