-- ==== Sys2Proof/Machine/Storage.lean ====
section
/-! DEFINITION. The storage ports and the asset path at work (08 R179-R183, R189-R194; 09 R227; 15 R374). -/

namespace Sys2Proof.Machine

/-! ### NVMe reads of a chunk (R180, R185) -/

/-- Largest read command of a port: the controller's MDTS, where it has one, or 256 KiB, whichever is smaller (R180). -/
def nvmeBytes (v : StorePort) : Nat := if v.mdts = 0 then 262144 else min 262144 v.mdts

/-- Read commands that a port keeps outstanding: at most 2,048, and no more than its queue pairs of 256 entries hold (R180). -/
def nvmeRoom (v : StorePort) : Nat := min 2048 (v.queues * 256)

/-- Read commands that a chunk takes: its whole data units in pieces of the largest size. -/
def chunkCmds (s : State) (q : AssetReq) (e : ChunkEntry) : Nat :=
  let nvmeBytes := nvmeBytes (stPort s q.port)
  let first := (q.hac.offset + e.offset) / 4096
  let last := (q.hac.offset + e.offset + e.stored + 4095) / 4096
  ((last - first) * 4096 + nvmeBytes - 1) / nvmeBytes

/-- Commands for chunk `c` of request `r` go out on a port. -/
def sendCmds (p : StPort) (r c n : Nat) (fua : Bool) (s : State) : State :=
  let v := stPort s p
  let new : List NvmeCmd := (List.range n).map (fun i =>
    { id := s.asset.nextCmd + i, req := r, chunk := c, issued := s.keel.frc, timeouts := 0, mediaFails := 0, fua := fua })
  let s := setStPort s p { v with cmds := v.cmds ++ new }
  assetCount p 0 n { s with asset := { s.asset with nextCmd := s.asset.nextCmd + n } }

/-- The chunk that a request issues next: one whose output is not whole and that is not in progress. -/
def nextChunk (q : AssetReq) : Option Nat :=
  if q.stopped || q.failed.isSome then none
  else ((List.range q.a.count).map (fun i => q.a.first + i)).find? (fun c => !(q.doneSet.contains c) && (chunkGet q c).isNone)

/-- May a request issue: its port serves and has room for the commands (R180)? -/
def mayIssue (s : State) (q : AssetReq) : Bool :=
  match nextChunk q with
  | none => false
  | some c =>
    match chunkEntry q c with
    | none => false
    | some e => stServes s q.port && decide ((stPort s q.port).cmds.length + chunkCmds s q e ≤ nvmeRoom (stPort s q.port))

/-- The request whose turn it is: priority first, then acceptance order (R189). -/
def issueTurn (s : State) : Option (Nat × AssetReq) :=
  ((List.range 4).map (fun p => s.asset.reqs.filter (fun e => e.2.a.priority == p && mayIssue s e.2))).flatten.head?

/-- ASSET_READ_ISSUE: the next chunk's reads go out when staging can hold it whole; an expired licence ends
the request (R189, R191, R374). -/
def execAssetReadIssue (t : Nat) (s : State) : Host.Outcome State Fault Refusal :=
  ev t s fun s =>
    if s.eng != .piste then s
    else match issueTurn s with
    | none => s
    | some (r, q) =>
      match nextChunk q with
      | none => s
      | some c =>
        if expired s q.hac.expires q.hac.expiry then
          reqMod r (fun q => stopReq .auth 0x21 (fun _ => false) q) s
        else
          match chunkEntry q c with
          | none => s
          | some e =>
            if stagingSize s < s.asset.staging + e.stored then s
            else
              let s := reqMod r (fun q => { q with chunks := q.chunks ++ [{ chunk := c, st := .reading }] }) s
              sendCmds q.port r c (chunkCmds s q e) false (takeStaging e.stored s)

/-- The commands of a chunk on a port, and a port without them. -/
def cmdsOf (s : State) (p : StPort) (r c : Nat) : List NvmeCmd := (stPort s p).cmds.filter (fun x => x.req == r && x.chunk == c)
def dropCmds (p : StPort) (f : NvmeCmd → Bool) (s : State) : State :=
  setStPort s p { stPort s p with cmds := (stPort s p).cmds.filter (fun x => !(f x)) }

/-- A command is submitted again. -/
def resend (p : StPort) (id : Nat) (f : NvmeCmd → NvmeCmd) (s : State) : State :=
  let now := s.keel.frc
  setStPort s p { stPort s p with cmds := (stPort s p).cmds.map (fun x => if x.id == id then { f x with issued := now } else x) }

/-- A chunk's reads are counted again for its request (Table 8-7). -/
def countReread (p : StPort) (r : Nat) (s : State) : State :=
  assetCount p 6 1 (reqMod r (fun q => { q with rereads := q.rereads + 1 }) s)

/-- Is chunk `c` of a request in a state? -/
def chunkIn (s : State) (r c : Nat) (st : ChunkSt) : Bool :=
  match (reqGet s r).bind (fun q => chunkGet q c) with
  | some x => x.st == st
  | none => false

/-- NVME_COMPLETION: data lands in staging; a media error is retried twice with FUA (R180-R182). -/
def execNvmeCompletion (t : Nat) (port : StPort) (cmd : Nat) (mediaError : Bool) (s : State) : Host.Outcome State Fault Refusal :=
  ev t s fun s =>
    match (stPort s port).cmds.find? (fun x => x.id == cmd) with
    | none => s
    | some x =>
      if !(chunkIn s x.req x.chunk .reading) then dropCmds port (fun y => y.id == cmd) s
      else if mediaError then
        if x.mediaFails < 2 then
          countReread port x.req (resend port cmd (fun x => { x with mediaFails := x.mediaFails + 1, fua := true, timeouts := 0 }) s)
        else
          let s := dropCmds port (fun y => y.req == x.req && y.chunk == x.chunk) s
          raise (stBase port + 4) 1 (addrPort (2 + stNum port)) false (failChunk x.req x.chunk .integrity 0x12 s)
      else
        let s := dropCmds port (fun y => y.id == cmd) s
        if (cmdsOf s port x.req x.chunk).isEmpty then
          let bytes := ((reqGet s x.req).bind (fun q => (chunkEntry q x.chunk).map (fun e => e.stored))).getD 0
          assetCount port 1 bytes (chunkMod x.req x.chunk (fun y => { y with st := .staged }) s)
        else s

/-- Chunks whose data units are not all in staging. -/
def notStaged (x : ChunkRun) : Bool := x.st == .idle || x.st == .reading

/-- Has a request chunks that still need its port? -/
def needsPort (q : AssetReq) : Bool := (nextChunk q).isSome || q.chunks.any notStaged

/-- Requests that still need a port end with a status and detail; chunks in staging go on (R181, R183). -/
def endOnPort (p : StPort) (st : Status) (detail : Nat) (s : State) : State :=
  let s := { s with asset := { s.asset with
    reqs := tmap s.asset.reqs (fun _ q => if q.port == p && needsPort q then stopReq st detail notStaged q else q) } }
  recountStaging s

/-- Does the command complete in this cell cycle, among the rows that wait? The completion then wins over its timeout (R181). -/
def completes (s : State) (port : StPort) (cmd : Nat) : Bool :=
  s.pending.any (fun c => match c with
    | .nvmeCompletion t p n _ => decide (t ≤ s.keel.frc) && p == port && n == cmd
    | _ => false)

/-- NVME_COMMAND_TIMEOUT: submitted again up to three times, then one controller reset, then FAILED (R181). -/
def execNvmeCommandTimeout (t : Nat) (port : StPort) (cmd : Nat) (s : State) : Host.Outcome State Fault Refusal :=
  ev t s fun s =>
    match (stPort s port).cmds.find? (fun x => x.id == cmd) with
    | none => s
    | some x =>
      let addr := addrPort (2 + stNum port)
      if s.keel.frc < x.issued + 500000000 || completes s port cmd then s
      else if x.timeouts < 2 then
        raise (stBase port + 1) 1 addr false (resend port cmd (fun x => { x with timeouts := x.timeouts + 1 }) s)
      else if x.timeouts = 2 then
        let now := s.keel.frc
        let v := stPort s port
        raise (stBase port + 2) 1 addr false
          (setStPort s port { v with cmds := v.cmds.map (fun x => { x with timeouts := 3, issued := now }) })
      else
        let s := setStPort s port { stPort s port with failed := true, cmds := [] }
        let s := endOnPort port .timeout 0x30 s
        let (n, s) := takeFree s
        let s := event 0 0x0503 [stNum port, Int.ofNat (Config.freeValue n % 65536)] s
        raise (stBase port + 3) 1 addr false s

/-! ### Cartridge and link (R183, R227) -/

/-- The slot port's insertion window starts (R227); SLOT is 1 on OA and 0 on OB by default. -/
def slotOn (p : Port) (d : Nat) : Bool := fnat p.f 0x970B d == 1
def startWindow (s : State) : State :=
  let till := some (s.keel.frc + 2000000)
  { s with bus := { s.bus with
    oa := if slotOn s.bus.oa 1 then { s.bus.oa with insertEnd := till } else s.bus.oa
    ob := if slotOn s.bus.ob 0 then { s.bus.ob with insertEnd := till } else s.bus.ob } }

/-- A port's device is gone: its commands fail, chunks whole in staging are finished, other requests end with
MEDIA_REMOVED. -/
def loseDevice (p : StPort) (s : State) : State :=
  let s := setStPort s p { gone := true, ctr := (stPort s p).ctr }
  endOnPort p .cancelled 0x01 s

/-- The cartridge node's keys leave the vault on every slot port, and an enrollment of it in progress ends (15 R370). -/
def dropCartridge (s : State) : State :=
  let one := fun (p : BusPort) (s : State) => abortEnroll p 0xFFFE (dropNodeKeys p 0xFFFE s)
  let s := if slotOn s.bus.oa 1 then one .oa s else s
  if slotOn s.bus.ob 0 then one .ob s else s

/-- S0_REMOVAL (R183; 15 R370). -/
def execS0Removal (t : Nat) (s : State) : Host.Outcome State Fault Refusal :=
  ev t s fun s =>
    if mainOff s || s.asset.s0.gone then s
    else
      let s := dropCartridge (closePort .s0 (loseDevice .s0 (startWindow s)))
      raise 0x240 1 (addrPort 2) false (event 0 0x0501 [0] (assetCount .s0 11 1 s))

/-- S0_INSERTION: the new device is enumerated in PISTE (R179, R183). -/
def execS0Insertion (t : Nat) (d : DevFacts) (s : State) : Host.Outcome State Fault Refusal :=
  ev t s fun s =>
    if mainOff s || s.asset.s0.present then s
    else
      let s := startWindow (setStPort s .s0 { stPort s .s0 with gone := false })
      if s.eng != .piste then s
      else
        let s := enumerate .s0 d s
        if s.asset.s0.enumd then event 0 0x0502 [0] s else s

/-- S1_LINK_DOWN: a port fault that ends dependent requests (R183). -/
def execS1LinkDown (t : Nat) (s : State) : Host.Outcome State Fault Refusal :=
  ev t s fun s =>
    if mainOff s || !s.asset.s1.present then s
    else raise 0x250 2 (addrPort 3) false (loseDevice .s1 s)

/-- INSERTION_WINDOW_END (R227). -/
def execInsertionWindowEnd (t : Nat) (s : State) : Host.Outcome State Fault Refusal :=
  ev t s fun s =>
    let ended := fun (p : Port) => match p.insertEnd with
      | some e => if e ≤ s.keel.frc then { p with insertEnd := none } else p
      | none => p
    { s with bus := { s.bus with oa := ended s.bus.oa, ob := ended s.bus.ob } }

/-! ### Verification and decompression (R192-R194) -/

/-- A FORMAT failure of a chunk, which is not read again (R193). -/
def formatFails (req chunk : Nat) (q : AssetReq) (s : State) : State :=
  raise 0x288 1 (addrAsset q.h.fn q.h.tag) false (failChunk req chunk .integrity 0x11 (assetCount q.port 7 1 s))

/-- An authentic chunk goes on; one whose plaintext payload, given in host-assisted form, has not HOST_BYTES is a FORMAT
failure (R198). `desc` is the first 64 bytes of a TEXTURE payload. -/
def passChunk (req chunk : Nat) (q : AssetReq) (desc : List Byte) (s : State) : State :=
  let wrong := match chunkEntry q chunk with
    | some e => hostForm q.a e && e.coding != 3 && e.stored != e.hostBytes + 56
    | none => false
  if wrong then formatFails req chunk q s else forwardChunk req chunk (desc.take 64) s

/-- CHUNK_VERIFY: a chunk that fails is read again with FUA, up to 2 more times (R192); `payload` is the front of the decrypted
payload, none where the chunk does not agree with the table. -/
def execChunkVerify (t req chunk : Nat) (crcOk tagOk : Bool) (payload : Option (List Byte)) (s : State) : Host.Outcome State Fault Refusal :=
  ev t s fun s =>
    match reqGet s req with
    | none => s
    | some q =>
      if s.eng != .piste || !(chunkIn s req chunk .staged) then s
      else if crcOk && tagOk && payload.isSome then passChunk req chunk q (payload.getD []) (assetCount q.port 3 1 s)
      else
        let addr := addrAsset q.h.fn q.h.tag
        let s := assetCount q.port (if crcOk then 5 else 4) 1 s
        let reads := ((chunkGet q chunk).map (fun x => x.reads)).getD 0
        let again := decide (reads < 2) && stServes s q.port
        if again then
          let s := raise (if crcOk then 0x281 else 0x280) 1 addr false s
          let s := chunkMod req chunk (fun x => { x with st := .reading, reads := x.reads + 1 }) s
          sendCmds q.port req chunk (((chunkEntry q chunk).map (chunkCmds s q)).getD 1) true (countReread q.port req s)
        else
          let (st, d) := if crcOk then (Status.auth, 0x20) else (Status.integrity, 0x10)
          raise 0x282 1 addr false (failChunk req chunk st d s)

/-- The unit that decodes a chunk becomes free. -/
def releaseUnit (u : Nat) (s : State) : State :=
  let d : DecUnit := tgetD s.asset.units u {}
  { s with asset := { s.asset with units := tput s.asset.units u { d with job := none } } }

/-- A unit faults during a chunk: the chunk is decoded again on another unit, and the third fault disables the
unit (R194). -/
def unitFails (req chunk u : Nat) (s : State) : State :=
  let d : DecUnit := tgetD s.asset.units u {}
  let n := d.faults + 1
  let d' : DecUnit := { faults := n, disabled := decide (3 ≤ n) }
  let s := { s with asset := { s.asset with units := tput s.asset.units u d' } }
  let s := raise 0x286 1 0 false s
  let s := if 3 ≤ n then raise 0x287 1 0 false s else s
  assignUnits (chunkMod req chunk (fun x => { x with unit := none, notUnit := some u }) s)

/-- DECOMPRESSION_DONE (R194). -/
def execDecompressionDone (t req chunk : Nat) (formatOk unitFault : Bool) (s : State) : Host.Outcome State Fault Refusal :=
  ev t s fun s =>
    match reqGet s req with
    | none => s
    | some q =>
      match chunkGet q chunk with
      | none => s
      | some x =>
        match x.unit with
        | none => s
        | some u =>
          if s.eng != .piste || x.st != .verified then s
          else if unitFault then unitFails req chunk u s
          else
            let s := chunkMod req chunk (fun x => { x with unit := none }) (releaseUnit u s)
            if formatOk then assignUnits (queueOutput req chunk s)
            else assignUnits (formatFails req chunk q s)

/-! ### Completion (R24, R189) -/

/-- Nothing of the request is in progress, and it ended or all of its output is whole. -/
def reqWhole (q : AssetReq) : Bool :=
  q.chunks.isEmpty && (q.stopped || q.failed.isSome || decide (q.a.count ≤ q.doneSet.length))

/-- ASSET_REQUEST_COMPLETE. -/
def execAssetRequestComplete (t req : Nat) (s : State) : Host.Outcome State Fault Refusal :=
  ev t s fun s =>
    match reqGet s req with
    | none => s
    | some q => if reqWhole q then endRequest req s else s

end Sys2Proof.Machine
end

