-- ==== Sys2Proof/Machine/Stream.lean ====
section
/-! DEFINITION. The STREAM commands (17 Table 17-7; 04 R89, R109, 05 R111, R113, R126, R130, R133, R135,
06 R143, R144, R154, 07 R155, R158, R173). -/

namespace Sys2Proof.Machine

/-- A numeric record's value. -/
def recNum (recs : List Rec) (id : Nat) : Option Int :=
  match recs.find? (fun r => r.id == id) with
  | some ⟨_, .num v⟩ => some v
  | _ => none

/-- The line group of an encode stream: 64 lines, or 32 for HEVC with CTB_SIZE 32. -/
def lineGroup (f : Tbl RVal) : Nat := if fnat f 0x5301 0 = 1 ∧ fnat f 0x5314 64 = 32 then 32 else 64

/-- Largest width and height of an AV1 level (log 21). -/
def av1Dims (code : Nat) : Nat × Nat :=
  if code = 20 then (2048, 1152) else if code = 21 then (2816, 1584) else if code = 30 then (4352, 2448)
  else if code = 31 then (5504, 3096) else if code < 50 then (6144, 3456) else if code < 60 then (8192, 4352)
  else (16384, 8704)

/-- Profile, tier and bit depth lie in Table 5-1 (R111). -/
def encCodecOk (f : Tbl RVal) : Bool :=
  let depth := fnat f 0x5307 10
  if fnat f 0x5301 0 = 0 then fnat f 0x5302 0 == 0 && fnat f 0x5303 0 == 0
  else thas f 0x5303 && (fnat f 0x5302 0 == 1 || (fnat f 0x5302 0 == 0 && depth == 8))

/-- Pictures a second that a level allows: AV1's MaxHeaderRate, and 300 for HEVC (log 21). -/
def levelPics (f : Tbl RVal) (l : Level) : Nat := if fnat f 0x5301 0 = 0 ∧ l.code < 40 then 150 else 300

/-- The picture's size, and its rates of samples and pictures on the stream's fall line, lie within the level (R111). -/
def encSizeOk (s : State) (f : Tbl RVal) : Bool :=
  let w := fnat f 0x5305 0
  let h := fnat f 0x5306 0
  let fl := flGet s (fnat f 0x4301 0)
  match encLevel f with
  | none => false
  | some l =>
    decide (w * h ≤ 35651584) && decide (w * h ≤ l.ps) && (!(encHigh f) || decide (0 < l.brH)) &&
    (if fnat f 0x5301 0 = 0 then decide (w ≤ (av1Dims l.code).1) && decide (h ≤ (av1Dims l.code).2)
     else decide (w * w ≤ 8 * l.ps) && decide (h * h ≤ 8 * l.ps)) &&
    decide (w * h * 1000000000 * flDen fl ≤ l.sr * flPeriodNum fl * fnat f 0x530D 1) &&
    decide (1000000000 * flDen fl ≤ levelPics f l * flPeriodNum fl * fnat f 0x530D 1)

/-- SLICE_LINES, slice count, TILE_COLS and VRANGE_DEP fit (R113). -/
def encSlicesOk (f : Tbl RVal) : Bool :=
  let w := fnat f 0x5305 0
  let h := fnat f 0x5306 0
  let sl := fnat f 0x5312 0
  let most := match encLevel f with | some l => l.slices | none => 0
  decide (sl % lineGroup f = 0) && decide (0 < sl) && decide (sl ≤ h) && decide ((h + sl - 1) / max 1 sl ≤ most) &&
  (fnat f 0x5301 0 == 1 || decide ((w + 4095) / 4096 ≤ fnat f 0x5313 ((w + 4095) / 4096))) &&
  decide (fnat f 0x5317 256 + 8 ≤ fnat f 0x430A 264)

/-- The rate-control fields satisfy their mode and the level (R144, Table 6-1). -/
def rcOk (f : Tbl RVal) : Bool :=
  let mode := fnat f 0x6101 1
  let hevc := fnat f 0x5301 0 == 1
  let qp := fun (id : Nat) => match fopt f id with
    | some _ => decide (qpLow f ≤ fnum f id 0) && decide (fnum f id 0 ≤ qpHigh f)
    | none => true
  (!(mode == 1 || mode == 2) || thas f 0x6102) && (mode != 3 || thas f 0x6103) && (mode != 4 || thas f 0x6111) &&
  (mode != 5 || thas f 0x6114) &&
  (!(thas f 0x6102) || decide (fnat f 0x6102 0 ≤ levelRate f)) &&
  (!(thas f 0x6103) || (decide (fnat f 0x6103 0 ≤ levelRate f) && decide (fnat f 0x6102 0 ≤ fnat f 0x6103 0))) &&
  (!(thas f 0x6104) || decide (fnat f 0x6104 0 ≤ levelBuf f)) &&
  qp 0x6105 && qp 0x6106 && qp 0x6107 && qp 0x6108 && qp 0x6109 && qp 0x610B &&
  decide (fnum f 0x6108 (qpLow f) ≤ fnum f 0x6109 (qpHigh f)) && (!hevc || decide (fnat f 0x610A 4 ≤ 51)) &&
  (fnat f 0x6110 0 == 0 || mode == 1 || mode == 2 || mode == 3) &&
  !(decide (0 < fnat f 0x610E 0) && (fnat f 0x530E 0 == 0 || mode == 0 || mode == 4 || mode == 5))

/-- Codec, profile, tier, level and largest picture lie in Table 7-1 (R155). -/
def decCodecOk (f : Tbl RVal) : Bool :=
  let c := fnat f 0x7201 0
  let w := fnat f 0x7205 0
  let h := fnat f 0x7206 0
  let lv := fnat f 0x7204 0
  (if c = 0 then decide (fnat f 0x7202 0 ≤ 1) && av1Levels.any (fun l => l.code == lv)
   else if c = 1 then hevcLevels.any (fun l => l.code == lv) && thas f 0x7203
   else avcLevels.contains lv && decide (w ≤ 4096) && decide (h ≤ 2304)) &&
  (c == 1 || fnat f 0x7203 0 == 0) && decide (w * h ≤ 35651584)

/-- Rows of one output buffer, luma and chroma (Tables 5-4, 7-3). -/
def outRows (f : Tbl RVal) : Nat :=
  let h := fnat f 0x7206 0
  match fnat f 0x720E 2 with
  | 3 => 2 * h
  | 4 => 3 * h
  | _ => h + (h + 1) / 2

/-- The decode fields that a mode requires are given and fit (R158). -/
def decFieldsOk (f : Tbl RVal) : Bool :=
  (fnat f 0x7207 0 == 0 || (thas f 0x7208 && thas f 0x720A)) &&
  (!(thas f 0x720A) || decide (fnat f 0x720A 0 ≤ fnat f 0x7206 0)) &&
  (fnat f 0x720D 0 == 1 ||
    (thas f 0x720F && thas f 0x7210 && thas f 0x7211 && thas f 0x7212 &&
     decide (fnat f 0x7210 0 * outRows f ≤ fnat f 0x7212 0))) &&
  (fnat f 0x7215 1 != 2 || thas f 0x7216)

/-- A queue that a stream names for one side: present, owned, running, its endpoint right, the side free. -/
def streamQueue (s : State) (fn q : Nat) (cons : Bool) (own : Option Nat) (ok : Queue → Bool) :
    Except Status Unit := do
  let x ← queueFor s fn q
  need (ok x) .badArg
  match own with
  | some _ => .ok ()
  | none => sideFree s q cons

/-- The queues of an encode stream (R89, R113, R130, R144, R469). `own` is set for STREAM.SET, which
names only queues that the stream may change. -/
def encQueues (s : State) (fn : Nat) (f : Tbl RVal) : Except Status Unit := do
  streamQueue s fn (fnat f 0x4302 0) true none (fun q => qConsumer q.w == 3)
  streamQueue s fn (fnat f 0x5319 0) false none (fun q => qProducer q.w == 4 &&
    decide (fallbackBound (fnat f 0x5305 0 * fnat f 0x5312 0) ≤ qPktMax q.w * 256))

/-- A shaper that LB_SHAPER names belongs to the function, in every mode (R144). -/
def lbShaperOk (s : State) (fn : Nat) (f : Tbl RVal) : Bool :=
  match tget f 0x6111 with
  | some (.num n) => (tget s.sched.shapers n.toNat).any (fun sh => sh.owner == fn)
  | _ => true

/-- LB_SHAPER and HOST_QUEUE of a stream (R144, Table 6-1). -/
def rcObjects (s : State) (fn : Nat) (f : Tbl RVal) (fresh : Bool) : Except Status Unit := do
  need (lbShaperOk s fn f) .noPerm
  if fnat f 0x6101 1 = 5 then
    streamQueue s fn (fnat f 0x6114 0) true (if fresh then none else some 0) (fun q => qProducer q.w == 1)

/-- A queue that a field names, where it names one. -/
def fieldQueue (s : State) (fn : Nat) (f : Tbl RVal) (id : Nat) (cons : Bool) (ok : Queue → Bool) : Except Status Unit :=
  match fopt f id with
  | some q => streamQueue s fn q cons none ok
  | none => .ok ()

/-- The queues that a decode stream names, whether its INPUT and CONCEAL use them or not (R158, R469). -/
def decQueues (s : State) (fn : Nat) (f : Tbl RVal) : Except Status Unit := do
  streamQueue s fn (fnat f 0x4302 0) true none (fun q => qConsumer q.w == 3)
  fieldQueue s fn f 0x7208 true
    (fun q => qConsumer q.w == 4 && (qProducer q.w == 6 || qProducer q.w == 7 || qProducer q.w == 4))
  fieldQueue s fn f 0x7214 false (fun q => qConsumer q.w == 2)
  fieldQueue s fn f 0x7216 true (fun q => qProducer q.w == 1)

/-- SOURCE DECODE names a decode stream, scales by 1/8 to 1, and shares it with at most seven others
(R133, R135). -/
def srcOk (s : State) (f : Tbl RVal) : Except Status Unit := do
  if fnat f 0x5308 0 = 1 then
    match fopt f 0x530C with
    | none => .error .badArg
    | some n =>
      let x ← named (stGet s n)
      need (x.kind == .decode) .badArg
      let w := fnat f 0x5305 0
      let h := fnat f 0x5306 0
      need (decide (w ≤ stWidth x) && decide (stWidth x ≤ 8 * w) && decide (h ≤ stHeight x) &&
        decide (stHeight x ≤ 8 * h)) .badArg
      need (decide (s.arr.streams.countP (fun e => e.2.kind == .encode && fnat e.2.f 0x5308 0 == 1 &&
        fopt e.2.f 0x530C == some n) < 8)) .noRes

/-- The number of a new stream: the one named, or the lowest free (R89, R397). -/
def newStream (s : State) (recs : List Rec) : Except Status Nat :=
  match recNum recs 0x0002 with
  | some n => if thas s.arr.streams n.toNat then .error .conflict else .ok n.toNat
  | none =>
    match tfree s.arr.streams 0 4096 with
    | some n => .ok n
    | none => .error .noRes

/-- In SNOWPLOUGH only decode streams up to 1,920 x 1,080 are created, at most four, on C0 (R109, R443,
R444). -/
def snowOk (s : State) (enc : Bool) (f : Tbl RVal) : Except Status Unit := do
  if s.eng == .snowplough then
    need (!enc && decide (fnat f 0x7205 0 ≤ 1920) && decide (fnat f 0x7206 0 ≤ 1080)) .state
    need ((coreGet s 0).st != .offline) .noRes
    need (decide (s.arr.streams.length < 4)) .noRes

/-- STREAM.CREATE (R89, R111, R113, R130, R133, R135, R144, R155, R158). V starts at half of BUF_BITS; in the modes that do not
use it the buffer is the level's (DESIGN CHOICE, log 101). -/
def execStreamCreate (h : Hdr) (recs : List Rec) (s : State) : Host.Outcome State Fault Refusal :=
  mbx { op := 0x0401 } h s fun s => do
    let kind ← match recNum recs 0x0001 with
      | some k => .ok k
      | none => .error .badArg
    need (kind == 0 || kind == 1) .badArg
    let enc := kind == 0
    let specs := createFields ++ dispatchFields ++ (if enc then encFields ++ rcFields else decFields)
    recsOk specs recs
    recsHave specs recs
    let f := fapply [] recs
    need (if enc then encCodecOk f && encSlicesOk f && rcOk f else decCodecOk f && decFieldsOk f) .badArg
    need (flSource (flGet s (fnat f 0x4301 0)) != 3) .state
    need (!enc || encSizeOk s f) .badArg
    snowOk s enc f
    if enc then do
      srcOk s f
      encQueues s h.fn f
      rcObjects s h.fn f true
    else decQueues s h.fn f
    let n ← newStream s recs
    let x : Stream := { owner := h.fn, kind := if enc then .encode else .decode, f := f,
                        rate := if enc then 1000000000 else 2000000000 }
    let x := if enc then { x with
        rc := { x.rc with v := rcSize s x / 2 }
        enc := { x.enc with sweepLen := fnat f 0x5310 60 } } else x
    let jq := fnat f 0x4302 0
    let next := match qGet s jq with | some q => q.seq | none => 0
    done (stSet s n { x with jobSeq := next, linkNext := next }) [Int.ofNat n, Int.ofNat jq]

/-- STREAM.SET (R154, R158, R401). -/
def execStreamSet (h : Hdr) (stream : Nat) (restart : Bool) (recs : List Rec) (s : State) :
    Host.Outcome State Fault Refusal :=
  mbx { op := 0x0402 } h s fun s => do
    need (decide (stream < 4096)) .badArg
    let x ← named (stGet s stream)
    owned h x.owner
    let enc := x.kind == .encode
    let specs := createFields ++ dispatchFields ++ (if enc then encFields ++ rcFields else decFields)
    recsOk specs recs
    need (!x.stopped) .state
    recsFree specs recs
    let f := fapply (fapply x.f (x.staged.map (fun e => ⟨e.1, e.2⟩))) recs
    need (if enc then encSlicesOk f && rcOk f else decFieldsOk f) .badArg
    need (!(names recs 0x4301) || flSource (flGet s (fnat f 0x4301 0)) != 3) .state
    let rate := names recs 0x6101 || names recs 0x6102 || names recs 0x6103 || names recs 0x6104
    need (!(enc && fnat x.f 0x6110 0 == 1 && rate) || restart) .state
    if enc then rcObjects s h.fn f (names recs 0x6114 && fopt x.f 0x6114 != fopt f 0x6114)
    else if names recs 0x7216 && fopt x.f 0x7216 != fopt f 0x7216 then
      streamQueue s h.fn (fnat f 0x7216 0) true none (fun q => qProducer q.w == 1)
    let now := recs.filter (fun r => !(nextPictureFields.contains r.id))
    let later := recs.filter (fun r => nextPictureFields.contains r.id)
    let x := { x with f := fapply x.f now, staged := fapply x.staged later }
    let x := if restart && enc then { x with enc := { x.enc with restart := true } } else x
    done (stSet s stream x)

/-- STREAM.DESTROY: uncommitted jobs are cancelled with FORCE, and their packets leave the job queue. -/
def execStreamDestroy (h : Hdr) (stream : Nat) (force : Bool) (s : State) : Host.Outcome State Fault Refusal :=
  mbx { op := 0x0403 } h s fun s => do
    need (decide (stream < 4096)) .badArg
    let x ← named (stGet s stream)
    owned h x.owner
    need (!(s.arr.streams.any (fun e => e.2.kind == .encode && fnat e.2.f 0x5308 0 == 1 &&
      fopt e.2.f 0x530C == some stream))) .busy
    need (x.jobs.isEmpty || force) .busy
    let k := x.jobs.length + x.cancelled
    let s := (cancelJobs stream s).1
    let s := x.jobs.foldl (fun s j => removePkt (jobQueue x) j.seq s) s
    let s := { s with
      arr := { s.arr with streams := tdel s.arr.streams stream
                          cores := tmap s.arr.cores (fun _ c => { c with ctx := c.ctx.filter (· != stream) }) }
      sched := { s.sched with units := s.sched.units.filter (fun u =>
        match u.band with | some (n, _) => n != stream | none => true) } }
    done s [Int.ofNat k]

/-- STREAM.STATS.READ. -/
def execStreamStatsRead (h : Hdr) (stream : Nat) (clear : Bool) (s : State) : Host.Outcome State Fault Refusal :=
  mbx { op := 0x0404, res := 160 } h s fun s => do
    need (decide (stream < 4096)) .badArg
    let x ← named (stGet s stream)
    owned h x.owner
    need (x.kind != .decode || decide (200 ≤ h.room)) .badArg
    let s' := if clear then
        { stSet s stream { x with ctr := [] } with
          arr := { (stSet s stream { x with ctr := [] }).arr with
            recoverDrops := if x.kind == .decode then 0 else s.arr.recoverDrops } }
      else s
    done s' ((streamCounters s x).map Int.ofNat)

/-- STREAM.RECOVER (R126): encode streams only. -/
def execStreamRecover (h : Hdr) (stream picture _firstLine _lineCount : Nat) (s : State) :
    Host.Outcome State Fault Refusal :=
  mbx { op := 0x0405, inS := false } h s fun s => do
    need (decide (stream < 4096)) .badArg
    let x ← named (stGet s stream)
    owned h x.owner
    need (x.kind == .encode) .badArg
    need (!x.stopped) .state
    done (recoverEncode stream picture s)

/-- STREAM.CONCEAL: the host's verdict on a damage that waits for it, before the band's deadline (R173). -/
def execStreamConceal (h : Hdr) (stream verdict damageId : Nat) (s : State) : Host.Outcome State Fault Refusal :=
  mbx { op := 0x0406 } h s fun s => do
    need (decide (stream < 4096) && decide (verdict < 4)) .badArg
    let x ← named (stGet s stream)
    owned h x.owner
    need (x.kind == .decode) .badArg
    need (!x.stopped) .state
    match x.dec.areas.find? (fun a => a.id == damageId && a.waiting) with
    | none => .error .state
    | some a =>
      need (match a.deadline with | some p => !(reached s a.fl p 0) | none => true) .state
      done (takeArea (stSet s stream { x with dec := { x.dec with areas := x.dec.areas.map (fun b =>
        if b.id == damageId then { b with waiting := false, mode := verdict } else b) } }))

end Sys2Proof.Machine
end

