-- ==== Sys2Proof/Machine/TimeCmds.lean ====
section
/-! DEFINITION. The TIME commands (17 Table 17-5; 02). -/

namespace Sys2Proof.Machine

/-! ### Reading, selecting, adjusting (R34, R36, R37, R307) -/

/-- TIME.READ: everything latched in one cycle (R36). -/
def execTimeRead (h : Hdr) (s : State) : Host.Outcome State Fault Refusal :=
  mbx { op := 0x0201, res := 72 } h s fun s =>
    let k := s.keel
    done s [Int.ofNat k.frc, domNow s .ta, domNow s .tb, activeNow s, residualAt k k.frc, Int.ofNat k.ta.epoch,
      Int.ofNat k.tb.epoch, Int.ofNat (servoCode k.ta.st), Int.ofNat (servoCode k.tb.st),
      Int.ofNat (domNum k.followed + 128 * bit01 (k.select == 2))]

/-- TIME.SELECT: TA 0, TB 1, AUTO 2. -/
def execTimeSelect (h : Hdr) (sel : Nat) (s : State) : Host.Outcome State Fault Refusal :=
  mbx { op := 0x0202, pf := true } h s fun s => do
    need (decide (sel < 3)) .badArg
    let s := { s with keel := { s.keel with select := sel } }
    done (if sel = 0 then switchTo .ta s else if sel = 1 then switchTo .tb s else autoFollow s)

/-- A move of a domain by the host: the source of the domain opens a new epoch, a follower steps locally (R37). -/
def adjustBy (d : Dom) (delta : Ticks) (s : State) : State :=
  if leadsDom s d then leaderMove d delta s
  else if -microTicks ≤ delta ∧ delta ≤ microTicks then slewDom d delta s
  else stepDom d (delta + slewLeft s d) none (domSet s.keel d).epoch s

/-- TIME.ADJUST (R31, R37). -/
def execTimeAdjust (h : Hdr) (dom : Nat) (offset rate : Bool) (rateAdj : Int) (delta : Ticks) (s : State) :
    Host.Outcome State Fault Refusal :=
  mbx { op := 0x0203, pf := true } h s fun s =>
    match domOf dom with
    | none => .error .badArg
    | some d => do
      need (fnat (servoOf s d).f 0x2301 0 == 1) .state
      let s := if rate then setRate d rateAdj s else s
      done (if offset then adjustBy d delta s else s)

/-! ### Servo and port terms -/

/-- TIME.SERVO.SET (Table 2-3): EXCHANGE_QUEUE is written by firmware and named once (R469). -/
def execTimeServoSet (h : Hdr) (dom : Nat) (recs : List Rec) (s : State) : Host.Outcome State Fault Refusal :=
  mbx { op := 0x0204, pf := true } h s fun s =>
    match domOf dom with
    | none => .error .badArg
    | some d => do
      recsOk servoFields recs
      let v := servoOf s d
      let f := fapply v.f recs
      match fopt f 0x2309 with
      | some q =>
        if names recs 0x2309 then
          let x ← queueFor s h.fn q
          need (qProducer x.w == 8) .badArg
          if fopt v.f 0x2309 == some q then .ok () else sideFree s q false
        else .ok ()
      | none => .ok ()
      done (setServo d { v with f := f } s)

/-- The term of a record, or the one in force. -/
def termOr (recs : List Rec) (id : Nat) (d : Option Int) : Option Int :=
  match tget (fapply [] recs) id with
  | some (.num v) => some v
  | _ => d

/-- TIME.PORT.SET (Table 2-6, R465). -/
def execTimePortSet (h : Hdr) (port : Nat) (recs : List Rec) (s : State) : Host.Outcome State Fault Refusal :=
  mbx { op := 0x0205, pf := true } h s fun s =>
    match portOf port with
    | none => .error .badArg
    | some p => do
      recsOk termFields recs
      let t := match p with
        | .oa => s.tu.termsA
        | .ob => s.tu.termsB
      let t' : PortTerms := {
        tx := (termOr recs 0x2601 (t.tx.map Int.ofNat)).map Int.toNat
        rx := (termOr recs 0x2602 (t.rx.map Int.ofNat)).map Int.toNat
        asym := (termOr recs 0x2603 (some t.asym)).getD 0 }
      done (match p with
        | .oa => { s with tu := { s.tu with termsA := t' } }
        | .ob => { s with tu := { s.tu with termsB := t' } })

/-! ### Fall lines (R466-R468) -/

/-- The fields of a fall line as a change would leave them are in range together (R466, R467). -/
def flResultOk (n : Nat) (f : FallLine) : Bool :=
  (flSource f != 0 || decide (n < 2)) && (flSource f != 2 || (fopt f.f 0x290A).isSome) &&
  decide (fnat f.f 0x2904 2 < fnat f.f 0x2905 3) && decide (64 * flDen f * flLines f ≤ flPeriodNum f)

/-- Does a stream or a DEADLINE flow name fall line `n` (Table 17-5)? -/
def flNamed (s : State) (n : Nat) : Bool :=
  let flows := fun (p : Port) => p.tx.any (fun e => fnat e.2.f 0xA908 1 == 0 && fopt e.2.f 0xA909 == some n)
  s.arr.streams.any (fun e => e.2.kind != .texture && stFl e.2 == n) || flows s.bus.oa || flows s.bus.ob

/-- The ports whose running gate lists are on fall line `n` report FALLBACK entered or left (R337). -/
def gateFallback (n : Nat) (entered : Bool) (s : State) : State :=
  [BusPort.oa, BusPort.ob].foldl (fun s p =>
    let v := portGet s p
    let on := v.gates.running && (match v.gates.cur with | some g => g.base == n + 3 | none => false)
    if !on || v.gates.fellBack == entered then s
    else
      let s := setPort s p { v with gates := { v.gates with fellBack := entered } }
      event 0 0x0702 [Int.ofNat (portNum p), Int.ofNat n, Int.ofNat (bit01 entered)] s) s

/-- A change of fall line `n` comes into force (R467, R468). -/
def applyFl (n : Nat) (recs : List Rec) (s : State) : State :=
  let old := flGet s n
  let new : FallLine := { old with f := fapply old.f recs, pending := [], pendFrame := none, anchorNext := none }
  let wasRaster := flSource old == 1 || flSource old == 2
  let isRaster := flSource new == 1 || flSource new == 2
  let anchored := names recs 0x2906 && names recs 0x2907
  let frame := match flNow s n with
    | some i => (idxPos old i).frame
    | none => 0
  let new : FallLine :=
    if wasRaster && isRaster && !anchored then
      let at_ := (flTimeOf old (posIdx old ⟨frame, 0, 0⟩)).getD 0
      { new with f := tput (tput new.f 0x2906 (.time at_)) 0x2907 (.num (Int.ofNat frame)) }
    else if flSource old = flSource new then new
    else { new with fly := false, started := false, frame := 0, line := 0, seen := 0, lines := [], frames := [],
                    lastEdge := none }
  let new : FallLine := if flSource new = 2 && flSource old != 2 then { new with lastAnchor := s.keel.frc } else new
  let s := setFl s n new
  let s := gateFallback n (flSource new == 3) s
  rekey n (lateOnFl n s)

/-- Has the frame after the one in which the pending change of fall line `n` was asked for begun (R467)? A pin line that
had seen no frame edge then waits for its first one. -/
def flDue (s : State) (n : Nat) : Bool :=
  let f := flGet s n
  match f.pendFrame, flFrame s n with
  | some k, some j => if flSource f = 0 then j != k else decide (k < j)
  | _, j => j.isSome

/-- The change that waits comes into force once its frame has begun, and its commands complete (R467). -/
def settleFl (n : Nat) (s : State) : State :=
  let recs := (flGet s n).pending
  if recs.isEmpty || !(flDue s n) then s else endLongs (fun _ l => l == .flSet n) .ok [] (applyFl n recs s)

/-- TIME.FL.SET: a fall line in use changes at the start of its next frame; one that is OFF at once (R467). -/
def execTimeFlSet (h : Hdr) (fl : Nat) (recs : List Rec) (s : State) : Host.Outcome State Fault Refusal :=
  mbx { op := 0x0206, pf := true } h s fun s => do
    need (decide (fl < 16)) .badArg
    recsOk flFields recs
    need (anchorOutOk recs) .badArg
    let s := settleFl fl s
    let f := flGet s fl
    let new : FallLine := { f with f := fapply f.f (f.pending ++ recs) }
    need (flResultOk fl new) .badArg
    need (!(names recs 0x2901 && flSource new == 3 && flNamed s fl)) .busy
    if flSource f = 3 then done (applyFl fl recs s)
    else .ok (outstanding h (.flSet fl) 
      (setFl s fl { f with pending := f.pending ++ recs, pendFrame := flFrame s fl }), none)

/-! ### Comparators (R50-R53, R468) -/

/-- A TARGET or PERIOD of the form that its base takes. -/
def formOk (base : Nat) (v : Option RVal) : Bool :=
  match v with
  | some (.time _) => decide (base < 3)
  | some (.pos _) => decide (3 ≤ base)
  | _ => false

/-- PERIOD is in the range of its base (Table 2-10). -/
def periodOk (base : Nat) (v : Option RVal) : Bool :=
  formOk base v && (match v with
    | some (.time t) => decide (1000 * 65536 ≤ t) && decide (t ≤ 2 ^ 40 * 65536)
    | some (.pos p) => decide (p.frame < 65536) && decide (p.line < 65536) && p.phase == 0 && (p.frame != 0 || p.line != 0)
    | _ => false)

/-- What the ACTION names exists, is the caller's, and is in service (Table 2-11, R54, R332). -/
def actionOk (h : Hdr) (s : State) (action arg : Nat) : Except Status Unit :=
  match action with
  | 0 => do
    need (decide (arg < 8)) .badArg
    ownPin h s 1 arg
  | 1 => do
    need (decide (arg < 32768)) .badArg
    let _ ← queueFor s h.fn arg
  | 2 => do
    need (decide (arg < 131072)) .badArg
    need (s.eng == .piste) .state
    let f ← named (tget (portGet s (if arg / 65536 = 0 then .oa else .ob)).tx (arg % 65536))
    owned h f.owner
    need (!f.stopped) .state
  | 3 => do
    need (decide (arg < 512)) .badArg
    need (s.eng == .piste) .state
    need (!(portGet s (if arg / 256 = 0 then .oa else .ob)).gates.running) .conflict
  | 4 => need (s.eng == .piste) .state
  | 5 => .ok ()
  | 6 => do
    need (decide (arg < 4)) .badArg
    ownPin h s 3 arg
  | _ => need (decide (arg < 65536)) .badArg

/-- TIME.CMP.ARM: the comparator is configured anew from its records (Table 2-10, R52). -/
def execTimeCmpArm (h : Hdr) (cmp : Nat) (recs : List Rec) (s : State) : Host.Outcome State Fault Refusal :=
  mbx { op := 0x0207 } h s fun s => do
    need (decide (cmp < 64)) .badArg
    recsOk cmpFields recs
    recsHave cmpFields recs
    let f := fapply [] recs
    let base := fnat f 0x2A01 0
    let periodic := fnat f 0x2A02 0 == 1
    need (formOk base (tget f 0x2A03)) .badArg
    need (!periodic || names recs 0x2A04) .badArg
    need (!(names recs 0x2A04) || periodOk base (tget f 0x2A04)) .badArg
    ownPin h s 0 cmp
    let action := fnat f 0x2A05 0
    let arg := fnat f 0x2A06 0
    actionOk h s action arg
    let s := fireCmp false s cmp
    let c : Cmp := {
      owner := some h.fn, armed := true, base := base, periodic := periodic, action := action, arg := arg
      target := ftime f 0x2A03, targetP := (fpos f 0x2A03).getD ⟨0, 0, 0⟩
      period := ftime f 0x2A04, periodP := (fpos f 0x2A04).getD ⟨0, 0, 0⟩
      skip := fnat f 0x2A07 0 == 1 }
    let s := { s with tu := { s.tu with cmps := tput s.tu.cmps cmp c } }
    let late := match baseNow s base with
      | some b => decide (cmpTarget s c ≤ b)
      | none => false
    .ok (fireCmp true s cmp, some (if late then .okLate else .ok, []))

/-- TIME.CMP.DISARM takes effect after a firing of its cycle (R53). -/
def execTimeCmpDisarm (h : Hdr) (cmp : Nat) (s : State) : Host.Outcome State Fault Refusal :=
  mbx { op := 0x0208 } h s fun s => do
    need (decide (cmp < 64)) .badArg
    ownPin h s 0 cmp
    let s := fireCmp false s cmp
    let c : Cmp := tgetD s.tu.cmps cmp {}
    done { s with tu := { s.tu with cmps := tput s.tu.cmps cmp { c with armed := false } } } [Int.ofNat c.firings]

/-! ### TRIG and CAP (R54-R56) -/

/-- TIME.TRIG.SET (Table 2-12). -/
def execTimeTrigSet (h : Hdr) (trig : Nat) (recs : List Rec) (s : State) : Host.Outcome State Fault Refusal :=
  mbx { op := 0x0209 } h s fun s => do
    need (decide (trig < 8)) .badArg
    recsOk trigFields recs
    ownPin h s 1 trig
    let x : Trig := tgetD s.tu.trigs trig {}
    let f := fapply [] recs
    let x' : Trig := { x with
      width := fnat f 0x2C01 x.width
      low := fnat f 0x2C02 (bit01 x.low) == 1
      highZ := fnat f 0x2C03 (bit01 x.highZ) == 1 }
    done { s with tu := { s.tu with trigs := tput s.tu.trigs trig x' } }

/-- SOURCE codes that an internal FIFO may select (Table 2-13). -/
def sourceCode (n : Nat) : Bool :=
  (decide (0x10 ≤ n) && decide (n < 0x20)) || (decide (0x40 ≤ n) && decide (n < 0x80)) || n == 0x80 || n == 0x81

/-- The kind and index of a FIFO as a pin object: CAP0-CAP3, IC0-IC3. -/
def fifoPin (fifo : Nat) : Nat × Nat := if fifo < 4 then (2, fifo) else (3, fifo - 4)

/-- TIME.CAP.SET (R55). -/
def execTimeCapSet (h : Hdr) (fifo edges : Nat) (sources : List Nat) (s : State) : Host.Outcome State Fault Refusal :=
  mbx { op := 0x020A } h s fun s => do
    need (decide (fifo < 8) && decide (edges < 4)) .badArg
    need (if fifo < 4 then sources.isEmpty else edges == 0 && sources.all (fun n => sourceCode n)) .badArg
    ownPin h s (fifoPin fifo).1 (fifoPin fifo).2
    let x : CapFifo := tgetD s.tu.caps fifo {}
    done { s with tu := { s.tu with caps := tput s.tu.caps fifo { x with edges := edges, sources := sources } } }

/-- The fields of an entry (Table 2-13). -/
def entryFields (e : CapEntry) : List Int :=
  [e.time, Int.ofNat e.epoch, Int.ofNat e.seq, Int.ofNat e.source, Int.ofNat e.flags]

/-- TIME.CAP.READ: the oldest entries leave the FIFO (R56). -/
def execTimeCapRead (h : Hdr) (fifo max : Nat) (s : State) : Host.Outcome State Fault Refusal :=
  mbx { op := 0x020B } h s fun s => do
    need (decide (fifo < 8) && decide (1 ≤ max) && decide (max ≤ 16)) .badArg
    ownPin h s (fifoPin fifo).1 (fifoPin fifo).2
    let x : CapFifo := tgetD s.tu.caps fifo {}
    let out := x.entries.take max
    need (decide (8 + 24 * out.length ≤ h.room)) .badArg
    let x' : CapFifo := { x with entries := x.entries.drop max }
    done { s with tu := { s.tu with caps := tput s.tu.caps fifo x' } }
      ([Int.ofNat out.length, Int.ofNat x.overflow] ++ out.flatMap entryFields)

end Sys2Proof.Machine
end

