-- ==== Sys2Proof/Machine/TimeEvents.lean ====
section
/-! DEFINITION. The events of the time and trigger unit (02; 10 R267). -/

namespace Sys2Proof.Machine

/-- COMPARATOR_FIRE (R50-R53): every comparator that has reached its target fires, in ascending order (R51); `arrival`
says that what the comparator named guards arrives in this cycle, and then it does not fire (R53). -/
def execComparatorFire (t : Nat) (f : FireFacts) (s : State) : Host.Outcome State Fault Refusal :=
  evOn (decide (f.cmp < 64)) t s fun s => settleCmps (if f.arrival then yieldCmp s f.cmp else s)

/-! ### Pin fall lines (R43-R45) -/

/-- A TIME_FL event: kind 1 FL_FLYWHEEL set, 2 cleared, 3 FL_LINES_MISMATCH. -/
def flEvent (n kind : Nat) (s : State) : State :=
  let f := flGet s n
  event 0 0x0204 [Int.ofNat n, Int.ofNat kind, Int.ofNat f.frame, Int.ofNat f.line, Int.ofNat f.seen] s

/-- FL_FLYWHEEL set: a condition that lasts until an edge or an anchor returns (R45, R47). -/
def flyOn (n : Nat) (s : State) : State :=
  if (flGet s n).fly then s
  else flEvent n 1 (raise (0x310 + n) 1 0 true (setFl s n { flGet s n with fly := true }))

/-- FL_FLYWHEEL cleared. -/
def flyOff (n : Nat) (s : State) : State :=
  if (flGet s n).fly then flEvent n 2 (endCond (0x310 + n) (setFl s n { flGet s n with fly := false })) else s

/-- Two edges within 16 ns are one (R43). -/
def sameEdge (a b : Ticks) : Bool := decide ((a - b).natAbs ≤ 16 * 65536)

/-- The line edge just before a frame edge, where the two are the same edge, is taken back (R43). -/
def dropTwin (tau : Ticks) (f : FallLine) : FallLine :=
  match f.lastEdge with
  | some e =>
    if sameEdge e tau && f.started && !f.fly then
      { f with seen := f.seen - 1
               lines := match f.lines with
                 | x :: r => if x.time = e then r else f.lines
                 | [] => [] }
    else f
  | none => f

/-- A frame edge starts line 0 of frame `n`; the frame that it ends was complete if every line of it came by an edge
(R44). -/
def startFrame (n : Nat) (tau : Ticks) (synth : Bool) (f : FallLine) : FallLine :=
  let whole := f.started && !f.fly && !synth && f.seen == flLines f
  let e : Edge := { frame := n, line := 0, time := tau, synth := synth, len := if whole then f.seen else 0 }
  { f with started := true, frame := n, line := 0, seen := 1, lastEdge := some tau
           lines := (e :: f.lines).take 1024, frames := (e :: f.frames).take 16 }

/-- The next line of the current frame starts. -/
def startLine (tau : Ticks) (synth : Bool) (f : FallLine) : FallLine :=
  let e : Edge := { frame := f.frame, line := f.line + 1, time := tau, synth := synth }
  { f with line := f.line + 1, seen := f.seen + 1, lastEdge := some tau, lines := (e :: f.lines).take 1024 }

/-- The frame after `f`'s. -/
def nextFrame (f : FallLine) : Nat := (f.frame + 1) % 2 ^ 48

/-- A line of a SYNTH or RELAY fall line has started: its edge goes to the internal FIFOs once (R46, R55). -/
def rasterEdge (fl : Nat) (s : State) : State :=
  let f := flGet s fl
  match (flNow s fl).bind (fun i => flTimeOf f (Int.fdiv i 65536 * 65536)) with
  | some tau =>
    if f.lastEdge == some tau then s
    else routeInternal (0x10 + fl) (16 * bit01 f.fly) tau (setFl s fl { f with lastEdge := some tau })
  | none => s

/-- FL_FRAME_EDGE (R43, R45): the row stands for an active edge, or on a SYNTH or RELAY fall line for the start of line
0. -/
def execFlFrameEdge (t fl tdc : Nat) (s : State) : Host.Outcome State Fault Refusal :=
  evOn (decide (fl < 16)) t s fun s =>
    if flSource (flGet s fl) != 0 then rasterEdge fl s
    else
      let tau := stampActive t tdc s
      let f := dropTwin tau (flGet s fl)
      let n := if f.started then nextFrame f else fnat f.f 0x2908 0
      let wrong := f.started && !f.fly && f.seen != flLines f
      let g := startFrame n tau false f
      let s := setFl s fl f
      let s := if wrong then flEvent fl 3 (raise (0x310 + fl) 2 0 false s) else s
      let s := flyOff fl s
      let s := routeInternal (0x10 + fl) 0 tau (setFl s fl { g with fly := false })
      rekey fl (if f.started then s else lateOnFl fl s)

/-- FL_LINE_EDGE (R43, R45), or on a SYNTH or RELAY fall line the start of a line. -/
def execFlLineEdge (t fl tdc : Nat) (s : State) : Host.Outcome State Fault Refusal :=
  evOn (decide (fl < 16)) t s fun s =>
    let f := flGet s fl
    let tau := stampActive t tdc s
    let twin := match f.frames with
      | e :: _ => sameEdge e.time tau
      | [] => false
    if flSource f != 0 then rasterEdge fl s
    else if !f.started || f.fly || twin then s
    else if flLines f ≤ f.line + 1 then setFl s fl { f with seen := f.seen + 1, lastEdge := some tau }
    else routeInternal (0x10 + fl) 0 tau (setFl s fl (startLine tau false f))

/-- One mean line period of a pin fall line in ticks, rounded to the nearest (R44). -/
def linePeriod (f : FallLine) : Ticks :=
  let (a, b) := pinRate f
  timeOfUnits a b 65536

/-- FL_FLYWHEEL_TIMEOUT: after 1.5 mean line periods without an edge, edges come at the mean period (R45). -/
def execFlFlywheelTimeout (t fl : Nat) (s : State) : Host.Outcome State Fault Refusal :=
  evOn (decide (fl < 16)) t s fun s =>
    let f := flGet s fl
    let per := linePeriod f
    match f.lastEdge with
    | none => s
    | some e =>
      let due := if f.fly then activeNow s ≥ e + per else 2 * (activeNow s - e) ≥ 3 * per
      if flSource f != 0 || !f.started || !due then s
      else
        let s := flyOn fl s
        let f := flGet s fl
        let tau := e + per
        let wrap := decide (flLines f ≤ f.line + 1)
        let f' := if wrap then startFrame (nextFrame f) tau true f else startLine tau true f
        let s := routeInternal (0x10 + fl) 16 tau (setFl s fl f')
        if wrap then rekey fl s else s

/-- The anchor that waits comes into force once the frame that it names has begun (R47). -/
def settleAnchor (n : Nat) (s : State) : State :=
  let f := flGet s n
  match f.anchorNext, flFrame s n with
  | some (k, recs), some j =>
    if Int.ofNat k ≤ j then rekey n (setFl s n { f with f := fapply f.f recs, anchorNext := none }) else s
  | _, _ => s

/-- FL_CHANGE_APPLY: at line 0 of the next frame what waits for it comes into force (R467, R47). -/
def execFlChangeApply (t fl : Nat) (s : State) : Host.Outcome State Fault Refusal :=
  evOn (decide (fl < 16)) t s fun s => settleFl fl (settleAnchor fl s)

/-! ### Anchors (R47, R267) -/

/-- The payload of FL_ANCHOR (Tables 2-7, 2-8); its TSEQ is zero (log 42). -/
def anchorPayload (s : State) (n frame : Nat) : List Byte :=
  let f := flGet s n
  let k := s.keel
  let at_ := (flTimeOf f (posIdx f ⟨frame, 0, 0⟩)).getD 0
  timeHead 5 k.followed (domSet k k.followed) 0 ++ leBytes 1 n ++ leBytes 1 (bit01 f.fly) ++ leBytes 6 frame ++
    timeBytes at_ ++ leBytes 2 (flLines f) ++ leBytes 4 (fnat f.f 0x2903 16666666) ++ leBytes 4 (fnat f.f 0x2904 2) ++
    leBytes 4 (fnat f.f 0x2905 3)

/-- FL_ANCHOR_TX: once per frame, at its line 0, to the destination of ANCHOR_OUT. -/
def execFlAnchorTx (t fl : Nat) (s : State) : Host.Outcome State Fault Refusal :=
  evOn (decide (fl < 16)) t s fun s =>
    let f := flGet s fl
    match flist f.f 0x290C, flNow s fl with
    | [p, dk, dst], some i =>
      let frame := (idxPos f i).frame
      if f.sentFrame == some frame || !(inService s) then s
      else
        let s := setFl s fl { f with sentFrame := some frame }
        queueTime (if p = 0 then .oa else .ob) 4 dk dst (anchorPayload s fl frame) s
    | _, _ => s

/-- Does a port take a time frame (R267)? One without a valid tag counts in AUTH_REJECTS. -/
def timeTagOk (v : Port) (tagOk : Bool) : Bool := fnat v.f 0xAC0C 0 == 0 || tagOk

/-- The parameters that a received anchor gives. -/
def anchorRecs (a : FlAnchor) : List Rec :=
  [⟨0x2902, .num (Int.ofNat a.lines)⟩, ⟨0x2903, .num (Int.ofNat a.fpNs)⟩, ⟨0x2904, .num (Int.ofNat a.fpNum)⟩,
   ⟨0x2905, .num (Int.ofNat a.fpDen)⟩, ⟨0x2906, .time a.time⟩, ⟨0x2907, .num (Int.ofNat a.frame)⟩]

/-- A relayed fall line takes an anchor: from line 0 of the frame named, at once where that has begun (R47). -/
def takeAnchor (n : Nat) (a : FlAnchor) (s : State) : State :=
  let f := flGet s n
  let recs := anchorRecs a
  if flSource f != 2 || fopt f.f 0x290A != some a.src || fnat f.f 0x290B 0 != a.fl ||
     !(recs.all (fun r => match specOf flFields r.id with | some x => inRange x.range r.val | none => false)) ||
     !(flResultOk n { f with f := fapply f.f recs }) then s
  else
    let s := flyOff n s
    let s := setFl s n { flGet s n with lastAnchor := s.keel.frc }
    settleAnchor n (setFl s n { flGet s n with anchorNext := some (a.frame, recs) })

/-- FL_ANCHOR_RX. -/
def execFlAnchorRx (t : Nat) (port : BusPort) (a : FlAnchor) (s : State) : Host.Outcome State Fault Refusal :=
  ev t s fun s =>
    if !(inService s) then s
    else if !(timeTagOk (portGet s port) a.tagOk) then portCount port 30 1 s
    else (List.range 16).foldl (fun s n => takeAnchor n a s) s

/-- RELAY_ANCHOR_TIMEOUT: no anchor for 4 frames (R47). -/
def execRelayAnchorTimeout (t fl : Nat) (s : State) : Host.Outcome State Fault Refusal :=
  evOn (decide (fl < 16)) t s fun s =>
    let f := flGet s fl
    if flSource f = 2 ∧ 4 * flPeriodNum f ≤ (s.keel.frc - f.lastAnchor) * flDen f then flyOn fl s else s

/-! ### Capture inputs (R55) -/

/-- CAP_EDGE: a second edge within 4 ns is merged into the first entry, where the FIFO still holds that. -/
def execCapEdge (t cap : Nat) (falling : Bool) (tdc : Nat) (s : State) : Host.Outcome State Fault Refusal :=
  evOn (decide (cap < 4)) t s fun s =>
    let x : CapFifo := tgetD s.tu.caps cap {}
    let raw := stampOf t tdc s
    if x.owner.isNone || !(bitOf x.edges (bit01 falling)) then s
    else
      let near := match x.lastRaw with
        | some e => decide ((raw - e).natAbs ≤ 4 * 65536)
        | none => false
      if near then
        let es := x.entries.map (fun e =>
          if some e.seq == x.lastSeq && !(bitOf e.flags 1) then { e with flags := e.flags + 2 } else e)
        { s with tu := { s.tu with caps := tput s.tu.caps cap { x with entries := es } } }
      else
        let seq := if x.entries.length < 64 then some x.seq else none
        let s := capWrite cap cap (bit01 falling) (stampActive t tdc s) s
        { s with tu := { s.tu with caps := tmod s.tu.caps cap (fun x => { x with lastRaw := some raw, lastSeq := seq }) } }

/-! ### The time exchange (R41, R42) -/

/-- SYNC_INTERVAL of a servo in ns. -/
def syncNs (v : Servo) : Nat := fnat v.f 0x2302 1000 * 1000

/-- SYNC_TX: a leader's SYNC, every SYNC_INTERVAL; t1 is written once arbitration is won (R41). -/
def execSyncTx (t : Nat) (port : BusPort) (dom : Dom) (s : State) : Host.Outcome State Fault Refusal :=
  ev t s fun s =>
    let v := portGet s port
    let sv := servoOf s dom
    let due := match tget v.syncAt (domNum dom) with
      | some x => decide (x + syncNs sv ≤ s.keel.frc)
      | none => true
    if !(inService s) || !(leadsOn v dom) || !due then s
    else
      let k := domSet s.keel dom
      let s := setServo dom { sv with tseq := (sv.tseq + 1) % 65536 } s
      let s := setPort s port { v with syncAt := tput v.syncAt (domNum dom) s.keel.frc }
      queueTime port 2 2 0 (timeHead 1 dom k ((sv.tseq + 1) % 65536) ++ timeBytes 0 ++ timeBytes sv.lastStep ++
        leInt 4 k.rateAdj) s

/-- The first SYNC of an unset domain: the engine steps to the leader and goes to ACQUIRE (Table 2-4). -/
def firstStep (d : Dom) (epoch : Nat) (delta : Ticks) (s : State) : State :=
  setDomSt d .acquire (stepDom d delta none epoch s)

/-- A new epoch of the leader: the follower steps to it, and its rasters move by STEP (Table 2-5). -/
def followStep (d : Dom) (epoch : Nat) (step delta : Ticks) (s : State) : State :=
  let s := stepDom d delta (some step) epoch s
  setServo d { servoOf s d with integ := 0, lastStep := step, exch := none, lockRun := 0 } s

/-- The exchange that follows a SYNC: every DREQ_RATIO SYNC frames a DELAY_REQ goes to the leader (R42). -/
def startExchange (port : BusPort) (f : TimeFrame) (t2 : Ticks) (s : State) : State :=
  let d := f.domain
  let sv := servoOf s d
  let x : Exch := { leader := f.src, epoch := f.epoch, tseq := f.tseq, t1 := if f.twoStep then none else some f.origin,
                    t2 := t2, t3 := none, sentAt := s.keel.frc }
  let ask := decide (fnat sv.f 0x2303 4 ≤ sv.sinceReq + 1) && f.capable
  if ask then
    let s := setServo d { sv with exch := some x, sinceReq := 0 } s
    queueTime port 3 0 f.src (timeHead 3 d (domSet s.keel d) f.tseq ++ timeBytes 0) s
  else setServo d { sv with sinceReq := sv.sinceReq + 1 } s

/-- Does the engine follow a domain on a port? -/
def follows (s : State) (port : BusPort) (d : Dom) : Bool := port == followPort s && !(leadsOn (portGet s port) d)

/-- A received time frame of the exchange is for this engine and passes TIME_AUTH. -/
def timeRx (port : BusPort) (tagOk : Bool) (s : State) (f : State → State) : State :=
  if !(inService s) then s
  else if !(timeTagOk (portGet s port) tagOk) then portCount port 30 1 s
  else f s

/-- SYNC_RX (R37, R41, R42, Table 2-4). -/
def execSyncRx (t : Nat) (port : BusPort) (f : TimeFrame) (s : State) : Host.Outcome State Fault Refusal :=
  ev t s fun s => timeRx port f.tagOk s fun s =>
    let d := f.domain
    if !(follows s port d) then s
    else
      let s := routeInternal 0x81 (8 * domNum d) (stampActive f.stampNs f.stampTdc s) s
      let s := setServo d { servoOf s d with lastSync := s.keel.frc, freqEst := f.rateHint } s
      let t2 := fun (s : State) => ingress s port d f.stampNs f.stampTdc
      let s :=
        if (domSet s.keel d).st == .free then
          if f.twoStep then s else firstStep d f.epoch (f.origin - t2 s) s
        else
          let s := if (domSet s.keel d).epoch != f.epoch && !f.twoStep then followStep d f.epoch f.step (f.origin - t2 s) s else s
          if (domSet s.keel d).st == .holdover then
            setDomSt d .acquire (setServo d { servoOf s d with lockRun := 0 } s)
          else s
      let due : Option TwoStep :=
        if f.twoStep then some { leader := f.src, epoch := f.epoch, tseq := f.tseq, t2 := t2 s, step := f.step } else none
      startExchange port f (t2 s) (setServo d { servoOf s d with twoStep := due } s)

/-- FOLLOW_UP_RX: t1 of a two-step SYNC, which then does what a one-step SYNC does (R37, R41, Table 2-4); another EPOCH or
TSEQ discards the exchange (R42). -/
def execFollowUpRx (t : Nat) (port : BusPort) (f : TimeFrame) (s : State) : Host.Outcome State Fault Refusal :=
  ev t s fun s => timeRx port f.tagOk s fun s =>
    let d := f.domain
    let sv := servoOf s d
    if !(follows s port d) then s
    else match sv.twoStep with
      | none => s
      | some x =>
        if x.leader != f.src then s
        else if x.tseq != f.tseq || x.epoch != f.epoch then setServo d { sv with exch := none, twoStep := none } s
        else
          let k := domSet s.keel d
          let s := setServo d { sv with
            twoStep := none
            exch := sv.exch.map (fun e => if e.tseq == f.tseq then { e with t1 := some f.origin } else e) } s
          if k.st == .free then firstStep d f.epoch (f.origin - x.t2) s
          else if k.epoch != f.epoch then followStep d f.epoch x.step (f.origin - x.t2) s
          else s

/-- DELAY_REQ_RX: the leader answers with t4 (R42). -/
def execDelayReqRx (t : Nat) (port : BusPort) (f : TimeFrame) (s : State) : Host.Outcome State Fault Refusal :=
  ev t s fun s => timeRx port f.tagOk s fun s =>
    if !(leadsOn (portGet s port) f.domain) then s
    else
      let t4 := ingress s port f.domain f.stampNs f.stampTdc
      queueTime port 3 0 f.src (timeHead 4 f.domain (domSet s.keel f.domain) f.tseq ++ timeBytes t4 ++ leBytes 2 f.src) s

/-- Arithmetic shift right. -/
def sar (v : Int) (n : Nat) : Int := Int.fdiv v (2 ^ n)

/-- 500 ppm in units of 2^-40. -/
def ppm500 : Int := 549755813

/-- One pass of the loop of "Servo": `theta` in ticks. -/
def servoLoop (d : Dom) (theta : Ticks) (s : State) : State :=
  let sv := servoOf s d
  if theta < -microTicks ∨ microTicks < theta then
    let s := stepDom d (-theta) none (domSet s.keel d).epoch s
    setServo d { servoOf s d with integ := 0 } s
  else
    let ratio := Int.fdiv (theta * 2 ^ 24) (Int.ofNat (syncNs sv))
    let integ := sv.integ + sar ratio (fnat sv.f 0x2305 6)
    let corr := sar ratio (fnat sv.f 0x2304 2)
    let r := clampI (sv.freqEst - integ - corr) (sv.freqEst - ppm500) (sv.freqEst + ppm500)
    setRate d r (setServo d { sv with integ := integ } s)

/-- The lock criterion of Table 2-4. -/
def judgeLock (d : Dom) (theta : Ticks) (s : State) : State :=
  let sv := servoOf s d
  let lim := Int.ofNat (fnat sv.f 0x2306 50) * tickNs
  let abs := Int.ofNat theta.natAbs
  let run := if abs ≤ lim then sv.lockRun + 1 else 0
  let s := setServo d { sv with lockRun := run } s
  match (domSet s.keel d).st with
  | .acquire => if fnat sv.f 0x2307 8 ≤ run then setDomSt d .locked s else s
  | .locked => if 4 * lim < abs then setDomSt d .acquire s else s
  | _ => s

/-- HOST mode: the exchange record is committed to EXCHANGE_QUEUE, or dropped and counted (02 "Servo"). -/
def recordExchange (d : Dom) (ts : List Int) (s : State) : State :=
  let sv := servoOf s d
  let data := (Config.exchangeRecord ts).take 256
  match fopt sv.f 0x2309 with
  | some q =>
    if hasCredit s q 1 then writePacket q data false {} s else setServo d { sv with drops := sv.drops + 1 } s
  | none => setServo d { sv with drops := sv.drops + 1 } s

/-- A secondary that hears the primary steers its TB to its TA (R304). -/
def steerTb (port : BusPort) (s : State) : State :=
  let v := portGet s port
  if anchorRole v = 2 ∧ within3ms s (anchorHeard v false) then
    let d := domNow s .ta - domNow s .tb - slewLeft s .tb
    if d = 0 then s else leaderMove .tb d s
  else s

/-- DELAY_RSP_RX: an exchange completes and feeds the servo, or is discarded (R42). -/
def execDelayRspRx (t : Nat) (port : BusPort) (f : TimeFrame) (requester : Nat) (s : State) : Host.Outcome State Fault Refusal :=
  ev t s fun s => timeRx port f.tagOk s fun s =>
    let d := f.domain
    let sv := servoOf s d
    match sv.exch with
    | none => s
    | some x =>
      if !(follows s port d) || x.leader != f.src || requester != nodeOf port (portGet s port) then s
      else
        let s := setServo d { sv with exch := none } s
        match x.t1, x.t3 with
        | some t1, some t3 =>
          if x.tseq != f.tseq || x.epoch != f.epoch || !f.capable || decide (x.sentAt + syncNs sv < s.keel.frc) then s
          else
            let asym := psTicks (termsOf s port).2.2
            let theta := Int.fdiv (x.t2 - t1 - (f.origin - t3) - asym) 2
            let s := if fnat sv.f 0x2301 0 = 1 then recordExchange d [t1, x.t2, t3, f.origin] s else servoLoop d theta s
            let s := judgeLock d theta s
            autoFollow (if d = .ta then steerTb port s else s)
        | _, _ => s

/-- SYNC_MISS_HOLDOVER: HOLDOVER_MISS syncs missed (Table 2-4). -/
def execSyncMissHoldover (t : Nat) (dom : Dom) (s : State) : Host.Outcome State Fault Refusal :=
  ev t s fun s =>
    let sv := servoOf s dom
    let st := (domSet s.keel dom).st
    if (st == .locked || st == .acquire) && decide (sv.lastSync + fnat sv.f 0x2308 3 * syncNs sv ≤ s.keel.frc) then
      setDomSt dom .holdover (setServo dom { sv with lockRun := 0, exch := none } s)
    else s

/-- RESIDUAL_SLEW_DONE: a residual that has been slewed away is zero (R34). -/
def execResidualSlewDone (t : Nat) (s : State) : Host.Outcome State Fault Refusal :=
  ev t s fun s =>
    if residualAt s.keel s.keel.frc = 0 then { s with keel := { s.keel with residual := 0 } } else s

end Sys2Proof.Machine
end

