-- ==== Sys2Proof/Machine/Trust.lean ====
section
/-! DEFINITION. The TRUST commands (17 Table 17-12; 15). -/

namespace Sys2Proof.Machine

/-- TRUST.INFO: the fields of Table 17-12 with a new challenge (R355), then the rest that R353 names: the fuse groups and the
running firmware's SVN. -/
def execTrustInfo (h : Hdr) (s : State) : Host.Outcome State Fault Refusal :=
  mbx { op := 0x0901, inH := true, res := 348 } h s fun s =>
    let (v, s') := newChallenge false s
    done s' ([lifecycle s.trust, s.trust.rootHash, s.trust.fuseFw, s.trust.fuseCfg, bit01 s.trust.runB,
      Config.fwVersion s.trust.meas, v, Config.deviceCert, s.trust.lcProv, s.trust.lcField, s.trust.lcRma, s.trust.svn].map Int.ofNat)

/-- TRUST.PROVISION: in BLANK, OEM_ROOT_HASH and LC_PROV are burned and PK is stored; a failed check burns
nothing (R364). The transition erases the vault (R361). -/
def execTrustProvision (h : Hdr) (rootHash : Nat) (blob : BlobFacts) (pcbOk : Bool) (pcbSvn : Nat) (s : State) :
    Host.Outcome State Fault Refusal :=
  mbx { op := 0x0902, w := true } h s fun s => do
    need (lifecycle s.trust == 0) .state
    need (blob.formOk && blob.kind == 3 && blob.wrap == 2 && blob.deviceOk && blob.tagOk && decide (blob.minSvn ≤ s.trust.svn) &&
      !(expired s blob.expires blob.expiry)) .auth
    need (pcbOk && decide (minCfgSvn s ≤ pcbSvn)) .auth
    let s := { s with trust := { s.trust with
      rootHash := rootHash, lcProv := 8, pkStored := some blob.key, pcbOk := true, pcbSvn := pcbSvn } }
    done (eraseVault s)

/-- TRUST.LIFECYCLE.ADVANCE: the next state's group is burned, with the tokens that its row asks for (R355). A
token that does not name the next state does not verify; an engineering sample does not go to FIELD (20 R463). -/
def execTrustLifecycleAdvance (h : Hdr) (target oemChal neythChal : Nat) (oemOk neythOk : Bool) (s : State) :
    Host.Outcome State Fault Refusal :=
  mbx { op := 0x0903, w := true, inS := false } h s fun s =>
    let two := lifecycle s.trust == 2
    let sample := s.trust.es && lifecycle s.trust == 1 && target == 2
    let ok := oemOk && challengeOk s false oemChal && (!two || (neythOk && challengeOk s false neythChal)) &&
      (lifecycle s.trust == 1 || two) && target == lifecycle s.trust + 1
    let s' := useChallenge oemChal (if two then useChallenge neythChal s else s)
    if sample then .error .state
    else if !ok then .ok (s', some (.auth, []))
    else
      let t := s'.trust
      done (eraseVault { s' with trust := if two then { t with lcRma := 8, pkStored := none } else { t with lcField := 8 } })

/-- TRUST.DEBUG.UNLOCK: until the next RESET_N; it erases the vault (R356, R361). -/
def execTrustDebugUnlock (h : Hdr) (chal : Nat) (oemOk neythOk : Bool) (s : State) : Host.Outcome State Fault Refusal :=
  mbx { op := 0x0904, w := true } h s fun s =>
    let l := lifecycle s.trust
    if l != 1 && l != 3 then .error .state
    else
      let ok := challengeOk s false chal && (if l = 1 then oemOk else neythOk)
      let s' := useChallenge chal s
      if !ok then .ok (s', some (.auth, []))
      else done (eraseVault { s' with trust := { s'.trust with debug := true } })

/-- The checks of steps 4 and 5 of R357 on an image. -/
def imageCheck (s : State) (sigOk : Bool) (lcMask svn : Nat) : Except Status Unit := do
  need sigOk .auth
  need (imageAllowed s lcMask svn) .noPerm

/-- TRUST.FW.STAGE: the image goes into the slot that is not running (R359). -/
def execTrustFwStage (h : Hdr) (sigOk : Bool) (lcMask svn meas : Nat) (s : State) : Host.Outcome State Fault Refusal :=
  mbx { op := 0x0905, w := true, inS := false } h s fun s => do
    imageCheck s sigOk lcMask svn
    let i : Image := { ok := true, lc := lcMask, svn := svn, meas := meas }
    let t := { s.trust with staged := true }
    done { s with trust := if s.trust.runB then { t with slotA := i } else { t with slotB := i } }
      [Int.ofNat (bit01 (!s.trust.runB))]

/-- TRUST.FW.ACTIVATE: PREFERRED is the staged slot, with TRY 3 (R359). -/
def execTrustFwActivate (h : Hdr) (s : State) : Host.Outcome State Fault Refusal :=
  mbx { op := 0x0906, w := true, inS := false } h s fun s => do
    need s.trust.staged .state
    done { s with trust := { s.trust with preferB := !s.trust.runB, tryN := 3 } }

/-- TRUST.FW.COMMIT: TRY is cleared, the shadows rise, and at most 4 fuse bits are burned (R359, R360). -/
def execTrustFwCommit (h : Hdr) (s : State) : Host.Outcome State Fault Refusal :=
  mbx { op := 0x0907, w := true, inS := false } h s fun s =>
    let shFw := max s.keel.shadowFw (min 64 s.trust.svn)
    let shCfg := if s.trust.pcbOk then max s.keel.shadowCfg (min 32 s.trust.pcbSvn) else s.keel.shadowCfg
    let b1 := min 4 (shFw - s.trust.fuseFw)
    let b2 := min (4 - b1) (shCfg - s.trust.fuseCfg)
    let fw := s.trust.fuseFw + b1
    let cfg := s.trust.fuseCfg + b2
    let s := { s with
      keel := { s.keel with shadowFw := shFw, shadowCfg := shCfg }
      trust := { s.trust with tryN := 0, fuseFw := fw, fuseCfg := cfg } }
    done s ([fw, cfg, (shFw - fw) + (shCfg - cfg)].map Int.ofNat)

/-- TRUST.FW.RECOVER: in HALTED, a signed image is written to slot A (R358). -/
def execTrustFwRecover (h : Hdr) (sigOk : Bool) (lcMask svn meas : Nat) (s : State) : Host.Outcome State Fault Refusal :=
  mbx { op := 0x0908, w := true, inS := false, inP := false, inH := true, core := true } h s fun s => do
    need (sigOk && imageAllowed s lcMask svn) .auth
    done { s with trust := { s.trust with slotA := { ok := true, lc := lcMask, svn := svn, meas := meas } } }

/-- TRUST.PCB.SET (R362). -/
def execTrustPcbSet (h : Hdr) (ok : Bool) (svn : Nat) (s : State) : Host.Outcome State Fault Refusal :=
  mbx { op := 0x0909, w := true, inS := false } h s fun s => do
    need ok .auth
    need (decide (minCfgSvn s ≤ svn)) .noPerm
    done { s with trust := { s.trust with pcbOk := true, pcbSvn := svn } }

/-- The general slot for a key: the one named, or a free one (R365). -/
def keySlotFor (h : Hdr) (s : State) (slot : Option Nat) : Except Status Nat :=
  match slot with
  | some n =>
    match tget s.keel.vault.slots n with
    | some k => if k.owner = h.fn then .ok n else .error .conflict
    | none => .ok n
  | none =>
    match tfree s.keel.vault.slots 0 128 with
    | some n => .ok n
    | none => .error .noRes

/-- A key in a general slot. -/
def putKey (n : Nat) (k : KeySlot) (s : State) : State :=
  { s with keel := { s.keel with vault := { s.keel.vault with slots := tput s.keel.vault.slots n k } } }

/-- TRUST.KEY.LOAD (R363, R365). -/
def execTrustKeyLoad (h : Hdr) (slot : Option Nat) (blob : BlobFacts) (s : State) : Host.Outcome State Fault Refusal :=
  mbx { op := 0x090A, inS := false } h s fun s => do
    need (match slot with | some n => decide (n < 128) | none => true) .badArg
    keysAllowed s
    need (blob.formOk && (blob.kind == 1 || blob.kind == 2)) .badArg
    let n ← keySlotFor h s slot
    blobCheck s blob
    done (putKey n { owner := h.fn, kind := blob.kind, key := blob.key } s) [Int.ofNat n]

/-- TRUST.KEY.GENERATE: a random VOLUME key, returned as a DEVICE_STORAGE blob (R365). -/
def execTrustKeyGenerate (h : Hdr) (slot : Option Nat) (s : State) : Host.Outcome State Fault Refusal :=
  mbx { op := 0x090B, inS := false, res := 249 } h s fun s => do
    need (match slot with | some n => decide (n < 128) | none => true) .badArg
    let n ← keySlotFor h s slot
    let (v, s) := takeRandom s
    done (putKey n { owner := h.fn, kind := 2, key := v } s) [Int.ofNat n, Int.ofNat (Config.sealedVal [3, v])]

/-- TRUST.KEY.ERASE (R365). -/
def execTrustKeyErase (h : Hdr) (slot : Nat) (s : State) : Host.Outcome State Fault Refusal :=
  mbx { op := 0x090C, inS := false } h s fun s => do
    need (decide (slot < 128)) .badArg
    let k ← named (tget s.keel.vault.slots slot)
    owned h k.owner
    need (!(s.asset.volumes.any (fun e => e.2.slot == slot))) .busy
    done { s with keel := { s.keel with vault := { s.keel.vault with slots := tdel s.keel.vault.slots slot } } }

/-- TRUST.AUTHORITY.SET (R366): the key authority of a port's segment. -/
def execTrustAuthoritySet (h : Hdr) (port node : Nat) (s : State) : Host.Outcome State Fault Refusal :=
  mbx { op := 0x090D, w := true } h s fun s =>
    match portOf port with
    | none => .error .badArg
    | some p => done (setPort s p { portGet s p with authority := some node })

/-- TRUST.NODE.REVOKE (R370). -/
def execTrustNodeRevoke (h : Hdr) (port node subject : Nat) (s : State) : Host.Outcome State Fault Refusal :=
  mbx { op := 0x090E, pf := true } h s fun s =>
    match portOf port with
    | none => .error .badArg
    | some p =>
      let s := abortEnroll p node (dropNodeKeys p node s)
      let v := portGet s p
      done (setPort s p { v with revoked := if v.revoked.contains subject then v.revoked else v.revoked ++ [subject] })

/-- TRUST.SESSION.CHALLENGE (R371). -/
def execTrustSessionChallenge (h : Hdr) (s : State) : Host.Outcome State Fault Refusal :=
  mbx { op := 0x090F, inS := false, res := 32 } h s fun s =>
    let (v, s') := newChallenge true s
    done s' [Int.ofNat v]

/-- TRUST.SESSION.OPEN (R371). -/
def execTrustSessionOpen (h : Hdr) (chal : Nat) (chainOk sigOk : Bool) (key : Nat) (s : State) :
    Host.Outcome State Fault Refusal :=
  mbx { op := 0x0910, inS := false, res := 613 } h s fun s => do
    need (!s.trust.debug && s.trust.pcbOk) .state
    let l := s.keel.vault.sessions
    need (decide (l.length < 64) && decide (l.countP (fun e => e.2.owner == h.fn) < 16)) .noRes
    let ok := challengeOk s true chal && chainOk && sigOk
    let s := useChallenge chal s
    if !ok then .ok (s, some (.auth, []))
    else
      let id := s.trust.nextSession
      let (q, s) := takeRandom s
      let qe := Config.sealedVal [4, q]
      let s := { s with
        keel := { s.keel with vault := { s.keel.vault with sessions := tput s.keel.vault.sessions id (sessionOf h.fn key) } }
        trust := { s.trust with nextSession := if id + 1 < 2 ^ 32 then id + 1 else 1 } }
      done s ([Int.ofNat id, Int.ofNat qe] ++ attestReport s 0 (Config.sealedVal [5, qe]) id)

/-- TRUST.SESSION.CLOSE (R371). -/
def execTrustSessionClose (h : Hdr) (session : Nat) (s : State) : Host.Outcome State Fault Refusal :=
  mbx { op := 0x0911, inS := false } h s fun s => do
    let k ← named (tget s.keel.vault.sessions session)
    owned h k.owner
    done (endSession session s)

/-- TRUST.ATTEST (R372). -/
def execTrustAttest (h : Hdr) (nonce reportData : Nat) (s : State) : Host.Outcome State Fault Refusal :=
  mbx { op := 0x0912, res := 768 } h s fun s =>
    done s (attestReport s nonce reportData 0 ++ [Int.ofNat (Config.akCert s.trust.meas)])

/-- TRUST.TIME.SET: secure time rises to the token's, and is VALID (R362, R373). -/
def execTrustTimeSet (h : Hdr) (chal : Nat) (sigOk : Bool) (time : Ticks) (s : State) : Host.Outcome State Fault Refusal :=
  mbx { op := 0x0913, pf := true, inS := false } h s fun s =>
    if !s.trust.pcbOk then .error .state
    else
      let ok := challengeOk s false chal && sigOk
      let s := useChallenge chal s
      if !ok then .ok (s, some (.auth, []))
      else done { s with keel := { s.keel with secure := max s.keel.secure time, secureValid := true } }

end Sys2Proof.Machine
end

