-- ==== Sys2Proof/Machine/Dispatch.lean ====
section
/-! DEFINITION. One arm per command or event: its meaning, on everything but the queue of commands. -/

namespace Sys2Proof.Machine

/-- The effect of a command or event on the block. -/
def exec (i : Instr) (s : State) : Host.Outcome State Fault Refusal :=
  match i with
  | .devInfo a0 => Sys2Proof.Machine.execDevInfo a0 s
  | .devConfig a0 a1 a2 a3 => Sys2Proof.Machine.execDevConfig a0 a1 a2 a3 s
  | .engineReset a0 => Sys2Proof.Machine.execEngineReset a0 s
  | .engineResetDone a0 => Sys2Proof.Machine.execEngineResetDone a0 s
  | .timeRead a0 => Sys2Proof.Machine.execTimeRead a0 s
  | .timeSelect a0 a1 => Sys2Proof.Machine.execTimeSelect a0 a1 s
  | .timeAdjust a0 a1 a2 a3 a4 a5 => Sys2Proof.Machine.execTimeAdjust a0 a1 a2 a3 a4 a5 s
  | .timeServoSet a0 a1 a2 => Sys2Proof.Machine.execTimeServoSet a0 a1 a2 s
  | .timePortSet a0 a1 a2 => Sys2Proof.Machine.execTimePortSet a0 a1 a2 s
  | .timeFlSet a0 a1 a2 => Sys2Proof.Machine.execTimeFlSet a0 a1 a2 s
  | .timeCmpArm a0 a1 a2 => Sys2Proof.Machine.execTimeCmpArm a0 a1 a2 s
  | .timeCmpDisarm a0 a1 => Sys2Proof.Machine.execTimeCmpDisarm a0 a1 s
  | .timeTrigSet a0 a1 a2 => Sys2Proof.Machine.execTimeTrigSet a0 a1 a2 s
  | .timeCapSet a0 a1 a2 a3 => Sys2Proof.Machine.execTimeCapSet a0 a1 a2 a3 s
  | .timeCapRead a0 a1 a2 => Sys2Proof.Machine.execTimeCapRead a0 a1 a2 s
  | .queueCreate a0 a1 a2 => Sys2Proof.Machine.execQueueCreate a0 a1 a2 s
  | .queueSet a0 a1 a2 a3 => Sys2Proof.Machine.execQueueSet a0 a1 a2 a3 s
  | .queueQuery a0 a1 => Sys2Proof.Machine.execQueueQuery a0 a1 s
  | .queueDestroy a0 a1 a2 => Sys2Proof.Machine.execQueueDestroy a0 a1 a2 s
  | .queueAck a0 a1 a2 => Sys2Proof.Machine.execQueueAck a0 a1 a2 s
  | .queueQuotaSet a0 a1 a2 => Sys2Proof.Machine.execQueueQuotaSet a0 a1 a2 s
  | .queueStatsRead a0 a1 a2 => Sys2Proof.Machine.execQueueStatsRead a0 a1 a2 s
  | .queueHistSet a0 a1 a2 a3 => Sys2Proof.Machine.execQueueHistSet a0 a1 a2 a3 s
  | .queueHistRead a0 a1 a2 => Sys2Proof.Machine.execQueueHistRead a0 a1 a2 s
  | .queueRingSet a0 a1 => Sys2Proof.Machine.execQueueRingSet a0 a1 s
  | .streamCreate a0 a1 => Sys2Proof.Machine.execStreamCreate a0 a1 s
  | .streamSet a0 a1 a2 a3 => Sys2Proof.Machine.execStreamSet a0 a1 a2 a3 s
  | .streamDestroy a0 a1 a2 => Sys2Proof.Machine.execStreamDestroy a0 a1 a2 s
  | .streamStatsRead a0 a1 a2 => Sys2Proof.Machine.execStreamStatsRead a0 a1 a2 s
  | .streamRecover a0 a1 a2 a3 a4 => Sys2Proof.Machine.execStreamRecover a0 a1 a2 a3 a4 s
  | .streamConceal a0 a1 a2 a3 => Sys2Proof.Machine.execStreamConceal a0 a1 a2 a3 s
  | .assetVolumeOpen a0 a1 a2 a3 a4 a5 a6 => Sys2Proof.Machine.execAssetVolumeOpen a0 a1 a2 a3 a4 a5 a6 s
  | .assetVolumeClose a0 a1 a2 => Sys2Proof.Machine.execAssetVolumeClose a0 a1 a2 s
  | .assetContainerOpen a0 a1 a2 a3 => Sys2Proof.Machine.execAssetContainerOpen a0 a1 a2 a3 s
  | .assetContainerClose a0 a1 a2 => Sys2Proof.Machine.execAssetContainerClose a0 a1 a2 s
  | .assetRead a0 a1 => Sys2Proof.Machine.execAssetRead a0 a1 s
  | .assetInstall a0 a1 a2 a3 a4 a5 a6 a7 => Sys2Proof.Machine.execAssetInstall a0 a1 a2 a3 a4 a5 a6 a7 s
  | .assetStatsRead a0 a1 a2 => Sys2Proof.Machine.execAssetStatsRead a0 a1 a2 s
  | .busPortSet a0 a1 a2 => Sys2Proof.Machine.execBusPortSet a0 a1 a2 s
  | .busPortQuery a0 a1 => Sys2Proof.Machine.execBusPortQuery a0 a1 s
  | .busPortRecover a0 a1 => Sys2Proof.Machine.execBusPortRecover a0 a1 s
  | .busWake a0 a1 => Sys2Proof.Machine.execBusWake a0 a1 s
  | .busFlowCreate a0 a1 => Sys2Proof.Machine.execBusFlowCreate a0 a1 s
  | .busFlowSet a0 a1 a2 a3 => Sys2Proof.Machine.execBusFlowSet a0 a1 a2 a3 s
  | .busFlowResume a0 a1 a2 a3 => Sys2Proof.Machine.execBusFlowResume a0 a1 a2 a3 s
  | .busFlowDestroy a0 a1 a2 a3 => Sys2Proof.Machine.execBusFlowDestroy a0 a1 a2 a3 s
  | .busFlowStats a0 a1 a2 a3 => Sys2Proof.Machine.execBusFlowStats a0 a1 a2 a3 s
  | .busMbSet a0 a1 a2 a3 => Sys2Proof.Machine.execBusMbSet a0 a1 a2 a3 s
  | .busMbSend a0 a1 a2 a3 a4 => Sys2Proof.Machine.execBusMbSend a0 a1 a2 a3 a4 s
  | .busMbRead a0 a1 a2 => Sys2Proof.Machine.execBusMbRead a0 a1 a2 s
  | .busMbRelease a0 a1 a2 => Sys2Proof.Machine.execBusMbRelease a0 a1 a2 s
  | .busFilterSet a0 a1 a2 a3 => Sys2Proof.Machine.execBusFilterSet a0 a1 a2 a3 s
  | .busInspectVerdict a0 a1 a2 a3 => Sys2Proof.Machine.execBusInspectVerdict a0 a1 a2 a3 s
  | .busStatsRead a0 a1 a2 => Sys2Proof.Machine.execBusStatsRead a0 a1 a2 s
  | .busTraverseSet a0 a1 => Sys2Proof.Machine.execBusTraverseSet a0 a1 s
  | .busAnchorSet a0 a1 => Sys2Proof.Machine.execBusAnchorSet a0 a1 s
  | .busAnchorQuery a0 a1 => Sys2Proof.Machine.execBusAnchorQuery a0 a1 s
  | .busAnchorTakeover a0 a1 => Sys2Proof.Machine.execBusAnchorTakeover a0 a1 s
  | .busGlobalIssue a0 a1 a2 => Sys2Proof.Machine.execBusGlobalIssue a0 a1 a2 s
  | .busBarrierArrive a0 a1 => Sys2Proof.Machine.execBusBarrierArrive a0 a1 s
  | .busPortStatsClear a0 a1 => Sys2Proof.Machine.execBusPortStatsClear a0 a1 s
  | .schedHostSet a0 a1 => Sys2Proof.Machine.execSchedHostSet a0 a1 s
  | .schedFnSet a0 a1 a2 a3 => Sys2Proof.Machine.execSchedFnSet a0 a1 a2 a3 s
  | .schedShaperSet a0 a1 a2 => Sys2Proof.Machine.execSchedShaperSet a0 a1 a2 s
  | .schedShaperBind a0 a1 a2 a3 a4 => Sys2Proof.Machine.execSchedShaperBind a0 a1 a2 a3 a4 s
  | .schedShaperReset a0 a1 => Sys2Proof.Machine.execSchedShaperReset a0 a1 s
  | .schedShaperRelease a0 a1 => Sys2Proof.Machine.execSchedShaperRelease a0 a1 s
  | .schedPolicerSet a0 a1 a2 => Sys2Proof.Machine.execSchedPolicerSet a0 a1 a2 s
  | .schedPolicerReset a0 a1 a2 => Sys2Proof.Machine.execSchedPolicerReset a0 a1 a2 s
  | .schedGateSet a0 a1 a2 => Sys2Proof.Machine.execSchedGateSet a0 a1 a2 s
  | .schedGateStart a0 a1 => Sys2Proof.Machine.execSchedGateStart a0 a1 s
  | .schedGateStop a0 a1 => Sys2Proof.Machine.execSchedGateStop a0 a1 s
  | .schedGateClass a0 a1 a2 a3 => Sys2Proof.Machine.execSchedGateClass a0 a1 a2 a3 s
  | .schedStatsRead a0 a1 => Sys2Proof.Machine.execSchedStatsRead a0 a1 s
  | .schedLatencySet a0 a1 a2 => Sys2Proof.Machine.execSchedLatencySet a0 a1 a2 s
  | .schedLatencyRead a0 a1 a2 a3 => Sys2Proof.Machine.execSchedLatencyRead a0 a1 a2 a3 s
  | .checkSet a0 a1 a2 => Sys2Proof.Machine.execCheckSet a0 a1 a2 s
  | .checkRun a0 a1 a2 a3 a4 a5 a6 a7 a8 a9 => Sys2Proof.Machine.execCheckRun a0 a1 a2 a3 a4 a5 a6 a7 a8 a9 s
  | .checkStateRead a0 a1 => Sys2Proof.Machine.execCheckStateRead a0 a1 s
  | .checkStateWrite a0 a1 a2 => Sys2Proof.Machine.execCheckStateWrite a0 a1 a2 s
  | .checkRelease a0 a1 a2 => Sys2Proof.Machine.execCheckRelease a0 a1 a2 s
  | .trustInfo a0 => Sys2Proof.Machine.execTrustInfo a0 s
  | .trustProvision a0 a1 a2 a3 a4 => Sys2Proof.Machine.execTrustProvision a0 a1 a2 a3 a4 s
  | .trustLifecycleAdvance a0 a1 a2 a3 a4 a5 => Sys2Proof.Machine.execTrustLifecycleAdvance a0 a1 a2 a3 a4 a5 s
  | .trustDebugUnlock a0 a1 a2 a3 => Sys2Proof.Machine.execTrustDebugUnlock a0 a1 a2 a3 s
  | .trustFwStage a0 a1 a2 a3 a4 => Sys2Proof.Machine.execTrustFwStage a0 a1 a2 a3 a4 s
  | .trustFwActivate a0 => Sys2Proof.Machine.execTrustFwActivate a0 s
  | .trustFwCommit a0 => Sys2Proof.Machine.execTrustFwCommit a0 s
  | .trustFwRecover a0 a1 a2 a3 a4 => Sys2Proof.Machine.execTrustFwRecover a0 a1 a2 a3 a4 s
  | .trustPcbSet a0 a1 a2 => Sys2Proof.Machine.execTrustPcbSet a0 a1 a2 s
  | .trustKeyLoad a0 a1 a2 => Sys2Proof.Machine.execTrustKeyLoad a0 a1 a2 s
  | .trustKeyGenerate a0 a1 => Sys2Proof.Machine.execTrustKeyGenerate a0 a1 s
  | .trustKeyErase a0 a1 => Sys2Proof.Machine.execTrustKeyErase a0 a1 s
  | .trustAuthoritySet a0 a1 a2 => Sys2Proof.Machine.execTrustAuthoritySet a0 a1 a2 s
  | .trustNodeRevoke a0 a1 a2 a3 => Sys2Proof.Machine.execTrustNodeRevoke a0 a1 a2 a3 s
  | .trustSessionChallenge a0 => Sys2Proof.Machine.execTrustSessionChallenge a0 s
  | .trustSessionOpen a0 a1 a2 a3 a4 => Sys2Proof.Machine.execTrustSessionOpen a0 a1 a2 a3 a4 s
  | .trustSessionClose a0 a1 => Sys2Proof.Machine.execTrustSessionClose a0 a1 s
  | .trustAttest a0 a1 a2 => Sys2Proof.Machine.execTrustAttest a0 a1 a2 s
  | .trustTimeSet a0 a1 a2 a3 => Sys2Proof.Machine.execTrustTimeSet a0 a1 a2 a3 s
  | .faultSet a0 a1 a2 a3 a4 a5 => Sys2Proof.Machine.execFaultSet a0 a1 a2 a3 a4 a5 s
  | .faultThresholdSet a0 a1 a2 => Sys2Proof.Machine.execFaultThresholdSet a0 a1 a2 s
  | .faultRead a0 a1 => Sys2Proof.Machine.execFaultRead a0 a1 s
  | .faultLogRead a0 a1 a2 => Sys2Proof.Machine.execFaultLogRead a0 a1 a2 s
  | .faultAck a0 a1 a2 => Sys2Proof.Machine.execFaultAck a0 a1 a2 s
  | .faultCountRead a0 a1 a2 a3 => Sys2Proof.Machine.execFaultCountRead a0 a1 a2 a3 s
  | .faultVerdict a0 a1 a2 => Sys2Proof.Machine.execFaultVerdict a0 a1 a2 s
  | .faultXfSet a0 a1 => Sys2Proof.Machine.execFaultXfSet a0 a1 s
  | .powerCapSet a0 a1 => Sys2Proof.Machine.execPowerCapSet a0 a1 s
  | .powerQuery a0 => Sys2Proof.Machine.execPowerQuery a0 s
  | .powerTelemetrySet a0 a1 a2 a3 a4 => Sys2Proof.Machine.execPowerTelemetrySet a0 a1 a2 a3 a4 s
  | .pinClaim a0 a1 a2 => Sys2Proof.Machine.execPinClaim a0 a1 a2 s
  | .pinRelease a0 a1 a2 a3 => Sys2Proof.Machine.execPinRelease a0 a1 a2 a3 s
  | .pinQuery a0 a1 a2 => Sys2Proof.Machine.execPinQuery a0 a1 a2 s
  | .pinGpioSet a0 a1 a2 a3 => Sys2Proof.Machine.execPinGpioSet a0 a1 a2 a3 s
  | .pinGpioRead a0 a1 a2 => Sys2Proof.Machine.execPinGpioRead a0 a1 a2 s
  | .diagCoreStats a0 a1 => Sys2Proof.Machine.execDiagCoreStats a0 a1 s
  | .diagSelftest a0 a1 => Sys2Proof.Machine.execDiagSelftest a0 a1 s
  | .diagTempRead a0 => Sys2Proof.Machine.execDiagTempRead a0 s
  | .diagTraceRead a0 a1 a2 => Sys2Proof.Machine.execDiagTraceRead a0 a1 a2 s
  | .mbxDoorbellWrite a0 a1 a2 a3 a4 => Sys2Proof.Machine.execMbxDoorbellWrite a0 a1 a2 a3 a4 s
  | .stalePhaseRetry a0 a1 a2 a3 => Sys2Proof.Machine.execStalePhaseRetry a0 a1 a2 a3 s
  | .mbxEnableSet a0 a1 a2 a3 => Sys2Proof.Machine.execMbxEnableSet a0 a1 a2 a3 s
  | .mbxEnableClear a0 a1 a2 => Sys2Proof.Machine.execMbxEnableClear a0 a1 a2 s
  | .mbxRspHeadWrite a0 a1 a2 a3 => Sys2Proof.Machine.execMbxRspHeadWrite a0 a1 a2 a3 s
  | .queueDoorbellWrite a0 a1 a2 a3 => Sys2Proof.Machine.execQueueDoorbellWrite a0 a1 a2 a3 s
  | .registerWrite a0 a1 a2 a3 a4 => Sys2Proof.Machine.execRegisterWrite a0 a1 a2 a3 a4 s
  | .submissionFetch a0 a1 a2 => Sys2Proof.Machine.execSubmissionFetch a0 a1 a2 s
  | .packetDelivery a0 a1 a2 a3 => Sys2Proof.Machine.execPacketDelivery a0 a1 a2 a3 s
  | .hostLinkWrite a0 => Sys2Proof.Machine.execHostLinkWrite a0 s
  | .msixHoldoffEnd a0 a1 a2 => Sys2Proof.Machine.execMsixHoldoffEnd a0 a1 a2 s
  | .resetNAssert a0 => Sys2Proof.Machine.execResetNAssert a0 s
  | .resetNDeassert a0 a1 => Sys2Proof.Machine.execResetNDeassert a0 a1 s
  | .enterSnowplough a0 a1 a2 => Sys2Proof.Machine.execEnterSnowplough a0 a1 a2 s
  | .enterPiste a0 a1 a2 a3 a4 a5 => Sys2Proof.Machine.execEnterPiste a0 a1 a2 a3 a4 a5 s
  | .perstNAssert a0 => Sys2Proof.Machine.execPerstNAssert a0 s
  | .perstNDeassert a0 => Sys2Proof.Machine.execPerstNDeassert a0 s
  | .vfEnable a0 a1 => Sys2Proof.Machine.execVfEnable a0 a1 s
  | .vfReturnExpiry a0 a1 => Sys2Proof.Machine.execVfReturnExpiry a0 a1 s
  | .functionLevelReset a0 a1 => Sys2Proof.Machine.execFunctionLevelReset a0 a1 s
  | .keelFeedOutOfWindow a0 a1 => Sys2Proof.Machine.execKeelFeedOutOfWindow a0 a1 s
  | .keelFeedRestored a0 a1 => Sys2Proof.Machine.execKeelFeedRestored a0 a1 s
  | .keelRevertExpiry a0 => Sys2Proof.Machine.execKeelRevertExpiry a0 s
  | .holdUpExpiry a0 => Sys2Proof.Machine.execHoldUpExpiry a0 s
  | .sysrefStop a0 => Sys2Proof.Machine.execSysrefStop a0 s
  | .tamperTrip a0 a1 => Sys2Proof.Machine.execTamperTrip a0 a1 s
  | .s0Removal a0 => Sys2Proof.Machine.execS0Removal a0 s
  | .s0Insertion a0 a1 => Sys2Proof.Machine.execS0Insertion a0 a1 s
  | .s1LinkDown a0 => Sys2Proof.Machine.execS1LinkDown a0 s
  | .insertionWindowEnd a0 => Sys2Proof.Machine.execInsertionWindowEnd a0 s
  | .nvmeCompletion a0 a1 a2 a3 => Sys2Proof.Machine.execNvmeCompletion a0 a1 a2 a3 s
  | .nvmeCommandTimeout a0 a1 a2 => Sys2Proof.Machine.execNvmeCommandTimeout a0 a1 a2 s
  | .assetReadIssue a0 => Sys2Proof.Machine.execAssetReadIssue a0 s
  | .chunkVerify a0 a1 a2 a3 a4 a5 => Sys2Proof.Machine.execChunkVerify a0 a1 a2 a3 a4 a5 s
  | .decompressionDone a0 a1 a2 a3 a4 => Sys2Proof.Machine.execDecompressionDone a0 a1 a2 a3 a4 s
  | .assetRequestComplete a0 a1 => Sys2Proof.Machine.execAssetRequestComplete a0 a1 s
  | .cellWrite a0 a1 a2 => Sys2Proof.Machine.execCellWrite a0 a1 a2 s
  | .cellRead a0 a1 a2 => Sys2Proof.Machine.execCellRead a0 a1 a2 s
  | .dropRest a0 a1 a2 => Sys2Proof.Machine.execDropRest a0 a1 a2 s
  | .queueRebuildDone a0 a1 a2 => Sys2Proof.Machine.execQueueRebuildDone a0 a1 a2 s
  | .freeListRebuildDone a0 => Sys2Proof.Machine.execFreeListRebuildDone a0 s
  | .histogramSample a0 => Sys2Proof.Machine.execHistogramSample a0 s
  | .dispatchCycle a0 => Sys2Proof.Machine.execDispatchCycle a0 s
  | .progressReport a0 a1 a2 => Sys2Proof.Machine.execProgressReport a0 a1 a2 s
  | .runCommit a0 a1 a2 => Sys2Proof.Machine.execRunCommit a0 a1 a2 s
  | .coreFault a0 a1 a2 a3 => Sys2Proof.Machine.execCoreFault a0 a1 a2 a3 s
  | .runWatchdogExpiry a0 a1 => Sys2Proof.Machine.execRunWatchdogExpiry a0 a1 s
  | .laneTestDone a0 a1 a2 a3 => Sys2Proof.Machine.execLaneTestDone a0 a1 a2 a3 s
  | .thermalEvaluation a0 a1 a2 => Sys2Proof.Machine.execThermalEvaluation a0 a1 a2 s
  | .slowCoreCheck a0 a1 a2 => Sys2Proof.Machine.execSlowCoreCheck a0 a1 a2 s
  | .powerCapTick a0 a1 a2 a3 => Sys2Proof.Machine.execPowerCapTick a0 a1 a2 a3 s
  | .lookaheadAnalysisDone a0 a1 a2 a3 => Sys2Proof.Machine.execLookaheadAnalysisDone a0 a1 a2 a3 s
  | .laGuardRelease a0 a1 a2 => Sys2Proof.Machine.execLaGuardRelease a0 a1 a2 s
  | .sliceIntake a0 a1 a2 a3 => Sys2Proof.Machine.execSliceIntake a0 a1 a2 a3 s
  | .displayConcealment a0 a1 => Sys2Proof.Machine.execDisplayConcealment a0 a1 s
  | .lateLimitExpiry a0 a1 => Sys2Proof.Machine.execLateLimitExpiry a0 a1 s
  | .concealmentDone a0 a1 => Sys2Proof.Machine.execConcealmentDone a0 a1 s
  | .recoveryRepeat a0 a1 => Sys2Proof.Machine.execRecoveryRepeat a0 a1 s
  | .recoverMessageRx a0 a1 => Sys2Proof.Machine.execRecoverMessageRx a0 a1 s
  | .comparatorFire a0 a1 => Sys2Proof.Machine.execComparatorFire a0 a1 s
  | .flFrameEdge a0 a1 a2 => Sys2Proof.Machine.execFlFrameEdge a0 a1 a2 s
  | .flLineEdge a0 a1 a2 => Sys2Proof.Machine.execFlLineEdge a0 a1 a2 s
  | .flFlywheelTimeout a0 a1 => Sys2Proof.Machine.execFlFlywheelTimeout a0 a1 s
  | .flChangeApply a0 a1 => Sys2Proof.Machine.execFlChangeApply a0 a1 s
  | .flAnchorTx a0 a1 => Sys2Proof.Machine.execFlAnchorTx a0 a1 s
  | .flAnchorRx a0 a1 a2 => Sys2Proof.Machine.execFlAnchorRx a0 a1 a2 s
  | .relayAnchorTimeout a0 a1 => Sys2Proof.Machine.execRelayAnchorTimeout a0 a1 s
  | .capEdge a0 a1 a2 a3 => Sys2Proof.Machine.execCapEdge a0 a1 a2 a3 s
  | .syncTx a0 a1 a2 => Sys2Proof.Machine.execSyncTx a0 a1 a2 s
  | .syncRx a0 a1 a2 => Sys2Proof.Machine.execSyncRx a0 a1 a2 s
  | .followUpRx a0 a1 a2 => Sys2Proof.Machine.execFollowUpRx a0 a1 a2 s
  | .delayReqRx a0 a1 a2 => Sys2Proof.Machine.execDelayReqRx a0 a1 a2 s
  | .delayRspRx a0 a1 a2 a3 => Sys2Proof.Machine.execDelayRspRx a0 a1 a2 a3 s
  | .syncMissHoldover a0 a1 => Sys2Proof.Machine.execSyncMissHoldover a0 a1 s
  | .residualSlewDone a0 => Sys2Proof.Machine.execResidualSlewDone a0 s
  | .arbitrationAttempt a0 a1 a2 a3 => Sys2Proof.Machine.execArbitrationAttempt a0 a1 a2 a3 s
  | .frameReceive a0 a1 a2 a3 => Sys2Proof.Machine.execFrameReceive a0 a1 a2 a3 s
  | .creditRx a0 a1 a2 a3 a4 a5 => Sys2Proof.Machine.execCreditRx a0 a1 a2 a3 a4 a5 s
  | .flowOpenRx a0 a1 a2 a3 a4 a5 a6 => Sys2Proof.Machine.execFlowOpenRx a0 a1 a2 a3 a4 a5 a6 s
  | .flowOpenRepeat a0 a1 a2 => Sys2Proof.Machine.execFlowOpenRepeat a0 a1 a2 s
  | .creditRefresh a0 a1 a2 => Sys2Proof.Machine.execCreditRefresh a0 a1 a2 s
  | .holdoffExpiry a0 a1 a2 => Sys2Proof.Machine.execHoldoffExpiry a0 a1 a2 s
  | .dedupAgeExpiry a0 a1 a2 a3 => Sys2Proof.Machine.execDedupAgeExpiry a0 a1 a2 a3 s
  | .headFrameAged a0 a1 a2 => Sys2Proof.Machine.execHeadFrameAged a0 a1 a2 s
  | .openTimeoutExpiry a0 a1 a2 => Sys2Proof.Machine.execOpenTimeoutExpiry a0 a1 a2 s
  | .hostTimeLaunch a0 a1 a2 => Sys2Proof.Machine.execHostTimeLaunch a0 a1 a2 s
  | .integrationDone a0 a1 => Sys2Proof.Machine.execIntegrationDone a0 a1 s
  | .portDisableAtIdle a0 a1 => Sys2Proof.Machine.execPortDisableAtIdle a0 a1 s
  | .busoffRecoveryDone a0 a1 a2 => Sys2Proof.Machine.execBusoffRecoveryDone a0 a1 a2 s
  | .stuckDominantCutoff a0 a1 => Sys2Proof.Machine.execStuckDominantCutoff a0 a1 s
  | .lineHeldDominant a0 a1 => Sys2Proof.Machine.execLineHeldDominant a0 a1 s
  | .dataDriverRunaway a0 a1 a2 => Sys2Proof.Machine.execDataDriverRunaway a0 a1 a2 s
  | .busWakeDetect a0 a1 a2 => Sys2Proof.Machine.execBusWakeDetect a0 a1 a2 s
  | .heartbeatTx a0 a1 => Sys2Proof.Machine.execHeartbeatTx a0 a1 s
  | .heartbeatRx a0 a1 a2 => Sys2Proof.Machine.execHeartbeatRx a0 a1 a2 s
  | .primarySilentSwitch a0 a1 => Sys2Proof.Machine.execPrimarySilentSwitch a0 a1 s
  | .partnerSilent a0 a1 => Sys2Proof.Machine.execPartnerSilent a0 a1 s
  | .anchorTakeoverCheck a0 a1 => Sys2Proof.Machine.execAnchorTakeoverCheck a0 a1 s
  | .gopRequestRx a0 a1 a2 => Sys2Proof.Machine.execGopRequestRx a0 a1 a2 s
  | .globalOpRx a0 a1 a2 => Sys2Proof.Machine.execGlobalOpRx a0 a1 a2 s
  | .globalOpExecute a0 a1 a2 => Sys2Proof.Machine.execGlobalOpExecute a0 a1 a2 s
  | .globalIssueTimeout a0 a1 => Sys2Proof.Machine.execGlobalIssueTimeout a0 a1 s
  | .barrierReportRx a0 a1 a2 a3 a4 => Sys2Proof.Machine.execBarrierReportRx a0 a1 a2 a3 a4 s
  | .barrierTimeout a0 a1 => Sys2Proof.Machine.execBarrierTimeout a0 a1 s
  | .enrollRecordRx a0 a1 a2 => Sys2Proof.Machine.execEnrollRecordRx a0 a1 a2 s
  | .enrollTimeout a0 a1 a2 => Sys2Proof.Machine.execEnrollTimeout a0 a1 a2 s
  | .gateEntryBoundary a0 a1 => Sys2Proof.Machine.execGateEntryBoundary a0 a1 s
  | .checkFeedPacket a0 a1 => Sys2Proof.Machine.execCheckFeedPacket a0 a1 s
  | .faultMessage a0 a1 => Sys2Proof.Machine.execFaultMessage a0 a1 s
  | .faultVerdictTimeout a0 a1 => Sys2Proof.Machine.execFaultVerdictTimeout a0 a1 s
  | .logIntakeDrain a0 => Sys2Proof.Machine.execLogIntakeDrain a0 s
  | .xfPairChange a0 a1 a2 a3 => Sys2Proof.Machine.execXfPairChange a0 a1 a2 a3 s
  | .xfBrokenExpiry a0 a1 => Sys2Proof.Machine.execXfBrokenExpiry a0 a1 s
  | .fltReadbackMismatch a0 => Sys2Proof.Machine.execFltReadbackMismatch a0 s
  | .sysrefReturn a0 => Sys2Proof.Machine.execSysrefReturn a0 s
  | .mainDomainResetRelease a0 a1 => Sys2Proof.Machine.execMainDomainResetRelease a0 a1 s
  | .hbmTrainingDone a0 a1 => Sys2Proof.Machine.execHbmTrainingDone a0 a1 s
  | .holdOffLevelReset a0 a1 => Sys2Proof.Machine.execHoldOffLevelReset a0 a1 s
  | .lineIdleAfterHold a0 a1 => Sys2Proof.Machine.execLineIdleAfterHold a0 a1 s
  | .memberHeartbeatAgeOut a0 a1 a2 => Sys2Proof.Machine.execMemberHeartbeatAgeOut a0 a1 a2 s
  | .tjThresholdCrossing a0 a1 a2 => Sys2Proof.Machine.execTjThresholdCrossing a0 a1 a2 s
  | .fltReadbackRestored a0 => Sys2Proof.Machine.execFltReadbackRestored a0 s
  | .hostLinkRetrain a0 a1 a2 => Sys2Proof.Machine.execHostLinkRetrain a0 a1 a2 s

end Sys2Proof.Machine
end

