-- ==== Sys2Proof/WellFormed.lean ====
section
/-! DEFINITION. Well-formed commands and events: every field fits the width its table gives it, and every
event names an object that the hardware has. -/

namespace Sys2Proof

/-- A header names a function 0-63, the warden ring belongs to the PF, and TAG is 16 bits (Table 16-9). -/
def Hdr.wf (h : Hdr) : Bool :=
  decide (h.fn < 64) && (!h.warden || h.fn == 0) && decide (h.tag < 65536) && decide (h.room < 4294967296) &&
  decide (h.resAddr < 2 ^ 64)

/-- A number below `n`, or ANY. -/
def optLt (o : Option Nat) (n : Nat) : Bool :=
  match o with
  | some v => decide (v < n)
  | none => true

/-- The header fields of a frame fit their widths (10 Table 10-2). -/
def Frame.wf (f : Frame) : Bool :=
  decide (f.urg < 1024) && decide (f.cls < 64) && decide (f.src < 65536) && decide (f.dkind < 4) &&
  decide (f.dst < 65536) && decide (f.flow < 32768) && decide (f.seq < 65536) &&
  decide (f.frag < 4) && decide (f.len < 4096) && decide (f.sofTdc < 64)

/-- A unit context fits Table 14-5: V has 64 bits, HELD_N one byte and BYTES 48 bits (14). -/
def CrcCtx.wf (c : CrcCtx) : Bool :=
  decide (c.value < 18446744073709551616) && decide (c.held.length < 256) && decide (c.bytes < 281474976710656)

/-- Every number of the command fits its field; what a field may hold is the command's own check. -/
def Instr.wf : Instr → Bool
  | .devInfo h => h.wf
  | .devConfig h key _ _ => h.wf && decide (key < 65536)
  | .engineReset h => h.wf
  | .engineResetDone _ => true
  | .timeRead h => h.wf
  | .timeSelect h sel => h.wf && decide (sel < 256)
  | .timeAdjust h dom _ _ _ _ => h.wf && decide (dom < 256)
  | .timeServoSet h dom _ => h.wf && decide (dom < 256)
  | .timePortSet h port _ => h.wf && decide (port < 256)
  | .timeFlSet h fl _ => h.wf && decide (fl < 256)
  | .timeCmpArm h cmp _ => h.wf && decide (cmp < 256)
  | .timeCmpDisarm h cmp => h.wf && decide (cmp < 256)
  | .timeTrigSet h trig _ => h.wf && decide (trig < 256)
  | .timeCapSet h fifo _ _ => h.wf && decide (fifo < 256)
  | .timeCapRead h fifo max => h.wf && decide (fifo < 256) && decide (max < 256)
  | .queueCreate h q _ => h.wf && optLt q 65536
  | .queueSet h q mask _ => h.wf && decide (q < 65536) && decide (mask < 65536)
  | .queueQuery h q => h.wf && decide (q < 65536)
  | .queueDestroy h q _ => h.wf && decide (q < 65536)
  | .queueAck h q mask => h.wf && decide (q < 65536) && decide (mask < 65536)
  | .queueQuotaSet h fn cells => h.wf && decide (fn < 256) && decide (cells < 4294967296)
  | .queueStatsRead h q _ => h.wf && decide (q < 65536)
  | .queueHistSet h q metric _ => h.wf && decide (q < 65536) && decide (metric < 256)
  | .queueHistRead h q _ => h.wf && decide (q < 65536)
  | .queueRingSet h _ => h.wf
  | .streamCreate h _ => h.wf
  | .streamSet h stream _ _ => h.wf && decide (stream < 65536)
  | .streamDestroy h stream _ => h.wf && decide (stream < 65536)
  | .streamStatsRead h stream _ => h.wf && decide (stream < 65536)
  | .streamRecover h stream picture firstLine lineCount => h.wf && decide (stream < 65536) && decide (picture < 4294967296) && decide (firstLine < 65536) && decide (lineCount < 65536)
  | .streamConceal h stream verdict damageId => h.wf && decide (stream < 65536) && decide (verdict < 256) && decide (damageId < 4294967296)
  | .assetVolumeOpen h port slot nsid scratchFirst scratchCount _ => h.wf && decide (port < 256) && decide (slot < 256) && decide (nsid < 4294967296) && decide (scratchFirst < 18446744073709551616) && decide (scratchCount < 18446744073709551616)
  | .assetVolumeClose h volume _ => h.wf && decide (volume < 65536)
  | .assetContainerOpen h volume offset _ => h.wf && decide (volume < 65536) && decide (offset < 18446744073709551616)
  | .assetContainerClose h container _ => h.wf && decide (container < 65536)
  | .assetRead h _ => h.wf
  | .assetInstall h src dst srcOffset dstLba _ _ _ => h.wf && decide (src < 65536) && decide (dst < 65536) && decide (srcOffset < 18446744073709551616) && decide (dstLba < 18446744073709551616)
  | .assetStatsRead h port _ => h.wf && decide (port < 256)
  | .busPortSet h port _ => h.wf && decide (port < 256)
  | .busPortQuery h port => h.wf && decide (port < 256)
  | .busPortRecover h port => h.wf && decide (port < 256)
  | .busWake h port => h.wf && decide (port < 256)
  | .busFlowCreate h _ => h.wf
  | .busFlowSet h port flow _ => h.wf && decide (port < 256) && decide (flow < 65536)
  | .busFlowResume h port _ flow => h.wf && decide (port < 256) && decide (flow < 65536)
  | .busFlowDestroy h port _ flow => h.wf && decide (port < 256) && decide (flow < 65536)
  | .busFlowStats h port _ flow => h.wf && decide (port < 256) && decide (flow < 65536)
  | .busMbSet h port mb _ => h.wf && decide (port < 256) && decide (mb < 256)
  | .busMbSend h port mb len payload => h.wf && decide (port < 256) && decide (mb < 256) && decide (len < 256) && decide (payload.length < 4294967296)
  | .busMbRead h port mb => h.wf && decide (port < 256) && decide (mb < 256)
  | .busMbRelease h port mb => h.wf && decide (port < 256) && decide (mb < 256)
  | .busFilterSet h port entry _ => h.wf && decide (port < 256) && decide (entry < 65536)
  | .busInspectVerdict h port verdict flow => h.wf && decide (port < 256) && decide (verdict < 256) && decide (flow < 65536)
  | .busStatsRead h port _ => h.wf && decide (port < 256)
  | .busTraverseSet h _ => h.wf
  | .busAnchorSet h _ => h.wf
  | .busAnchorQuery h port => h.wf && decide (port < 256)
  | .busAnchorTakeover h port => h.wf && decide (port < 256)
  | .busGlobalIssue h msg arg => h.wf && decide (msg < 256) && decide (arg < 18446744073709551616)
  | .busBarrierArrive h barrier => h.wf && decide (barrier < 65536)
  | .busPortStatsClear h port => h.wf && decide (port < 256)
  | .schedHostSet h _ => h.wf
  | .schedFnSet h fn _ _ => h.wf && decide (fn < 256)
  | .schedShaperSet h shaper _ => h.wf && optLt shaper 65536
  | .schedShaperBind h shaper port kind id => h.wf && optLt shaper 65536 && decide (port < 256) && decide (kind < 256) && decide (id < 65536)
  | .schedShaperReset h shaper => h.wf && decide (shaper < 65536)
  | .schedShaperRelease h shaper => h.wf && decide (shaper < 65536)
  | .schedPolicerSet h policer _ => h.wf && optLt policer 65536
  | .schedPolicerReset h policer _ => h.wf && decide (policer < 65536)
  | .schedGateSet h port _ => h.wf && decide (port < 256)
  | .schedGateStart h port => h.wf && decide (port < 256)
  | .schedGateStop h port => h.wf && decide (port < 256)
  | .schedGateClass h port cls gate => h.wf && decide (port < 256) && decide (cls < 256) && optLt gate 256
  | .schedStatsRead h _ => h.wf
  | .schedLatencySet h q limit => h.wf && decide (q < 65536) && decide (limit < 4294967296)
  | .schedLatencyRead h q _ _ => h.wf && decide (q < 65536)
  | .checkSet h unit _ => h.wf && optLt unit 256
  | .checkRun h unit _ _ _ lastBits addr data _ _ => h.wf && decide (unit < 256) && decide (lastBits < 256) && decide (addr < 18446744073709551616) && decide (data.length < 4294967296)
  | .checkStateRead h unit => h.wf && decide (unit < 256)
  | .checkStateWrite h unit ctx => h.wf && decide (unit < 256) && ctx.wf
  | .checkRelease h unit _ => h.wf && decide (unit < 256)
  | .trustInfo h => h.wf
  | .trustProvision h _ _ _ _ => h.wf
  | .trustLifecycleAdvance h target _ _ _ _ => h.wf && decide (target < 256)
  | .trustDebugUnlock h _ _ _ => h.wf
  | .trustFwStage h _ _ _ _ => h.wf
  | .trustFwActivate h => h.wf
  | .trustFwCommit h => h.wf
  | .trustFwRecover h _ _ _ _ => h.wf
  | .trustPcbSet h _ _ => h.wf
  | .trustKeyLoad h slot _ => h.wf && optLt slot 256
  | .trustKeyGenerate h slot => h.wf && optLt slot 256
  | .trustKeyErase h slot => h.wf && decide (slot < 256)
  | .trustAuthoritySet h port node => h.wf && decide (port < 256) && decide (node < 65536)
  | .trustNodeRevoke h port node subject => h.wf && decide (port < 256) && decide (node < 65536) && decide (subject < 340282366920938463463374607431768211456)
  | .trustSessionChallenge h => h.wf
  | .trustSessionOpen h _ _ _ key => h.wf && decide (key < 65536)
  | .trustSessionClose h session => h.wf && decide (session < 4294967296)
  | .trustAttest h _ _ => h.wf
  | .trustTimeSet h _ _ _ => h.wf
  | .faultSet h first last severity reaction timeoutMs => h.wf && decide (first < 65536) && decide (last < 65536) && decide (severity < 256) && decide (reaction < 256) && decide (timeoutMs < 65536)
  | .faultThresholdSet h faultOk flt => h.wf && decide (faultOk < 256) && decide (flt < 256)
  | .faultRead h which => h.wf && decide (which < 256)
  | .faultLogRead h start max => h.wf && decide (start < 256) && decide (max < 256)
  | .faultAck h first last => h.wf && decide (first < 65536) && decide (last < 65536)
  | .faultCountRead h first last _ => h.wf && decide (first < 65536) && decide (last < 65536)
  | .faultVerdict h logIndex action => h.wf && decide (logIndex < 4294967296) && decide (action < 256)
  | .faultXfSet h enable => h.wf && decide (enable < 256)
  | .powerCapSet h capMw => h.wf && decide (capMw < 4294967296)
  | .powerQuery h => h.wf
  | .powerTelemetrySet h index smbusAddr device rail => h.wf && decide (index < 65536) && decide (smbusAddr < 256) && decide (device < 256) && decide (rail < 256)
  | .pinClaim h kind index => h.wf && decide (kind < 256) && optLt index 65536
  | .pinRelease h kind _ index => h.wf && decide (kind < 256) && decide (index < 65536)
  | .pinQuery h kind index => h.wf && decide (kind < 256) && decide (index < 65536)
  | .pinGpioSet h gpio dir level => h.wf && decide (gpio < 256) && decide (dir < 256) && decide (level < 256)
  | .pinGpioRead h gpio _ => h.wf && decide (gpio < 256)
  | .diagCoreStats h _ => h.wf
  | .diagSelftest h _ => h.wf
  | .diagTempRead h => h.wf
  | .diagTraceRead h maxBytes addr => h.wf && decide (maxBytes < 4294967296) && decide (addr < 18446744073709551616)
  | .mbxDoorbellWrite _ fn warden _ _ => decide (fn < 64) && (!warden || fn == 0)
  | .stalePhaseRetry _ fn warden _ => decide (fn < 64) && (!warden || fn == 0)
  | .mbxEnableSet _ fn warden _ => decide (fn < 64) && (!warden || fn == 0)
  | .mbxEnableClear _ fn warden => decide (fn < 64) && (!warden || fn == 0)
  | .mbxRspHeadWrite _ fn warden _ => decide (fn < 64) && (!warden || fn == 0)
  | .queueDoorbellWrite _ fn doorbell _ => decide (fn < 64) && decide (doorbell < 8192)
  | .registerWrite _ fn offset width _ => decide (fn < 64) && decide (offset < 18446744073709551616) && decide (width < 9)
  | .submissionFetch _ q _ => decide (q < 32768)
  | .packetDelivery _ q bufAddr bufBytes => decide (q < 32768) && decide (bufAddr < 18446744073709551616) && decide (bufBytes < 4294967296)
  | .hostLinkWrite _ => true
  | .msixHoldoffEnd _ fn vector => decide (fn < 64) && decide (vector < 256)
  | .resetNAssert _ => true
  | .resetNDeassert _ _ => true
  | .enterSnowplough _ _ _ => true
  | .enterPiste _ _ _ _ _ _ => true
  | .perstNAssert _ => true
  | .perstNDeassert _ => true
  | .vfEnable _ numVfs => decide (numVfs < 64)
  | .vfReturnExpiry _ vf => decide (vf < 64)
  | .functionLevelReset _ fn => decide (fn < 64)
  | .keelFeedOutOfWindow _ _ => true
  | .keelFeedRestored _ _ => true
  | .keelRevertExpiry _ => true
  | .holdUpExpiry _ => true
  | .sysrefStop _ => true
  | .tamperTrip _ source => decide (0x020 ≤ source) && decide (source ≤ 0x024)
  | .s0Removal _ => true
  | .s0Insertion _ _ => true
  | .s1LinkDown _ => true
  | .insertionWindowEnd _ => true
  | .nvmeCompletion _ _ _ _ => true
  | .nvmeCommandTimeout _ _ _ => true
  | .assetReadIssue _ => true
  | .chunkVerify _ _ _ _ _ _ => true
  | .decompressionDone _ _ _ _ _ => true
  | .assetRequestComplete _ _ => true
  | .cellWrite _ q _ => decide (q < 32768)
  | .cellRead _ q _ => decide (q < 32768)
  | .dropRest _ q _ => decide (q < 32768)
  | .queueRebuildDone _ q _ => decide (q < 32768)
  | .freeListRebuildDone _ => true
  | .histogramSample _ => true
  | .dispatchCycle _ => true
  | .progressReport _ core _ => decide (core < 16)
  | .runCommit _ core _ => decide (core < 16)
  | .coreFault _ core kind lane => decide (core < 16) && decide (lane < 6) && decide (kind < 5)
  | .runWatchdogExpiry _ core => decide (core < 16)
  | .laneTestDone _ core lane _ => decide (core < 16) && decide (lane < 6)
  | .thermalEvaluation _ core _ => decide (core < 16)
  | .slowCoreCheck _ core _ => decide (core < 16)
  | .powerCapTick _ _ _ _ => true
  | .lookaheadAnalysisDone _ stream picture _ => decide (stream < 65536) && decide (picture < 4294967296)
  | .laGuardRelease _ stream _ => decide (stream < 65536)
  | .sliceIntake _ stream _ _ => decide (stream < 65536)
  | .displayConcealment _ stream => decide (stream < 65536)
  | .lateLimitExpiry _ stream => decide (stream < 65536)
  | .concealmentDone _ stream => decide (stream < 65536)
  | .recoveryRepeat _ stream => decide (stream < 65536)
  | .recoverMessageRx _ _ => true
  | .comparatorFire _ f => decide (f.cmp < 64)
  | .flFrameEdge _ fl _ => decide (fl < 16)
  | .flLineEdge _ fl _ => decide (fl < 16)
  | .flFlywheelTimeout _ fl => decide (fl < 16)
  | .flChangeApply _ fl => decide (fl < 16)
  | .flAnchorTx _ fl => decide (fl < 16)
  | .flAnchorRx _ _ _ => true
  | .relayAnchorTimeout _ fl => decide (fl < 16)
  | .capEdge _ cap _ _ => decide (cap < 4)
  | .syncTx _ _ _ => true
  | .syncRx _ _ _ => true
  | .followUpRx _ _ _ => true
  | .delayReqRx _ _ _ => true
  | .delayRspRx _ _ _ _ => true
  | .syncMissHoldover _ _ => true
  | .residualSlewDone _ => true
  | .arbitrationAttempt _ _ _ a => decide (a.tdc < 64)
  | .frameReceive _ _ f _ => f.wf
  | .creditRx _ _ src flow _ _ => decide (src < 65536) && decide (flow < 65536)
  | .flowOpenRx _ _ src flow _ _ _ => decide (src < 65536) && decide (flow < 65536)
  | .flowOpenRepeat _ _ flow => decide (flow < 65536)
  | .creditRefresh _ _ flow => decide (flow < 65536)
  | .holdoffExpiry _ _ flow => decide (flow < 65536)
  | .dedupAgeExpiry _ _ src flow => decide (src < 65536) && decide (flow < 65536)
  | .headFrameAged _ _ flow => decide (flow < 65536)
  | .openTimeoutExpiry _ _ flow => decide (flow < 65536)
  | .hostTimeLaunch _ _ flow => decide (flow < 65536)
  | .integrationDone _ _ => true
  | .portDisableAtIdle _ _ => true
  | .busoffRecoveryDone _ _ _ => true
  | .stuckDominantCutoff _ _ => true
  | .lineHeldDominant _ _ => true
  | .dataDriverRunaway _ _ _ => true
  | .busWakeDetect _ _ _ => true
  | .heartbeatTx _ _ => true
  | .heartbeatRx _ _ _ => true
  | .primarySilentSwitch _ _ => true
  | .partnerSilent _ _ => true
  | .anchorTakeoverCheck _ _ => true
  | .gopRequestRx _ _ _ => true
  | .globalOpRx _ _ _ => true
  | .globalOpExecute _ src opId => decide (src < 65536) && decide (opId < 65536)
  | .globalIssueTimeout _ tag => decide (tag < 65536)
  | .barrierReportRx _ _ src barrier _ => decide (src < 65536) && decide (barrier < 65536)
  | .barrierTimeout _ barrier => decide (barrier < 65536)
  | .enrollRecordRx _ _ _ => true
  | .enrollTimeout _ _ node => decide (node < 65536)
  | .gateEntryBoundary _ _ => true
  | .checkFeedPacket _ f => decide (f.unit < 8)
  | .faultMessage _ msgs => msgs.all (fun m => decide (m.source < 1024))
  | .faultVerdictTimeout _ source => decide (source < 1024)
  | .logIntakeDrain _ => true
  | .xfPairChange _ pair _ _ => decide (pair < 4)
  | .xfBrokenExpiry _ pair => decide (pair < 4)
  | .fltReadbackMismatch _ => true
  | .sysrefReturn _ => true
  | .mainDomainResetRelease _ _ => true
  | .hbmTrainingDone _ _ => true
  | .holdOffLevelReset _ _ => true
  | .lineIdleAfterHold _ _ => true
  | .memberHeartbeatAgeOut _ _ node => decide (node < 65536)
  | .tjThresholdCrossing _ sensor _ => decide (sensor < 24)
  | .fltReadbackRestored _ => true
  | .hostLinkRetrain _ _ _ => true

end Sys2Proof
end

