-- ==== Sys2Proof/Safety.lean ====
section
/-! DEFINITION. What counts as a safe run, and the terms that statements about commands use: which rows are mailbox
requests, when a request is served, and the state in which its own rules run. -/

namespace Sys2Proof.Safety

open Sys2Proof.Machine

/-- Every command in the queue fits its fields. -/
def QueueWf (s : State) : Prop := s.pending.all Instr.wf = true

/-- `n` steps from `s` stop nowhere. -/
def Runs (n : Nat) (s : State) : Prop := ∃ t, Sys2Proof.core.run n s = .next t

/-- No command from `s` stops in its first step. -/
def NoStop (s : State) : Prop := ∃ t, Machine.step s = .next t

/-- A legal lifecycle: no fuse group has more than its 8 bits set (15 R354). -/
def FuseGroupsLegal (s : State) : Prop := s.trust.lcProv ≤ 8 ∧ s.trust.lcField ≤ 8 ∧ s.trust.lcRma ≤ 8

/-! ### Mailbox requests -/

/-- The request that a row stands for, with the columns of its table (17 Tables 17-4 to 17-16): opcode, By, States and
result bytes; an event of the block is no request. -/
def request (c : Instr) : Option (Spec × Hdr) :=
  match c with
  | .devInfo h => some ({ op := 0x0101, inH := true, core := true }, h)
  | .devConfig h _ _ _ => some ({ op := 0x0102, pf := true }, h)
  | .engineReset h => some ({ op := 0x0103, w := true, inH := true, core := true }, h)
  | .timeRead h => some ({ op := 0x0201, res := 72 }, h)
  | .timeSelect h _ => some ({ op := 0x0202, pf := true }, h)
  | .timeAdjust h _ _ _ _ _ => some ({ op := 0x0203, pf := true }, h)
  | .timeServoSet h _ _ => some ({ op := 0x0204, pf := true }, h)
  | .timePortSet h _ _ => some ({ op := 0x0205, pf := true }, h)
  | .timeFlSet h _ _ => some ({ op := 0x0206, pf := true }, h)
  | .timeCmpArm h _ _ => some ({ op := 0x0207 }, h)
  | .timeCmpDisarm h _ => some ({ op := 0x0208 }, h)
  | .timeTrigSet h _ _ => some ({ op := 0x0209 }, h)
  | .timeCapSet h _ _ _ => some ({ op := 0x020A }, h)
  | .timeCapRead h _ _ => some ({ op := 0x020B }, h)
  | .queueCreate h _ _ => some ({ op := 0x0301 }, h)
  | .queueSet h _ _ _ => some ({ op := 0x0302 }, h)
  | .queueQuery h _ => some ({ op := 0x0303, res := 64 }, h)
  | .queueDestroy h _ _ => some ({ op := 0x0304 }, h)
  | .queueAck h _ _ => some ({ op := 0x0305 }, h)
  | .queueQuotaSet h _ _ => some ({ op := 0x0306, w := true }, h)
  | .queueStatsRead h _ _ => some ({ op := 0x0307, res := 96 }, h)
  | .queueHistSet h _ _ _ => some ({ op := 0x0308 }, h)
  | .queueHistRead h _ _ => some ({ op := 0x0309, res := 32 }, h)
  | .queueRingSet h _ => some ({ op := 0x030A }, h)
  | .streamCreate h _ => some ({ op := 0x0401 }, h)
  | .streamSet h _ _ _ => some ({ op := 0x0402 }, h)
  | .streamDestroy h _ _ => some ({ op := 0x0403 }, h)
  | .streamStatsRead h _ _ => some ({ op := 0x0404, res := 160 }, h)
  | .streamRecover h _ _ _ _ => some ({ op := 0x0405, inS := false }, h)
  | .streamConceal h _ _ _ => some ({ op := 0x0406 }, h)
  | .assetVolumeOpen h _ _ _ _ _ _ => some ({ op := 0x0501, inS := false }, h)
  | .assetVolumeClose h _ _ => some ({ op := 0x0502, inS := false }, h)
  | .assetContainerOpen h _ _ _ => some ({ op := 0x0503, inS := false, res := 28 }, h)
  | .assetContainerClose h _ _ => some ({ op := 0x0504, inS := false }, h)
  | .assetRead h _ => some ({ op := 0x0505, inS := false }, h)
  | .assetInstall h _ _ _ _ _ _ _ => some ({ op := 0x0506, inS := false }, h)
  | .assetStatsRead h _ _ => some ({ op := 0x0507, pf := true, inS := false, res := 112 }, h)
  | .busPortSet h _ _ => some ({ op := 0x0601, pf := true }, h)
  | .busPortQuery h _ => some ({ op := 0x0602, res := 88 }, h)
  | .busPortRecover h _ => some ({ op := 0x0603, pf := true }, h)
  | .busWake h _ => some ({ op := 0x0604, pf := true }, h)
  | .busFlowCreate h _ => some ({ op := 0x0605, inS := false }, h)
  | .busFlowSet h _ _ _ => some ({ op := 0x0606, inS := false }, h)
  | .busFlowResume h _ _ _ => some ({ op := 0x0607, inS := false }, h)
  | .busFlowDestroy h _ _ _ => some ({ op := 0x0608, inS := false }, h)
  | .busFlowStats h _ _ _ => some ({ op := 0x0609, inS := false, res := 64 }, h)
  | .busMbSet h _ _ _ => some ({ op := 0x060A }, h)
  | .busMbSend h _ _ _ _ => some ({ op := 0x060B }, h)
  | .busMbRead h _ _ => some ({ op := 0x060C }, h)
  | .busMbRelease h _ _ => some ({ op := 0x060D }, h)
  | .busFilterSet h _ _ _ => some ({ op := 0x060E }, h)
  | .busInspectVerdict h _ _ _ => some ({ op := 0x060F, pf := true, inS := false }, h)
  | .busStatsRead h _ _ => some ({ op := 0x0610, res := 416 }, h)
  | .busTraverseSet h _ => some ({ op := 0x0611, pf := true, inS := false }, h)
  | .busAnchorSet h _ => some ({ op := 0x0612, pf := true }, h)
  | .busAnchorQuery h _ => some ({ op := 0x0613 }, h)
  | .busAnchorTakeover h _ => some ({ op := 0x0614, pf := true }, h)
  | .busGlobalIssue h _ _ => some ({ op := 0x0615, pf := true, inS := false }, h)
  | .busBarrierArrive h _ => some ({ op := 0x0616, pf := true, inS := false }, h)
  | .busPortStatsClear h _ => some ({ op := 0x0617, pf := true }, h)
  | .schedHostSet h _ => some ({ op := 0x0701, w := true, inS := false }, h)
  | .schedFnSet h _ _ _ => some ({ op := 0x0702, w := true, inS := false }, h)
  | .schedShaperSet h _ _ => some ({ op := 0x0703, inS := false }, h)
  | .schedShaperBind h _ _ _ _ => some ({ op := 0x0704, inS := false }, h)
  | .schedShaperReset h _ => some ({ op := 0x0705, inS := false }, h)
  | .schedShaperRelease h _ => some ({ op := 0x0706, inS := false }, h)
  | .schedPolicerSet h _ _ => some ({ op := 0x0707, inS := false }, h)
  | .schedPolicerReset h _ _ => some ({ op := 0x0708, inS := false }, h)
  | .schedGateSet h _ _ => some ({ op := 0x0709, pf := true, inS := false }, h)
  | .schedGateStart h _ => some ({ op := 0x070A, pf := true, inS := false }, h)
  | .schedGateStop h _ => some ({ op := 0x070B, pf := true, inS := false }, h)
  | .schedGateClass h _ _ _ => some ({ op := 0x070C, pf := true, inS := false }, h)
  | .schedStatsRead h _ => some ({ op := 0x070D, inS := false }, h)
  | .schedLatencySet h _ _ => some ({ op := 0x070E, inS := false }, h)
  | .schedLatencyRead h _ _ _ => some ({ op := 0x070F, inS := false, res := 56 }, h)
  | .checkSet h _ _ => some ({ op := 0x0801 }, h)
  | .checkRun h _ _ _ _ _ _ _ _ _ => some ({ op := 0x0802 }, h)
  | .checkStateRead h _ => some ({ op := 0x0803 }, h)
  | .checkStateWrite h _ _ => some ({ op := 0x0804 }, h)
  | .checkRelease h _ _ => some ({ op := 0x0805 }, h)
  | .trustInfo h => some ({ op := 0x0901, inH := true, res := 348 }, h)
  | .trustProvision h _ _ _ _ => some ({ op := 0x0902, w := true }, h)
  | .trustLifecycleAdvance h _ _ _ _ _ => some ({ op := 0x0903, w := true, inS := false }, h)
  | .trustDebugUnlock h _ _ _ => some ({ op := 0x0904, w := true }, h)
  | .trustFwStage h _ _ _ _ => some ({ op := 0x0905, w := true, inS := false }, h)
  | .trustFwActivate h => some ({ op := 0x0906, w := true, inS := false }, h)
  | .trustFwCommit h => some ({ op := 0x0907, w := true, inS := false }, h)
  | .trustFwRecover h _ _ _ _ => some ({ op := 0x0908, w := true, inS := false, inP := false, inH := true, core := true }, h)
  | .trustPcbSet h _ _ => some ({ op := 0x0909, w := true, inS := false }, h)
  | .trustKeyLoad h _ _ => some ({ op := 0x090A, inS := false }, h)
  | .trustKeyGenerate h _ => some ({ op := 0x090B, inS := false, res := 249 }, h)
  | .trustKeyErase h _ => some ({ op := 0x090C, inS := false }, h)
  | .trustAuthoritySet h _ _ => some ({ op := 0x090D, w := true }, h)
  | .trustNodeRevoke h _ _ _ => some ({ op := 0x090E, pf := true }, h)
  | .trustSessionChallenge h => some ({ op := 0x090F, inS := false, res := 32 }, h)
  | .trustSessionOpen h _ _ _ _ => some ({ op := 0x0910, inS := false, res := 613 }, h)
  | .trustSessionClose h _ => some ({ op := 0x0911, inS := false }, h)
  | .trustAttest h _ _ => some ({ op := 0x0912, res := 768 }, h)
  | .trustTimeSet h _ _ _ => some ({ op := 0x0913, pf := true, inS := false }, h)
  | .faultSet h _ _ _ _ _ => some ({ op := 0x0A01, pf := true }, h)
  | .faultThresholdSet h _ _ => some ({ op := 0x0A02, pf := true }, h)
  | .faultRead h _ => some ({ op := 0x0A03, pf := true, inH := true, res := 32 }, h)
  | .faultLogRead h _ _ => some ({ op := 0x0A04, pf := true, inH := true }, h)
  | .faultAck h _ _ => some ({ op := 0x0A05, pf := true, inH := true }, h)
  | .faultCountRead h _ _ _ => some ({ op := 0x0A06, pf := true, inH := true }, h)
  | .faultVerdict h _ _ => some ({ op := 0x0A07, pf := true }, h)
  | .faultXfSet h _ => some ({ op := 0x0A08, pf := true }, h)
  | .powerCapSet h _ => some ({ op := 0x0B01, pf := true, inS := false }, h)
  | .powerQuery h => some ({ op := 0x0B02, inH := true }, h)
  | .powerTelemetrySet h _ _ _ _ => some ({ op := 0x0B03, pf := true }, h)
  | .pinClaim h _ _ => some ({ op := 0x0C01 }, h)
  | .pinRelease h _ _ _ => some ({ op := 0x0C02 }, h)
  | .pinQuery h _ _ => some ({ op := 0x0C03, inH := true }, h)
  | .pinGpioSet h _ _ _ => some ({ op := 0x0C04 }, h)
  | .pinGpioRead h _ _ => some ({ op := 0x0C05 }, h)
  | .diagCoreStats h _ => some ({ op := 0x0F01, pf := true, res := 1632 }, h)
  | .diagSelftest h _ => some ({ op := 0x0F02, pf := true, inS := false }, h)
  | .diagTempRead h => some ({ op := 0x0F03, pf := true, inH := true, res := 48 }, h)
  | .diagTraceRead h _ _ => some ({ op := 0x0F04, pf := true, inH := true }, h)
  | .engineResetDone _ => none
  | .mbxDoorbellWrite _ _ _ _ _ => none
  | .stalePhaseRetry _ _ _ _ => none
  | .mbxEnableSet _ _ _ _ => none
  | .mbxEnableClear _ _ _ => none
  | .mbxRspHeadWrite _ _ _ _ => none
  | .queueDoorbellWrite _ _ _ _ => none
  | .registerWrite _ _ _ _ _ => none
  | .submissionFetch _ _ _ => none
  | .packetDelivery _ _ _ _ => none
  | .hostLinkWrite _ => none
  | .msixHoldoffEnd _ _ _ => none
  | .resetNAssert _ => none
  | .resetNDeassert _ _ => none
  | .enterSnowplough _ _ _ => none
  | .enterPiste _ _ _ _ _ _ => none
  | .perstNAssert _ => none
  | .perstNDeassert _ => none
  | .vfEnable _ _ => none
  | .vfReturnExpiry _ _ => none
  | .functionLevelReset _ _ => none
  | .keelFeedOutOfWindow _ _ => none
  | .keelFeedRestored _ _ => none
  | .keelRevertExpiry _ => none
  | .holdUpExpiry _ => none
  | .sysrefStop _ => none
  | .tamperTrip _ _ => none
  | .s0Removal _ => none
  | .s0Insertion _ _ => none
  | .s1LinkDown _ => none
  | .insertionWindowEnd _ => none
  | .nvmeCompletion _ _ _ _ => none
  | .nvmeCommandTimeout _ _ _ => none
  | .assetReadIssue _ => none
  | .chunkVerify _ _ _ _ _ _ => none
  | .decompressionDone _ _ _ _ _ => none
  | .assetRequestComplete _ _ => none
  | .cellWrite _ _ _ => none
  | .cellRead _ _ _ => none
  | .dropRest _ _ _ => none
  | .queueRebuildDone _ _ _ => none
  | .freeListRebuildDone _ => none
  | .histogramSample _ => none
  | .dispatchCycle _ => none
  | .progressReport _ _ _ => none
  | .runCommit _ _ _ => none
  | .coreFault _ _ _ _ => none
  | .runWatchdogExpiry _ _ => none
  | .laneTestDone _ _ _ _ => none
  | .thermalEvaluation _ _ _ => none
  | .slowCoreCheck _ _ _ => none
  | .powerCapTick _ _ _ _ => none
  | .lookaheadAnalysisDone _ _ _ _ => none
  | .laGuardRelease _ _ _ => none
  | .sliceIntake _ _ _ _ => none
  | .displayConcealment _ _ => none
  | .lateLimitExpiry _ _ => none
  | .concealmentDone _ _ => none
  | .recoveryRepeat _ _ => none
  | .recoverMessageRx _ _ => none
  | .comparatorFire _ _ => none
  | .flFrameEdge _ _ _ => none
  | .flLineEdge _ _ _ => none
  | .flFlywheelTimeout _ _ => none
  | .flChangeApply _ _ => none
  | .flAnchorTx _ _ => none
  | .flAnchorRx _ _ _ => none
  | .relayAnchorTimeout _ _ => none
  | .capEdge _ _ _ _ => none
  | .syncTx _ _ _ => none
  | .syncRx _ _ _ => none
  | .followUpRx _ _ _ => none
  | .delayReqRx _ _ _ => none
  | .delayRspRx _ _ _ _ => none
  | .syncMissHoldover _ _ => none
  | .residualSlewDone _ => none
  | .arbitrationAttempt _ _ _ _ => none
  | .frameReceive _ _ _ _ => none
  | .creditRx _ _ _ _ _ _ => none
  | .flowOpenRx _ _ _ _ _ _ _ => none
  | .flowOpenRepeat _ _ _ => none
  | .creditRefresh _ _ _ => none
  | .holdoffExpiry _ _ _ => none
  | .dedupAgeExpiry _ _ _ _ => none
  | .headFrameAged _ _ _ => none
  | .openTimeoutExpiry _ _ _ => none
  | .hostTimeLaunch _ _ _ => none
  | .integrationDone _ _ => none
  | .portDisableAtIdle _ _ => none
  | .busoffRecoveryDone _ _ _ => none
  | .stuckDominantCutoff _ _ => none
  | .lineHeldDominant _ _ => none
  | .dataDriverRunaway _ _ _ => none
  | .busWakeDetect _ _ _ => none
  | .heartbeatTx _ _ => none
  | .heartbeatRx _ _ _ => none
  | .primarySilentSwitch _ _ => none
  | .partnerSilent _ _ => none
  | .anchorTakeoverCheck _ _ => none
  | .gopRequestRx _ _ _ => none
  | .globalOpRx _ _ _ => none
  | .globalOpExecute _ _ _ => none
  | .globalIssueTimeout _ _ => none
  | .barrierReportRx _ _ _ _ _ => none
  | .barrierTimeout _ _ => none
  | .enrollRecordRx _ _ _ => none
  | .enrollTimeout _ _ _ => none
  | .gateEntryBoundary _ _ => none
  | .checkFeedPacket _ _ => none
  | .faultMessage _ _ => none
  | .faultVerdictTimeout _ _ => none
  | .logIntakeDrain _ => none
  | .xfPairChange _ _ _ _ => none
  | .xfBrokenExpiry _ _ => none
  | .fltReadbackMismatch _ => none
  | .sysrefReturn _ => none
  | .mainDomainResetRelease _ _ => none
  | .hbmTrainingDone _ _ => none
  | .holdOffLevelReset _ _ => none
  | .lineIdleAfterHold _ _ => none
  | .memberHeartbeatAgeOut _ _ _ => none
  | .tjThresholdCrossing _ _ _ => none
  | .fltReadbackRestored _ => none
  | .hostLinkRetrain _ _ _ => none

/-- The state in which a request's own rules run: its instant has come, and it counts as started. -/
def begun (sp : Spec) (h : Hdr) (s : State) : State := markStarted sp h (advanceReq h s)

/-- A request as the engine reads it: what was fetched of it may have had a wrong length or a reserved bit (R382). -/
def asRead (h : Hdr) (s : State) : Hdr :=
  { h with rsvd := h.rsvd || ((fetchedHead (mbxGet (advanceReq h s) h.fn h.warden)).map (fun f => f.bad)).getD false }

/-- The request can start now (R381, R383, R388), what was fetched of it has no wrong length or reserved bit, and it
passes checks 2 to 4 of R396. -/
def servedBy (sp : Spec) (h : Hdr) (s : State) : Bool :=
  startable sp h (advanceReq h s) &&
  !(((fetchedHead (mbxGet (advanceReq h s) h.fn h.warden)).map (fun f => f.bad)).getD false) &&
  (checkReq sp h (begun sp h s)).isNone

/-- Is the row a request that is served? -/
def served (c : Instr) (s : State) : Bool :=
  match request c with
  | some r => servedBy r.1 r.2 s
  | none => false

/-- A row is a request that is served. -/
abbrev Served (c : Instr) (s : State) : Prop := served c s = true

/-- The state in which the rules of a row's own run. -/
def started (c : Instr) (s : State) : State :=
  match request c with
  | some r => begun r.1 r.2 s
  | none => s

/-- The request is answered OK with a result, and the rest of the machine is `t`. -/
def answeredOk (h : Hdr) (res : List Int) (t : State) : Host.Outcome State Fault Refusal := .next (finish h .ok res t)

/-- The state in which a row's event takes place: its instant has come. -/
def at_ (t : Nat) (s : State) : State := advance t s

end Sys2Proof.Safety
end

