-- ==== Sys2Proof/Certificates/Slice0/Obligations.lean ====
section
/-! DEFINITION. The statements for the provers, from the numbered rules of spec/. An equation of `exec` with a next state
says both that the command completes and what it leaves unchanged: what `started`, `advance` and `finish` change is said
by `Obligations.StartFrame` and `Obligations.AnswerFrame`. -/

open Sys2Proof Sys2Proof.Machine Sys2Proof.Safety

/-! ### The queue of commands and the mailbox -/

/-- A step takes the command at the front of the queue and runs it with the queue's rest. -/
def Obligations.StepRunsFront : Prop :=
  ∀ c rest s, s.pending = c :: rest → step s = exec c { s with pending := rest }

/-- With no command waiting one FRC cycle passes and nothing else happens (the model's choice, log 1): the FRC rises by
one while the keel is powered and SYSREF runs, and secure time follows the active view. -/
def Obligations.IdleTick : Prop :=
  ∀ s, s.pending = [] → ∃ t, step s = .next t ∧
    t.keel.frc = (if s.keel.powered && s.keel.sysref then s.keel.frc + 1 else s.keel.frc) ∧
    t = { s with keel := { s.keel with frc := t.keel.frc, secure := t.keel.secure } } ∧ s.keel.secure ≤ t.keel.secure

/-- Every command and event leaves the queue of waiting commands as it is. -/
def Obligations.QueueKept : Prop := ∀ c s t, exec c s = .next t → t.pending = s.pending

/-- A request that cannot start yet changes nothing but the time that passes. -/
def Obligations.RequestWaits : Prop :=
  ∀ c sp h s, request c = some (sp, h) → startable sp h (advanceReq h s) = false → exec c s = .next (advanceReq h s)

/-- A request that fails one of checks 2 to 4 of R396 is answered with the status of the first check that fails, and the
engine carries out nothing. -/
def Obligations.FailedCheckNoEffect : Prop :=
  ∀ c sp h s e, request c = some (sp, h) → startable sp h (advanceReq h s) = true →
    checkReq sp (asRead h s) (begun sp h s) = some e → exec c s = .next (finish h e [] (begun sp h s))

/-- The order of checks 2 to 4 of R396: the caller (By column), then the engine state (States column), then reserved
fields and result space. -/
def Obligations.CheckOrder : Prop :=
  ∀ sp h s,
    (sp.w = true → h.warden = false → checkReq sp h s = some .noPerm) ∧
    (sp.pf = true → h.fn ≠ 0 → checkReq sp h s = some .noPerm) ∧
    ((sp.w = true → h.warden = true) → (sp.pf = true → h.fn = 0) →
      (stateServes sp h s = false → checkReq sp h s = some .state) ∧
      (stateServes sp h s = true → h.rsvd = true → checkReq sp h s = some .badArg) ∧
      (stateServes sp h s = true → 24 < sp.res → h.room < sp.res → checkReq sp h s = some .badArg) ∧
      (stateServes sp h s = true → h.rsvd = false → (24 < sp.res → sp.res ≤ h.room) → checkReq sp h s = none))

/-- Which engine states serve a request (R388): none in START_HUT; in SNOWPLOUGH the PF's rings serve the commands with an
S; in PISTE every ring serves those with a P; in HALTED the PF's rings serve those with an H while firmware runs, and
else only DEV.INFO, ENGINE.RESET and TRUST.FW.RECOVER. -/
def Obligations.StatesServe : Prop :=
  ∀ sp h s,
    (s.eng = .startHut → stateServes sp h s = false) ∧
    (s.eng = .snowplough → stateServes sp h s = (sp.inS && (h.fn == 0 || h.warden))) ∧
    (s.eng = .piste → stateServes sp h s = sp.inP) ∧
    (s.eng = .halted → s.trust.fwRuns = true → stateServes sp h s = (sp.inH && (h.fn == 0 || h.warden))) ∧
    (s.eng = .halted → s.trust.fwRuns = false → stateServes sp h s = (sp.core && (h.fn == 0 || h.warden))) ∧
    (∀ c, (∃ r, request c = some r ∧ r.1.core = true) ↔
      (∃ h, c = .devInfo h) ∨ (∃ h, c = .engineReset h) ∨ (∃ h a b d e, c = .trustFwRecover h a b d e))

/-- What it changes to start a request: time passes (FRC and secure time), and the request counts as fetched and
started on its ring. -/
def Obligations.StartFrame : Prop :=
  ∀ c sp h s, request c = some (sp, h) →
    started c s = { s with keel := { s.keel with frc := (started c s).keel.frc, secure := (started c s).keel.secure }
                           link := (started c s).link } ∧
    (started c s).keel.frc = (advanceReq h s).keel.frc ∧ s.keel.secure ≤ (started c s).keel.secure ∧
    (started c s).link.compl = s.link.compl ∧ (started c s).link.longs = s.link.longs ∧
    (started c s).link.writes = s.link.writes ∧
    (∀ fn w, (w ≠ h.warden ∨ w = false ∧ fn ≠ h.fn) → mbxGet (started c s) fn w = mbxGet s fn w) ∧
    mbxGet (started c s) h.fn h.warden =
      { mbxGet s h.fn h.warden with fetched := (mbxGet (started c s) h.fn h.warden).fetched }

/-- What answering changes: the response, with the request's opcode, tag and status, joins the writes that wait for the link, or the held responses of its ring
while the ring takes none (R378, R383, R392), and the request is no longer outstanding; nothing outside the host link
changes. -/
def Obligations.AnswerFrame : Prop :=
  ∀ h st res s, let t := finish h st res s
    let m := mbxGet s h.fn h.warden
    let op := ((m.fetched.find? (fun f => f.started && f.tag == h.tag)).map (fun f => f.opcode)).getD 0
    let r : Rsp := { tag := h.tag, status := st, noInt := h.noInt, op := op, addr := h.resAddr, result := res }
    t = { s with link := t.link } ∧ t.link.longs = s.link.longs ∧ t.link.writes = s.link.writes ∧
    (mbxGet t h.fn h.warden).fetched = dropFetched h.tag m.fetched ∧
    (canWrite s m = true → t.link.compl = s.link.compl ++ [.rsp h.fn h.warden r] ∧ (mbxGet t h.fn h.warden).held = m.held) ∧
    (canWrite s m = false → t.link.compl = s.link.compl ∧ (mbxGet t h.fn h.warden).held = m.held ++ [r]) ∧
    (∀ fn w, (w ≠ h.warden ∨ w = false ∧ fn ≠ h.fn) → mbxGet t fn w = mbxGet s fn w)

/-- No command stops the machine but a write into an open debug window; an event stops it only where it names an object
that the hardware does not have, which no well-formed event does. Every other well-formed command and event answers a next
state. -/
def Obligations.OnlyStops : Prop :=
  (∀ c s r, exec c s = .refused r → r = .debugWindow ∧ ∃ t fn off w v, c = .registerWrite t fn off w v ∧ debugHit (advance t s) fn off w = true) ∧
  (∀ c s f, exec c s = .fault f → request c = none ∧ Instr.wf c = false) ∧
  (∀ c s, Instr.wf c = true →
    (∀ t fn off w v, c = .registerWrite t fn off w v → debugHit (advance t s) fn off w = false) → ∃ t, exec c s = .next t)

/-- The free-running counter (R29): no command, register write, reset or event sets it back; it starts from zero only
where the keel has lost both feeds, which the two rows that end a keel's hold-up show. -/
def Obligations.FrcNeverGoesBack : Prop :=
  ∀ c s t, exec c s = .next t →
    s.keel.frc ≤ t.keel.frc ∨ (t.keel.frc = 0 ∧ ((∃ x f, c = .keelFeedRestored x f) ∨ ∃ x, c = .holdUpExpiry x))

/-- Fuses are only ever burned (R353, R354, R360): every step keeps the lifecycle groups legal, takes no fuse bit back,
so that the lifecycle and the firmware and configuration floors never fall, and leaves OEM_ROOT_HASH alone once the part
is no longer BLANK. -/
def Obligations.FusesOnlyBurn : Prop :=
  ∀ s t, FuseGroupsLegal s → step s = .next t → FuseGroupsLegal t ∧
    s.trust.lcProv ≤ t.trust.lcProv ∧ s.trust.lcField ≤ t.trust.lcField ∧ s.trust.lcRma ≤ t.trust.lcRma ∧
    lifecycle s.trust ≤ lifecycle t.trust ∧ s.trust.fuseFw ≤ t.trust.fuseFw ∧ s.trust.fuseCfg ≤ t.trust.fuseCfg ∧
    (lifecycle s.trust ≠ 0 → t.trust.rootHash = s.trust.rootHash)

/-- After reset the part is BLANK with legal fuse groups and the FRC is zero. -/
def Obligations.ResetFuses : Prop := FuseGroupsLegal State.reset ∧ lifecycle State.reset.trust = 0 ∧ State.reset.keel.frc = 0

/-! ### DEV and TIME -/

/-- DEV.INFO, DEV.CONFIG (a read of any key, a write of VF_RETURN) and ENGINE.RESET, which stays outstanding through the
warm reset. -/
def Obligations.DevCommands : Prop :=
  (∀ h s, Served (.devInfo h) s → let b := started (.devInfo h) s
    exec (.devInfo h) s = answeredOk h [0x6520, 0x01, Int.ofNat (engCode b.eng), Int.ofNat (Config.fwVersion b.trust.meas),
      Int.ofNat (bit01 b.trust.runB), Int.ofNat b.link.numVfs, Int.ofNat (coresOnline b), Int.ofNat b.keel.frc] b) ∧
  (∀ h key v s, Served (.devConfig h key false v) s → 1 ≤ key → key ≤ 7 →
    exec (.devConfig h key false v) s = answeredOk h [Int.ofNat key, Int.ofNat (configValue (started (.devConfig h key false v) s) key)]
      (started (.devConfig h key false v) s)) ∧
  (∀ h v s, Served (.devConfig h 6 true (some v)) s → 1 ≤ v → v ≤ 60 → let b := started (.devConfig h 6 true (some v)) s
    exec (.devConfig h 6 true (some v)) s = answeredOk h [6, Int.ofNat v] { b with link := { b.link with vfReturn := v } }) ∧
  (∀ h s, Served (.engineReset h) s → let b := started (.engineReset h) s
    b.link.perst = false → exec (.engineReset h) s = .next (startReset (outstanding h .engineReset b)))

/-- TIME.READ answers with values latched in one FRC cycle (R36): the FRC, TA and TB, the active view and its residual,
both epochs, both states and which domain is selected. -/
def Obligations.TimeReadLatch : Prop :=
  ∀ h s, Served (.timeRead h) s → let b := started (.timeRead h) s
    exec (.timeRead h) s = answeredOk h [Int.ofNat b.keel.frc, domNow b .ta, domNow b .tb, activeNow b, residualAt b.keel b.keel.frc,
      Int.ofNat b.keel.ta.epoch, Int.ofNat b.keel.tb.epoch, Int.ofNat (servoCode b.keel.ta.st), Int.ofNat (servoCode b.keel.tb.st),
      Int.ofNat (domNum b.keel.followed + 128 * bit01 (b.keel.select == 2))] b

/-- TIME.SELECT, and the TIME commands that set the servo, the terms of a port and a fall line that is OFF. -/
def Obligations.TimeSettings : Prop :=
  (∀ h s, Served (.timeSelect h 0) s → let b := started (.timeSelect h 0) s
    exec (.timeSelect h 0) s = answeredOk h [] (switchTo .ta { b with keel := { b.keel with select := 0 } })) ∧
  (∀ h s, Served (.timeSelect h 1) s → let b := started (.timeSelect h 1) s
    exec (.timeSelect h 1) s = answeredOk h [] (switchTo .tb { b with keel := { b.keel with select := 1 } })) ∧
  (∀ h s, Served (.timeSelect h 2) s → let b := started (.timeSelect h 2) s
    exec (.timeSelect h 2) s = answeredOk h [] (autoFollow { b with keel := { b.keel with select := 2 } })) ∧
  (∀ h r s, Served (.timeAdjust h 0 false true r 0) s → let b := started (.timeAdjust h 0 false true r 0) s
    fnat b.tu.servoA.f 0x2301 0 = 1 →
    exec (.timeAdjust h 0 false true r 0) s = answeredOk h [] { b with keel := { b.keel with ta :=
      { rebase b .ta with rateAdj := clipRate r } } }) ∧
  (∀ h recs s, Served (.timeServoSet h 0 recs) s → let b := started (.timeServoSet h 0 recs) s
    recsOk servoFields recs = .ok () → names recs 0x2309 = false →
    exec (.timeServoSet h 0 recs) s = answeredOk h [] { b with tu := { b.tu with servoA := { b.tu.servoA with f := fapply b.tu.servoA.f recs } } }) ∧
  (∀ h tx rx asym s, let c : Instr := .timePortSet h 1 [⟨0x2601, .num tx⟩, ⟨0x2602, .num rx⟩, ⟨0x2603, .num asym⟩]
    Served c s → 0 ≤ tx → tx < 65536 → 0 ≤ rx → rx < 65536 → -32768 ≤ asym → asym < 32768 → let b := started c s
    exec c s = answeredOk h [] { b with tu := { b.tu with termsB := { tx := some tx.toNat, rx := some rx.toNat, asym := asym } } }) ∧
  (∀ h fl recs s, Served (.timeFlSet h fl recs) s → let b := started (.timeFlSet h fl recs) s
    let f := { flGet b fl with f := fapply (flGet b fl).f ((flGet b fl).pending ++ recs) }
    fl < 16 → recsOk flFields recs = .ok () → anchorOutOk recs = true → flResultOk fl f = true →
    flSource (flGet b fl) = 3 → flSource f ≠ 3 → exec (.timeFlSet h fl recs) s = answeredOk h [] (applyFl fl recs b))

/-- The commands of comparators, TRIG pins and capture FIFOs that the caller holds. -/
def Obligations.TimePins : Prop :=
  (∀ h cmp target pin s, let c : Instr := .timeCmpArm h cmp [⟨0x2A01, .num 0⟩, ⟨0x2A03, .time target⟩, ⟨0x2A05, .num 0⟩, ⟨0x2A06, .num (Int.ofNat pin)⟩]
    Served c s → let b := started c s
    cmp < 64 → pin < 8 → (tgetD b.tu.cmps cmp {}).gate = none → (tgetD b.tu.cmps cmp {}).owner = some h.fn →
    (tgetD b.tu.cmps cmp {}).armed = false → (tgetD b.tu.trigs pin {}).owner = some h.fn → activeNow b < target →
    let armed : Cmp := { owner := some h.fn, armed := true, target := target, arg := pin }
    exec c s = answeredOk h [] { b with tu := { b.tu with cmps := tput b.tu.cmps cmp armed } }) ∧
  (∀ h cmp s, Served (.timeCmpDisarm h cmp) s → let b := started (.timeCmpDisarm h cmp) s
    let c := tgetD b.tu.cmps cmp {}
    cmp < 64 → c.gate = none → c.owner = some h.fn → c.armed = false →
    exec (.timeCmpDisarm h cmp) s = answeredOk h [Int.ofNat c.firings]
      { b with tu := { b.tu with cmps := tput b.tu.cmps cmp { c with armed := false } } }) ∧
  (∀ h trig w s, let c : Instr := .timeTrigSet h trig [⟨0x2C01, .num w⟩]
    Served c s → let b := started c s; let x := tgetD b.tu.trigs trig {}
    trig < 8 → 4 ≤ w → w ≤ 65535 → x.owner = some h.fn →
    exec c s = answeredOk h [] { b with tu := { b.tu with trigs := tput b.tu.trigs trig { x with width := w.toNat } } }) ∧
  (∀ h fifo edges s, Served (.timeCapSet h fifo edges []) s → let b := started (.timeCapSet h fifo edges []) s
    let x := tgetD b.tu.caps fifo {}
    fifo < 4 → edges < 4 → x.owner = some h.fn →
    exec (.timeCapSet h fifo edges []) s = answeredOk h [] { b with tu := { b.tu with caps := tput b.tu.caps fifo { x with edges := edges, sources := [] } } })

/-- A new RATE_ADJ (R31): in the same cycle FRC_REF becomes the present FRC and OFFSET the domain time that the old
parameters give, so that domain time does not jump; the other domain is as before. -/
def Obligations.RateChangeNoJump : Prop :=
  ∀ d r s, let t := setRate d r s
    (domSet t.keel d).rateAdj = clipRate r ∧ t.keel.frc = s.keel.frc ∧ (domSet t.keel d).frcRef = s.keel.frc ∧ (domSet t.keel d).offset = domNow s d ∧ domNow t d = domNow s d ∧
    (∀ e, e ≠ d → domSet t.keel e = domSet s.keel e)

/-- Domain time (R30): OFFSET, the time dt since FRC_REF and the floor of dt x RATE_ADJ x 2^-40, at the present FRC for a
read and at the FRC with its TDC fraction for a timestamp; a change of at most 1 µs that is being slewed in (Table 2-5)
adds what the slew has made so far, which never passes that change. -/
def Obligations.DomainTime : Prop :=
  (∀ s d, domNow s d = domAt (domSet s.keel d) (Int.ofNat s.keel.frc * 65536)) ∧
  (∀ frc tdc, tdc < 64 → rawStamp frc tdc = Int.ofNat frc * 65536 + Int.ofNat (tdc * 1024)) ∧
  (∀ (d : DomSet) (x : Ticks), let dt := x - Int.ofNat d.frcRef * 65536
    domAt d x = d.offset + dt + (dt * d.rateAdj) / 2 ^ 40 + slewGained d x ∧
    (d.slew = 0 → slewGained d x = 0) ∧ (0 ≤ d.slew → 0 ≤ slewGained d x ∧ slewGained d x ≤ d.slew) ∧
    (d.slew ≤ 0 → d.slew ≤ slewGained d x ∧ slewGained d x ≤ 0))

/-- A position of a fall line that runs on a raster, converted to a time and back, is the same position; a time
converts to the latest position whose time is not after it (R48). -/
def Obligations.PositionRoundTrip : Prop :=
  ∀ (f : FallLine) (i : Int), flSource f = 1 ∨ flSource f = 2 → 64 * flDen f * flLines f ≤ flPeriodNum f →
    (∃ tau, flTimeOf f i = some tau ∧ flIdxAt f tau = some i) ∧
    (∀ tau j, flIdxAt f tau = some j → ∃ a b, flTimeOf f j = some a ∧ flTimeOf f (j + 1) = some b ∧ a ≤ tau ∧ tau < b)

/-- A pulse on a TRIG pin that the time-trigger role drives runs to the later end; one that finds the role released or
shadowed by a fault role is ignored and counted (R54). -/
def Obligations.TrigPulse : Prop :=
  ∀ i s, i < 8 → let x := tgetD s.tu.trigs i {}; let y := tgetD (pulse i s).tu.trigs i {}
    (x.owner ≠ none → faultRole s i = false → y = { x with pulseEnd := some (max (x.pulseEnd.getD 0) (s.keel.frc + x.width)) }) ∧
    (x.owner = none ∨ faultRole s i = true → y = { x with ignored := x.ignored + 1 })

/-- Capture FIFOs (R56): an entry that comes while the FIFO holds 64 is dropped and counted in OVERFLOW, and the first one
written after space frees has GAP set; TIME.CAP.READ returns the oldest entries, at most 16. -/
def Obligations.CaptureFifo : Prop :=
  (∀ n source flags time s, n < 8 → let x := tgetD s.tu.caps n {}
    (x.entries.length < 64 → let y := tgetD (capWrite n source flags time s).tu.caps n {}
      y.gap = false ∧ y.overflow = x.overflow ∧ ∃ e, y.entries = x.entries ++ [e] ∧ e.time = time ∧ e.seq = x.seq ∧
        e.source = source ∧ e.flags = flags + 4 * bit01 x.gap) ∧
    (64 ≤ x.entries.length → ∃ seq, let y := { x with overflow := min (x.overflow + 1) (2 ^ 32 - 1), gap := true, seq := seq }
      capWrite n source flags time s = raise 0x321 1 0 false { s with tu := { s.tu with caps := tput s.tu.caps n y } })) ∧
  (∀ h fifo n s, Served (.timeCapRead h fifo n) s → let b := started (.timeCapRead h fifo n) s
    let x := tgetD b.tu.caps fifo {}
    fifo < 8 → x.owner = some h.fn → 8 + 24 * (x.entries.take n).length ≤ h.room →
    (1 ≤ n → n ≤ 16 → exec (.timeCapRead h fifo n) s = answeredOk h
      ([Int.ofNat (x.entries.take n).length, Int.ofNat x.overflow] ++ (x.entries.take n).flatMap entryFields)
      { b with tu := { b.tu with caps := tput b.tu.caps fifo { x with entries := x.entries.drop n } } }) ∧
    (n = 0 ∨ 16 < n → exec (.timeCapRead h fifo n) s = .next (finish h .badArg [] b)))

/-! ### Events of the time unit -/

/-- The edges of the time unit. A comparator that has reached its target, alone and once, fires its TRIG_PULSE and sends its
edge to the internal FIFOs; where what it guards arrives in the cycle it is done without firing (R50-R53). A selected edge of
a capture input is entered with its time, EPOCH, SEQ, source and FLAGS (R55, R56; DOMAIN stays clear, log 76). The first
frame edge of a pin line starts frame FRAME, targets behind it being late (R43, R468); a line edge starts the next line; on
a SYNTH line the start of a line is sent to the FIFOs once (R46, R55); and with the flywheel on, an edge comes each mean line
period (R45). -/
def Obligations.TimeEdges : Prop :=
  (∀ t cmp s, let b := advance t s; let c := tgetD b.tu.cmps cmp {}
    cmp < 64 → tget b.tu.cmps cmp = some c → c.armed = true → c.base = 0 → c.periodic = false → c.action = 0 →
    c.target ≤ activeNow b → (∀ i, i ≠ cmp → (tgetD b.tu.cmps i {}).armed = false) →
    let u := { b with tu := { b.tu with cmps := tput b.tu.cmps cmp { c with armed := false, firings := c.firings + 1 } } }
    exec (.comparatorFire t ⟨cmp, false⟩) s = .next (routeInternal (0x40 + cmp) 0 (activeNow b) (pulse (c.arg % 8) u)) ∧
    exec (.comparatorFire t ⟨cmp, true⟩) s =
      .next { b with tu := { b.tu with cmps := tput b.tu.cmps cmp { c with armed := false } } }) ∧
  (∀ t cap falling tdc s, let b := advance t s; let x := tgetD b.tu.caps cap {}
    cap < 4 → x.owner ≠ none → bitOf x.edges (bit01 falling) = true → x.lastRaw = none → x.entries.length < 64 →
    let tau := stampActive t tdc b
    ∃ u, exec (.capEdge t cap falling tdc) s = .next u ∧ (tgetD u.tu.caps cap {}).entries = x.entries ++
      [{ time := tau, epoch := activeEpoch b.keel, seq := x.seq, source := cap, flags := bit01 falling + 4 * bit01 x.gap }]) ∧
  (∀ t fl tdc s, let b := advance t s; let f := flGet b fl
    fl < 16 → flSource f = 0 → f.started = false → f.fly = false → f.lastEdge = none → let tau := stampActive t tdc b
    let u := routeInternal (0x10 + fl) 0 tau (setFl (setFl b fl f) fl (startFrame (fnat f.f 0x2908 0) tau false f))
    exec (.flFrameEdge t fl tdc) s = .next (rekey fl (lateOnFl fl u))) ∧
  (∀ t fl tdc s, let b := advance t s; let f := flGet b fl
    fl < 16 → flSource f = 0 → f.started = true → f.fly = false → f.frames = [] → f.line + 1 < flLines f →
    let tau := stampActive t tdc b
    exec (.flLineEdge t fl tdc) s = .next (routeInternal (0x10 + fl) 0 tau (setFl b fl (startLine tau false f)))) ∧
  (∀ t fl tdc i tau s, let b := advance t s; let f := flGet b fl
    fl < 16 → flSource f = 1 → flNow b fl = some i → flTimeOf f (Int.fdiv i 65536 * 65536) = some tau → f.lastEdge ≠ some tau →
    exec (.flLineEdge t fl tdc) s =
      .next (routeInternal (0x10 + fl) (16 * bit01 f.fly) tau (setFl b fl { f with lastEdge := some tau }))) ∧
  (∀ t fl e s, let b := advance t s; let f := flGet b fl
    fl < 16 → flSource f = 0 → f.started = true → f.fly = true → f.lastEdge = some e → f.line + 1 < flLines f →
    e + linePeriod f ≤ activeNow b → let tau := e + linePeriod f
    exec (.flFlywheelTimeout t fl) s = .next (routeInternal (0x10 + fl) 16 tau (setFl b fl (startLine tau true f))))

/-- The events of fall lines. What waits for the next frame comes into force once that frame has begun, and not before
(R467); an anchor that names a frame comes into force once that frame has begun (R47). A line with DISTRIBUTE set sends the
anchor of a frame once, on OA (R47). A received anchor is offered to the 16 fall lines. A RELAY line without an anchor for 4
frames goes on its flywheel (R47). A residual that has run out is zero (R33). -/
def Obligations.FallLineEvents : Prop :=
  (∀ t fl s, let b := advance t s
    fl < 16 → (flGet b fl).pending ≠ [] → (flGet b fl).anchorNext = none →
    (flDue b fl = true →
      exec (.flChangeApply t fl) s = .next (endLongs (fun _ l => l == .flSet fl) .ok [] (applyFl fl (flGet b fl).pending b))) ∧
    (flDue b fl = false → exec (.flChangeApply t fl) s = .next b)) ∧
  (∀ t fl k recs j s, let b := advance t s; let f := flGet b fl
    fl < 16 → f.pending = [] → f.anchorNext = some (k, recs) → flFrame b fl = some j →
    exec (.flChangeApply t fl) s = .next (if Int.ofNat k ≤ j then
      rekey fl (setFl b fl { f with f := fapply f.f recs, anchorNext := none }) else b)) ∧
  (∀ t fl dk dst i s, let b := advance t s; let f := flGet b fl
    fl < 16 → inService b = true → flist f.f 0x290C = [0, dk, dst] → flNow b fl = some i → f.sentFrame = none →
    let n := (idxPos f i).frame; let u := setFl b fl { f with sentFrame := some n }
    exec (.flAnchorTx t fl) s = .next (queueTime .oa 4 dk dst (anchorPayload u fl n) u)) ∧
  (∀ t port a s, let b := advance t s
    inService b = true → timeTagOk (portGet b port) a.tagOk = true →
    exec (.flAnchorRx t port a) s = .next ((List.range 16).foldl (fun u n => takeAnchor n a u) b)) ∧
  (∀ t fl s, let b := advance t s; let f := flGet b fl
    fl < 16 → flSource f = 2 → 4 * flPeriodNum f ≤ (b.keel.frc - f.lastAnchor) * flDen f →
    exec (.relayAnchorTimeout t fl) s = .next (flyOn fl b)) ∧
  (∀ t s, let b := advance t s
    residualAt b.keel b.keel.frc = 0 → exec (.residualSlewDone t) s = .next { b with keel := { b.keel with residual := 0 } })

/-- The frames of the time exchange (R41, R42). The leader's SYNC takes the next TSEQ and carries the last step and RATE_ADJ. A
follower in LOCKED takes a SYNC of its EPOCH, with its rate hint, and starts an exchange on it; a FOLLOW_UP that belongs to
the SYNC before gives the exchange its t1, or makes the step of a first SYNC or of a new epoch (R37). A DELAY_REQ is answered
with t4. A DELAY_RSP whose exchange is whole and in time ends it and gives theta to the servo and to the lock criterion (for
TB; TA also steers TB). HOLDOVER_SYNCS intervals without a SYNC put a LOCKED domain into HOLDOVER. -/
def Obligations.TimeExchange : Prop :=
  (∀ t port d s, let b := advance t s; let v := portGet b port; let sv := servoOf b d
    inService b = true → leadsOn v d = true → tget v.syncAt (domNum d) = none →
    exec (.syncTx t port d) s = .next (queueTime port 2 2 0
      (timeHead 1 d (domSet b.keel d) ((sv.tseq + 1) % 65536) ++ timeBytes 0 ++ timeBytes sv.lastStep ++ leInt 4 (domSet b.keel d).rateAdj)
      (setPort (setServo d { sv with tseq := (sv.tseq + 1) % 65536 } b) port
        { v with syncAt := tput v.syncAt (domNum d) b.keel.frc }))) ∧
  (∀ t port f s, let b := advance t s
    inService b = true → timeTagOk (portGet b port) f.tagOk = true → follows b port f.domain = true →
    (domSet b.keel f.domain).st = .locked → (domSet b.keel f.domain).epoch = f.epoch →
    (∀ n, n < 8 → (tgetD b.tu.caps n {}).sources = []) →
    let u := setServo f.domain { servoOf b f.domain with
      lastSync := b.keel.frc, freqEst := f.rateHint
      twoStep := if f.twoStep = true then
        some { leader := f.src, epoch := f.epoch, tseq := f.tseq, t2 := ingress b port f.domain f.stampNs f.stampTdc, step := f.step }
        else none } b
    exec (.syncRx t port f) s = .next (startExchange port f (ingress b port f.domain f.stampNs f.stampTdc) u)) ∧
  (∀ t port f x s, let b := advance t s; let sv := servoOf b f.domain
    inService b = true → timeTagOk (portGet b port) f.tagOk = true → follows b port f.domain = true → sv.twoStep = some x →
    x.leader = f.src → x.tseq = f.tseq → x.epoch = f.epoch →
    let exch := sv.exch.map (fun e => if e.tseq == f.tseq then { e with t1 := some f.origin } else e)
    let u := setServo f.domain { sv with twoStep := none, exch := exch } b
    ((domSet b.keel f.domain).st ≠ .free → (domSet b.keel f.domain).epoch = f.epoch →
      exec (.followUpRx t port f) s = .next u) ∧
    ((domSet b.keel f.domain).st ≠ .free → (domSet b.keel f.domain).epoch ≠ f.epoch →
      exec (.followUpRx t port f) s = .next (followStep f.domain f.epoch x.step (f.origin - x.t2) u)) ∧
    ((domSet b.keel f.domain).st = .free →
      exec (.followUpRx t port f) s = .next (firstStep f.domain f.epoch (f.origin - x.t2) u))) ∧
  (∀ t port f s, let b := advance t s
    inService b = true → timeTagOk (portGet b port) f.tagOk = true → leadsOn (portGet b port) f.domain = true →
    exec (.delayReqRx t port f) s = .next (queueTime port 3 0 f.src (timeHead 4 f.domain (domSet b.keel f.domain) f.tseq ++
      timeBytes (ingress b port f.domain f.stampNs f.stampTdc) ++ leBytes 2 f.src) b)) ∧
  (∀ t port f node x t1 t3 s, let b := advance t s; let sv := servoOf b f.domain
    inService b = true → timeTagOk (portGet b port) f.tagOk = true → follows b port f.domain = true → sv.exch = some x →
    x.leader = f.src → node = nodeOf port (portGet b port) → x.t1 = some t1 → x.t3 = some t3 → x.tseq = f.tseq →
    x.epoch = f.epoch → f.capable = true → b.keel.frc ≤ x.sentAt + syncNs sv → f.domain = .tb → fnat sv.f 0x2301 0 = 0 →
    let u := setServo .tb { sv with exch := none } b
    let theta := Int.fdiv (x.t2 - t1 - (f.origin - t3) - psTicks (termsOf u port).2.2) 2
    exec (.delayRspRx t port f node) s = .next (autoFollow (judgeLock .tb theta (servoLoop .tb theta u)))) ∧
  (∀ t d s, let b := advance t s; let sv := servoOf b d
    (domSet b.keel d).st = .locked → sv.lastSync + fnat sv.f 0x2308 3 * syncNs sv ≤ b.keel.frc →
    exec (.syncMissHoldover t d) s = .next (setDomSt d .holdover (setServo d { sv with lockRun := 0, exch := none } b)))

/-- The servo loop of 02 "Servo" (R37): beyond 1 µs a local step that leaves the EPOCH, else the rate of the proportional
and integral terms, held within 500 ppm of the leader's. -/
def Obligations.ServoLoop : Prop :=
  ∀ d theta s, let sv := servoOf s d
    (-microTicks ≤ theta → theta ≤ microTicks →
      let ratio := Int.fdiv (theta * 2 ^ 24) (Int.ofNat (syncNs sv))
      let integ := sv.integ + sar ratio (fnat sv.f 0x2305 6)
      (domSet (servoLoop d theta s).keel d).rateAdj =
        clipRate (max (sv.freqEst - ppm500) (min (sv.freqEst - integ - sar ratio (fnat sv.f 0x2304 2)) (sv.freqEst + ppm500))) ∧
      (servoOf (servoLoop d theta s) d).integ = integ ∧ domNow (servoLoop d theta s) d = domNow s d) ∧
    (microTicks < theta ∨ theta < -microTicks →
      ∃ u, servoLoop d theta s = setServo d { servoOf u d with integ := 0 } u ∧
        u = stepDom d (-theta) none (domSet s.keel d).epoch s)

/-! ### QUEUE and STREAM -/

/-- QUEUE.CREATE, SET, QUERY, DESTROY, ACK and QUOTA.SET (R60, R61, R69, R83, R86). -/
def Obligations.QueueCommands : Prop :=
  (∀ h q d n s, Served (.queueCreate h q d) s → let b := started (.queueCreate h q d) s
    (∀ k, q = some k → k < 32768) → qConfigOk d = true → qFn d = h.fn → fnExists b h.fn = true → newQueue b q = .ok n →
    minSum b.qm h.fn none + qMin d ≤ quotaOf b.qm h.fn →
    exec (.queueCreate h q d) s = answeredOk h [Int.ofNat n] (regrant n (qSet b n { w := d }))) ∧
  (∀ h n mask d x s, Served (.queueSet h n mask d) s → let b := started (.queueSet h n mask d) s; let w := mergeWords mask x.w d
    n < 32768 → mask < 128 → qGet b n = some x → qFn x.w = h.fn → x.stopped = false → qConfigOk w = true → qFn w = h.fn →
    qMin w ≤ qMin x.w ∨ minSum b.qm h.fn (some n) + qMin w ≤ quotaOf b.qm h.fn → qProducer w = qProducer x.w → qConsumer w = qConsumer x.w →
    qReservedOk (mergeWords mask zeroWords d) = true →
    exec (.queueSet h n mask d) s = answeredOk h [] (regrant n (dieOnly n (qSet b n { x with w := w })))) ∧
  (∀ h n x s, Served (.queueQuery h n) s → let b := started (.queueQuery h n) s
    n < 32768 → qGet b n = some x → qFn x.w = h.fn →
    exec (.queueQuery h n) s = answeredOk h (([x.w.config, x.w.endpoints, x.w.minCells, x.w.maxCells, x.w.grant, x.w.wmHigh,
        x.w.wmLow].map (fun w => Int.ofNat w.toNat)) ++
      [headIndex x, tailIndex x, qDepth x, qVisible x, x.credit, statusWord x, x.wmHighN, x.wmLowN, x.loss, x.seq].map Int.ofNat) b) ∧
  (∀ h n x s, Served (.queueDestroy h n true) s → let b := started (.queueDestroy h n true) s
    n < 32768 → qGet b n = some x → qFn x.w = h.fn → x.stopped = false → qNamed b n = false →
    exec (.queueDestroy h n true) s = answeredOk h [Int.ofNat (x.cancelled + acceptedPkts x)] (freeQueue n b)) ∧
  (∀ h n x s, Served (.queueAck h n 0xFF) s → let b := started (.queueAck h n 0xFF) s
    n < 32768 → qGet b n = some x → qFn x.w = h.fn → x.stopped = false →
    ((∀ i, flagFresh x b.keel.frc i = false) → exec (.queueAck h n 0xFF) s = answeredOk h [Int.ofNat (statusWord x)]
      (qSet b n { x with status := 0, wmHighN := 0, wmLowN := 0 })) ∧
    (∀ i, i < 8 → bitOf x.status i = true → flagFresh x b.keel.frc i = true → ∃ t y,
      exec (.queueAck h n 0xFF) s = answeredOk h [Int.ofNat (statusWord x)] t ∧ qGet t n = some y ∧ bitOf y.status i = true ∧
      (i = 3 → y.wmHighN = 1) ∧ (i = 4 → y.wmLowN = 1))) ∧
  (∀ h fn cells s, Served (.queueQuotaSet h fn cells) s → let b := started (.queueQuotaSet h fn cells) s
    fn < 64 → cells < 2 ^ 32 → fnExists b fn = true → minSum b.qm fn none ≤ cells → b.qm.waiters = [] →
    exec (.queueQuotaSet h fn cells) s = answeredOk h [] { b with qm := { b.qm with quotas := tput b.qm.quotas fn cells } })

/-- QUEUE.STATS.READ, HIST.SET, HIST.READ and RING.SET (R84, R85, R470). -/
def Obligations.QueueReads : Prop :=
  (∀ h n x s, Served (.queueStatsRead h n true) s → let b := started (.queueStatsRead h n true) s
    n < 32768 → qGet b n = some x → qFn x.w = h.fn →
    exec (.queueStatsRead h n true) s = answeredOk h
      ([qDepth x, max x.peakDepth (qDepth x), qAge x b.keel.frc, max x.peakAge (qAge x b.keel.frc), x.overrunCells, x.rewound,
        x.aborted, x.droppedCells, x.consumerDrops, x.orphans, x.secondDiscards, x.loss - x.lossBase].map Int.ofNat)
      (qSet b n { x with peakDepth := qDepth x, peakAge := 0, overrunCells := 0, rewound := 0, aborted := 0, droppedCells := 0,
                         consumerDrops := 0, orphans := 0, secondDiscards := 0, lossBase := x.loss })) ∧
  (∀ h n metric edges x k s, Served (.queueHistSet h n metric edges) s → let b := started (.queueHistSet h n metric edges) s
    n < 32768 → metric < 2 → edges.length = 7 → ascending edges = true → (∀ e, e ∈ edges → e < 2 ^ 32) →
    qGet b n = some x → qFn x.w = h.fn → x.stopped = false → qHistOk x.w = true → x.histSlot = none → tfree b.qm.hists 0 1024 = some k →
    let u := qSet b n { x with histSlot := some k }
    let r : Hist := { queue := n, age := metric == 1, edges := edges, bins := List.replicate 8 0 }
    exec (.queueHistSet h n metric edges) s =
      answeredOk h [Int.ofNat k] { u with qm := { u.qm with hists := tput b.qm.hists k r } }) ∧
  (∀ h n x k r s, Served (.queueHistRead h n true) s → let b := started (.queueHistRead h n true) s
    n < 32768 → qGet b n = some x → qFn x.w = h.fn → x.stopped = false → x.histSlot = some k → tget b.qm.hists k = some r →
    exec (.queueHistRead h n true) s = answeredOk h (r.bins.map Int.ofNat)
      { b with qm := { b.qm with hists := tput b.qm.hists k { r with bins := List.replicate 8 0 } } }) ∧
  (∀ h a x s, Served (.queueRingSet h a) s → let b := started (.queueRingSet h a) s
    a.side = 0 → a.queue < 32768 → a.addr ≠ 0 → ringArgsOk h.fn a = true → qGet b a.queue = some x → qFn x.w = h.fn →
    qProducer x.w = 1 → x.stopped = false → x.sub = none → doorbellBound b h.fn a.doorbell = false →
    let r : DRing := { doorbell := a.doorbell, log2 := a.log2, vector := a.vector, gather := a.gather == 1, batch := a.batch == 1,
                       addr := a.addr }
    exec (.queueRingSet h a) s = answeredOk h [] (qSet b a.queue { x with sub := some r }))

/-- STREAM.CREATE of a decode stream with its job queue's numbering, STREAM.SET, DESTROY, STATS.READ, RECOVER and CONCEAL
(R89, R126, R154, R158, R173). -/
def Obligations.StreamCommands : Prop :=
  (∀ h recs n s, Served (.streamCreate h recs) s → let b := started (.streamCreate h recs) s
    let specs := createFields ++ dispatchFields ++ decFields; let f := fapply [] recs; let jq := fnat f 0x4302 0
    recNum recs 1 = some 1 → recsOk specs recs = .ok () → recsHave specs recs = .ok () → decCodecOk f = true →
    decFieldsOk f = true → flSource (flGet b (fnat f 0x4301 0)) ≠ 3 → b.eng = .piste → decQueues b h.fn f = .ok () →
    newStream b recs = .ok n → let next := ((qGet b jq).map Queue.seq).getD 0
    exec (.streamCreate h recs) s = answeredOk h [Int.ofNat n, Int.ofNat jq]
      (stSet b n { owner := h.fn, kind := .decode, f := f, rate := 2000000000, jobSeq := next, linkNext := next })) ∧
  (∀ h n off x s, let c : Instr := .streamSet h n false [⟨0x4304, .num off⟩]
    Served c s → let b := started c s
    n < 4096 → stGet b n = some x → x.owner = h.fn → x.kind = .decode → x.stopped = false → -(2 ^ 47) ≤ off → off < 2 ^ 47 →
    decFieldsOk (fapply (fapply x.f (x.staged.map (fun e => ⟨e.1, e.2⟩))) [⟨0x4304, .num off⟩]) = true →
    exec c s = answeredOk h [] (stSet b n { x with f := fapply x.f [⟨0x4304, .num off⟩] })) ∧
  (∀ h n x s, Served (.streamDestroy h n false) s → let b := started (.streamDestroy h n false) s
    n < 4096 → stGet b n = some x → x.owner = h.fn → x.kind = .encode → x.jobs = [] →
    let keepUnit (u : HUnit) : Bool := match u.band with | some (m, _) => m != n | none => true
    (b.arr.streams.any (fun e => e.2.kind == .encode && fnat e.2.f 0x5308 0 == 1 && fopt e.2.f 0x530C == some n)) = false →
    let u := (cancelJobs n b).1; let streams := tdel u.arr.streams n; let units := u.sched.units.filter keepUnit
    let cores := tmap u.arr.cores (fun _ c => { c with ctx := c.ctx.filter (· != n) })
    exec (.streamDestroy h n false) s = answeredOk h [Int.ofNat x.cancelled]
      { u with arr := { u.arr with streams := streams, cores := cores }, sched := { u.sched with units := units } }) ∧
  (∀ h n x s, Served (.streamStatsRead h n true) s → let b := started (.streamStatsRead h n true) s
    n < 4096 → stGet b n = some x → x.owner = h.fn → x.kind = .encode →
    exec (.streamStatsRead h n true) s = answeredOk h ((streamCounters b x).map Int.ofNat) (stSet b n { x with ctr := [] })) ∧
  (∀ h n pic l k x s, Served (.streamRecover h n pic l k) s → let b := started (.streamRecover h n pic l k) s
    n < 4096 → stGet b n = some x → x.owner = h.fn → x.kind = .encode → x.stopped = false →
    exec (.streamRecover h n pic l k) s = answeredOk h [] (recoverEncode n pic b)) ∧
  (∀ h n verdict id x a s, Served (.streamConceal h n verdict id) s → let b := started (.streamConceal h n verdict id) s
    n < 4096 → verdict < 4 → stGet b n = some x → x.owner = h.fn → x.kind = .decode → x.stopped = false →
    x.dec.areas.find? (fun a => a.id == id && a.waiting) = some a → (∀ p, a.deadline = some p → reached b a.fl p 0 = false) →
    let areas := x.dec.areas.map (fun c => if c.id == id then { c with waiting := false, mode := verdict } else c)
    exec (.streamConceal h n verdict id) s = answeredOk h [] (takeArea (stSet b n { x with dec := { x.dec with areas := areas } })))

/-! ### ASSET -/

/-- ASSET.VOLUME.OPEN and CLOSE, CONTAINER.OPEN and CLOSE (R184, R186, R187). -/
def Obligations.AssetObjects : Prop :=
  (∀ h slot nsid first count ns k s, let c : Instr := .assetVolumeOpen h 1 slot nsid first count ns
    Served c s → let b := started c s; let n := b.asset.nextVol
    slot < 128 → stServes b .s1 = true → keysAllowed b = .ok () → tget b.keel.vault.slots slot = some k → k.owner = h.fn → k.kind = 2 →
    ns.present = true → ns.meta_ = false → ns.prot = false → ns.lbaSize = 512 ∨ ns.lbaSize = 4096 → first + count ≤ ns.lbas →
    b.asset.volumes.countP (fun e => e.2.port == .s1) < 4 →
    let v : Volume := { owner := h.fn, port := .s1, slot := slot, nsid := nsid, scratchFirst := first, scratchCount := count, lba := ns.lbaSize }
    exec c s = answeredOk h [Int.ofNat n] { b with asset := { b.asset with volumes := tput b.asset.volumes n v, nextVol := n + 1 } }) ∧
  (∀ h n v s, Served (.assetVolumeClose h n true) s → let b := started (.assetVolumeClose h n true) s
    n < 65536 → tget b.asset.volumes n = some v → v.owner = h.fn →
    let u := closeContainers ((b.asset.containers.filter (fun e => e.2.volume == n)).map (fun e => e.1)) b
    exec (.assetVolumeClose h n true) s = answeredOk h [] { u with asset := { u.asset with volumes := tdel u.asset.volumes n } }) ∧
  (∀ h volume offset f v s, let c : Instr := .assetContainerOpen h volume offset f
    Served c s → let b := started c s; let n := b.asset.nextCont
    volume < 65536 → tget b.asset.volumes volume = some v → v.owner = h.fn → offset % 4096 = 0 → stServes b v.port = true →
    keysAllowed b = .ok () → b.asset.containers.length < 256 → hacMagicOk f = true → hacPolicy f < 32 →
    (bitOf (hacPolicy f) 3 && v.port == .s1) = false → f.blobOk = true → expired b (bitOf (hacPolicy f) 4) f.expiry = false →
    f.headerTagOk = true → f.tableTagOk = true → hacShapeOk f = true → tableOk (hacBytes f) (hacTable f) = true →
    let k : Container := { owner := h.fn, volume := volume, offset := offset, policy := hacPolicy f, id := hacId f,
                           expires := bitOf (hacPolicy f) 4, expiry := f.expiry, table := hacTable f }
    let vault := { b.keel.vault with content := tput b.keel.vault.content n (Config.sealedVal [4, hacId f]) }
    exec c s = answeredOk h [Int.ofNat n, Int.ofNat (hacCount f), Int.ofNat (hacPolicy f), Int.ofNat (hacId f)]
      { b with asset := { b.asset with containers := tput b.asset.containers n k, nextCont := n + 1 }, keel := { b.keel with vault := vault } }) ∧
  (∀ h n k s, Served (.assetContainerClose h n true) s → let b := started (.assetContainerClose h n true) s
    n < 65536 → tget b.asset.containers n = some k → k.owner = h.fn →
    exec (.assetContainerClose h n true) s = answeredOk h [] (closeContainers [n] b))

/-- ASSET.READ is accepted with a first response and stays outstanding (R188); ASSET.INSTALL (R200); ASSET.STATS.READ. -/
def Obligations.AssetData : Prop :=
  (∀ h a k v s, Served (.assetRead h a) s → let b := started (.assetRead h a) s; let n := b.asset.nextReq
    a.container < 65536 → tget b.asset.containers a.container = some k → k.owner = h.fn → tget b.asset.volumes k.volume = some v →
    readFieldsOk a = true → readArgsOk a k.table = true → stServes b v.port = true → a.hostDecomp = false → a.texHost = false → a.session = false →
    bitOf k.policy 2 = false → b.asset.reqs.countP (fun e => e.2.h.fn == h.fn) < 256 → b.asset.reqs.length < 1024 →
    let u := { b with asset := { b.asset with reqs := tput b.asset.reqs n { h := h, a := a, hac := k, port := v.port, order := n }, nextReq := n + 1 } }
    exec (.assetRead h a) s = .next (outstanding h (.assetRead n) (respond h.fn h.warden
      { tag := h.tag, status := .ok, more := true, noInt := h.noInt, op := 0x0505
        result := [1, 0, 0, 0, 0, 2 ^ 32 - 1, Int.ofNat a.userTag] } (oneSlotLeft h u)))) ∧
  (∀ h src dst off lba f crc a d s, let c : Instr := .assetInstall h src dst off lba f true crc
    Served c s → let b := started c s
    src < 65536 → dst < 65536 → tget b.asset.volumes src = some a → tget b.asset.volumes dst = some d → a.owner = h.fn → d.owner = h.fn →
    a.port = .s0 → d.port = .s1 → off % 4096 = 0 → stServes b .s0 = true → stServes b .s1 = true → keysAllowed b = .ok () →
    hacCheck b .s0 f = none → bitOf (hacPolicy f) 3 = false → d.scratchFirst ≤ lba →
    lba + (hacBytes f + d.lba - 1) / max 1 d.lba ≤ d.scratchFirst + d.scratchCount →
    exec c s = answeredOk h [Int.ofNat (hacBytes f)] b) ∧
  (∀ h s, Served (.assetStatsRead h 0 true) s → let b := started (.assetStatsRead h 0 true) s
    exec (.assetStatsRead h 0 true) s = answeredOk h (twelve b.asset.s0.ctr ++ [Int.ofNat b.asset.staging, Int.ofNat b.asset.stagingPeak])
      { b with asset := { b.asset with s0 := { b.asset.s0 with ctr := [] } } })

/-- The checks of ASSET.CONTAINER.OPEN in the order of R186: the header's magic, its policy, its key blob and expiry, its
tag, the table's tag, and the table itself; the failed ones that raise CONTAINER_BAD (0x283) are told apart. -/
def Obligations.ContainerChecks : Prop :=
  ∀ s p f,
    (hacMagicOk f = false → hacCheck s p f = some (.integrity, true)) ∧
    (hacMagicOk f = true → 32 ≤ hacPolicy f ∨ bitOf (hacPolicy f) 3 = true ∧ p = .s1 → hacCheck s p f = some (.noPerm, false)) ∧
    (hacMagicOk f = true → hacPolicy f < 32 → (bitOf (hacPolicy f) 3 = true → p = .s0) →
      (f.blobOk = false ∨ expired s (bitOf (hacPolicy f) 4) f.expiry = true → hacCheck s p f = some (.auth, false)) ∧
      (f.blobOk = true → expired s (bitOf (hacPolicy f) 4) f.expiry = false → f.headerTagOk = false ∨ f.tableTagOk = false →
        hacCheck s p f = some (.auth, true)) ∧
      (f.blobOk = true → expired s (bitOf (hacPolicy f) 4) f.expiry = false → f.headerTagOk = true → f.tableTagOk = true →
        hacCheck s p f = (if hacShapeOk f && tableOk (hacBytes f) (hacTable f) then none else some (.integrity, true))))

/-! ### BUS: the commands -/

/-- The BUS commands of a port: PORT.SET of a running port's other fields, PORT.QUERY, RECOVER, WAKE, STATS.READ and
PORT.STATS.CLEAR (R222, R225, R270, R285, R292). -/
def Obligations.BusPortCommands : Prop :=
  (∀ h n p mask s, let c : Instr := .busPortSet h n [⟨0xAC02, .num mask⟩]
    Served c s → let b := started c s; let v := portGet b p
    portOf n = some p → inRange (.int 0 (2 ^ 64 - 1) 1) (.num mask) = true → let f := tput v.f 0xAC02 (.num mask)
    timingOk b f = true → nodeOk p f = true → (slotOf p f == 1 && slotOf (otherPort p) (portGet b (otherPort p)).f == 1) = false →
    portFits b { v with f := f } (boundLists v) = true →
    exec c s = answeredOk h [] (setPort b p { v with f := f })) ∧
  (∀ h s, Served (.busPortQuery h 0) s → let b := started (.busPortQuery h 0) s; let v := b.bus.oa
    exec (.busPortQuery h 0) s = answeredOk h
      ([v.tec, v.rec_, confCode v.conf, fnat v.f 0x0010 0, v.k, v.rcv.counted, v.rcv.need, bit01 b.keel.wakeA].map Int.ofNat ++
        (List.range 8).map (fun n => Int.ofNat (tuckNs b v n)) ++ [(termsOf b .oa).1, (termsOf b .oa).2.1, (termsOf b .oa).2.2,
        Int.ofNat (Config.testTxPath .oa % 65536), Int.ofNat (Config.testRxPath .oa % 65536)])
      { b with keel := { b.keel with wakeA := false } }) ∧
  (∀ h n p s, Served (.busPortRecover h n) s → let b := started (.busPortRecover h n) s
    portOf n = some p → (portGet b p).conf = .busOff → let u := outstanding h (.portRecover p) b
    exec (.busPortRecover h n) s = .next (setPort u p { portGet u p with rcv := { counting := true, need := 64, byCmd := true } })) ∧
  (∀ h n p s, Served (.busWake h n) s → let b := started (.busWake h n) s
    portOf n = some p → portLive b (portGet b p) = true →
    exec (.busWake h n) s = answeredOk h [] (setPort b p { portGet b p with wakeReq := true })) ∧
  (∀ h n p s, Served (.busStatsRead h n true) s → let b := started (.busStatsRead h n true) s
    portOf n = some p →
    exec (.busStatsRead h n true) s = answeredOk h ((List.range 52).map (fun i => Int.ofNat (tgetD (portGet b p).ctr i 0)))
      (setPort b p { portGet b p with ctr := [] })) ∧
  (∀ h n p s, Served (.busPortStatsClear h n) s → let b := started (.busPortStatsClear h n) s
    portOf n = some p → exec (.busPortStatsClear h n) s = answeredOk h [] (setPort b p { portGet b p with ctr := [] }))

/-- The commands of flows: a new TX flow opens, a SET of an RX flow, RESUME, DESTROY and STATS (R249, R250, R255-R257). -/
def Obligations.BusFlowCommands : Prop :=
  (∀ h recs p q s, Served (.busFlowCreate h recs) s → let b := started (.busFlowCreate h recs) s
    let f := fapply [] recs; let n := fnat f 0xA902 0; let fl : Flow := { owner := h.fn, f := f, refreshAt := b.keel.frc }
    recsOk flowFields recs = .ok () → recsHave flowFields recs = .ok () → portOf (fnat f 0xA901 0) = some p → n ≠ 32767 →
    queueFor b h.fn (fnat f 0xA903 0) = .ok q → qConsumer q.w = 6 + portNum p → qProducer q.w ≠ 6 + portNum p →
    (rxOnly.any (fun i => names recs i)) = false → flowRules true f = .ok () → thas (portGet b p).tx n = false →
    thas (portGet b p).rx n = false → (portGet b p).tx.length + (portGet b p).rx.length < 8192 →
    sideFree b (fnat f 0xA903 0) true = .ok () → flowFits b (portGet b p) fl = true →
    exec (.busFlowCreate h recs) s = answeredOk h []
      (openFlow p n (setPort b p { portGet b p with tx := tput (portGet b p).tx n fl }))) ∧
  (∀ h n flow recs p f s, Served (.busFlowSet h n flow recs) s → let b := started (.busFlowSet h n flow recs) s
    let v := portGet b p; let g := fapply (f.staged.foldl (fun g e => tput g e.1 e.2) f.f) recs
    portOf n = some p → 1 ≤ flow → flow ≤ 32767 → thas v.tx flow = false → tget v.tx flow = none → tget v.rx flow = some f →
    f.owner = h.fn → f.stopped = false → recsOk flowSetFields recs = .ok () → recsFree flowSetFields recs = .ok () →
    (txOnly.any (fun i => names recs i)) = false → flowRules false g = .ok () →
    exec (.busFlowSet h n flow recs) s = answeredOk h []
      (sweepFlow p flow (setPort b p { v with rx := tput v.rx flow { f with f := g } }))) ∧
  (∀ h n flow p f s, Served (.busFlowResume h n true flow) s → let b := started (.busFlowResume h n true flow) s
    portOf n = some p → 1 ≤ flow → flow ≤ 32767 → flowGet (portGet b p) flow = some f → f.owner = h.fn → f.stopped = false →
    f.stalled.isSome = true → let u := wakeFlow p flow false (dropFlowHead p flow b)
    exec (.busFlowResume h n true flow) s = answeredOk h [] (if f.agedResume then openFlow p flow u else u)) ∧
  (∀ h n flow p f x s, Served (.busFlowDestroy h n true flow) s → let b := started (.busFlowDestroy h n true flow) s
    portOf n = some p → 1 ≤ flow → flow ≤ 32767 → flowGet (portGet b p) flow = some f → f.owner = h.fn →
    queueShared b p flow (flowQueue f) = false → qGet b (flowQueue f) = some x → x.stopped = false →
    let v := portGet b p
    exec (.busFlowDestroy h n true flow) s = answeredOk h [Int.ofNat (f.cancelled + x.cancelled + acceptedPkts x)]
      (freeQueue (flowQueue f) (setPort b p { v with tx := tdel v.tx flow, rx := tdel v.rx flow }))) ∧
  (∀ h n flow p f s, Served (.busFlowStats h n false flow) s → let b := started (.busFlowStats h n false flow) s
    portOf n = some p → 1 ≤ flow → flow ≤ 32767 → flowGet (portGet b p) flow = some f → f.owner = h.fn →
    exec (.busFlowStats h n false flow) s = answeredOk h ((List.range 8).map (fun i => Int.ofNat (tgetD f.ctr i 0))) b)

/-- Message buffers: a first SET of an RX buffer takes one on-die cell, SEND loads the frame and stays outstanding, READ
empties the buffer, RELEASE returns the cell (R260). -/
def Obligations.BusMessageBuffers : Prop :=
  (∀ h n mb p q s, let c : Instr := .busMbSet h n mb [⟨0x0011, .num 1⟩]
    Served c s → let b := started c s; let v := portGet b p
    portOf n = some p → mb < 64 → tget v.mbs mb = none → mbTake h.fn (mbNum p mb) b.qm = some q →
    exec c s = answeredOk h [] (setPort { b with qm := q } p { v with mbs := tput v.mbs mb { owner := h.fn, tx := false } })) ∧
  (∀ h n mb len pay p m s, Served (.busMbSend h n mb len pay) s → let b := started (.busMbSend h n mb len pay) s
    let v := portGet b p; let u := outstanding h (.mbSend p mb) b
    portOf n = some p → len ≤ 64 → pay.length = len → mb < 64 → tget v.mbs mb = some m → m.owner = h.fn → m.tx = true →
    m.pend = none → m.flow = 0 → ((boundLists v).all (fitsList b v m.cls (framePs b v false len m.auth))) = true →
    let head : HeadFrame := { seq := v.flow0, first := true, last := true, len := len }
    let m2 : MsgBuf := { m with full := true, payload := pay, pend := some h, holdoff := none, lastNak := 0, head := some head }
    exec (.busMbSend h n mb len pay) s = .next (setPort u p { v with mbs := tput v.mbs mb m2, flow0 := (v.flow0 + 1) % 65536,
                                                                     epochUsed0 := v.epochUsed0 + 1 })) ∧
  (∀ h n mb p m i s, Served (.busMbRead h n mb) s → let b := started (.busMbRead h n mb) s; let v := portGet b p
    portOf n = some p → mb < 64 → tget v.mbs mb = some m → m.owner = h.fn → m.tx = false → m.full = true → m.bus = some i →
    22 + m.payload.length ≤ 24 ∨ 22 + m.payload.length ≤ h.room →
    exec (.busMbRead h n mb) s = answeredOk h ([Int.ofNat i.src, Int.ofNat i.flow, Int.ofNat i.seq, Int.ofNat m.payload.length, i.stamp] ++
      m.payload.map (fun x => Int.ofNat x.toNat)) (setPort b p { v with mbs := tput v.mbs mb { m with full := false, payload := [], bus := none } })) ∧
  (∀ h n mb p m s, Served (.busMbRelease h n mb) s → let b := started (.busMbRelease h n mb) s; let v := portGet b p
    portOf n = some p → mb < 64 → tget v.mbs mb = some m → m.owner = h.fn → m.pend = none →
    exec (.busMbRelease h n mb) s = answeredOk h [] (setPort { b with qm := mbReturn h.fn [mbNum p mb] b.qm } p { v with mbs := tdel v.mbs mb }))

/-- Filters, inspection, the bridge, anchors and global operations (R263, R298, R300, R304, R311, R315, R318). -/
def Obligations.BusTreeCommands : Prop :=
  (∀ h n entry x p s, let c : Instr := .busFilterSet h n entry [⟨0xAB01, .num 0⟩]
    Served c s → let b := started c s; let v := portGet b p
    portOf n = some p → 16 ≤ entry → entry < 1024 → tget v.filters entry = some x → x.owner = h.fn →
    exec c s = answeredOk h [] (setPort b p { v with filters := tdel v.filters entry })) ∧
  (∀ h n flow p i q x bi s, Served (.busInspectVerdict h n 2 flow) s → let b := started (.busInspectVerdict h n 2 flow) s
    portOf n = some p → flow ≤ 32767 → fopt (portGet b p).f 0xAC05 = some i → queueFor b h.fn i = .ok q → qHead q = some x →
    hasBad x = false → x.bus = some bi → exec (.busInspectVerdict h n 2 flow) s = answeredOk h [Int.ofNat x.seq] (dropRestOp i b)) ∧
  (∀ h s, let c : Instr := .busTraverseSet h [⟨0xC201, .num 0⟩]
    Served c s → let b := started c s; let u := { b with bus := { b.bus with trav := tput b.bus.trav 0xC201 (.num 0) } }
    exec c s = answeredOk h [] (settleTraverse u)) ∧
  (∀ h n partner p s, let recs : List Rec := [⟨0xC401, .num n⟩, ⟨0xC402, .num 2⟩, ⟨0xC403, .num partner⟩]
    let c : Instr := .busAnchorSet h recs
    Served c s → let b := started c s; let v := portGet b p
    recsOk anchorFields recs = .ok () → recsHave anchorFields recs = .ok () → portOf n.toNat = some p → anchorRole v = 0 → v.anchor.link = false →
    fopt (fapply v.anchor.f recs) 0xC403 = some partner.toNat →
    let a : Anchor := { f := fapply v.anchor.f recs, heardFrc := some b.keel.frc, primRun := v.anchor.primRun }
    exec c s = answeredOk h [] (settleTraverse (setPort b p { v with anchor := a }))) ∧
  (∀ h n p s, Served (.busAnchorQuery h n) s → let b := started (.busAnchorQuery h n) s
    let ms := (portGet b p).members.filter (fun e => within3ms b (some e.2.frc))
    portOf n = some p → 1 + 8 * ms.length ≤ h.room →
    exec (.busAnchorQuery h n) s = answeredOk h (Int.ofNat ms.length :: ms.flatMap (fun e =>
      [Int.ofNat e.1, Int.ofNat e.2.flags, Int.ofNat e.2.state, Int.ofNat e.2.follows, Int.ofNat ((b.keel.frc - e.2.frc) / 1000)])) b) ∧
  (∀ h n p s, Served (.busAnchorTakeover h n) s → let b := started (.busAnchorTakeover h n) s; let v := portGet b p
    portOf n = some p → anchorRole v = 2 → within3ms b (anchorHeard v false) = false → v.anchor.acting = false →
    exec (.busAnchorTakeover h n) s = answeredOk h [] (takeOver p b)) ∧
  (∀ h msg arg p s, Served (.busGlobalIssue h msg arg) s → let b := started (.busGlobalIssue h msg arg) s
    msg = 0x19 ∨ msg = 0x1D ∨ msg = 0x1E → arg < 2 ^ 64 → gopOpen b = true → rootPort b = some p → b.bus.ops.length < 16 →
    let o := rootOp b p msg arg false false
    exec (.busGlobalIssue h msg arg) s = answeredOk h [Int.ofNat o.opId, Int.ofNat o.execNs] (issueOp p msg arg false false b).2) ∧
  (∀ h id s, Served (.busBarrierArrive h id) s → let b := started (.busBarrierArrive h id) s
    id < 65536 → tget b.bus.barriers id = none →
    exec (.busBarrierArrive h id) s = .next (settleBarrier id (barrierPut id { arrived := true } (outstanding h (.barrier id) b))))

/-! ### SCHED and CHECK -/

/-- The host link's and the shapers' commands (R322-R326, R330). -/
def Obligations.SchedShapers : Prop :=
  (∀ h w s, let c : Instr := .schedHostSet h [⟨0xD101, .num w⟩]
    Served c s → let b := started c s
    recsOk hostFields [⟨0xD101, .num w⟩] = .ok () →
    exec c s = answeredOk h [] { b with sched := { b.sched with wDec := w.toNat } }) ∧
  (∀ h fn s, let c : Instr := .schedFnSet h fn true []
    Served c s → let b := started c s; let x := tgetD b.sched.fns fn {}
    fn < 64 → fnExists b fn = true → (∀ k, x.b = some k → k.rate ≠ 0) →
    let k := x.b.map (fun k => clearDebt (retune (refill k b.keel.frc) k.rate x.burst))
    exec c s = answeredOk h [] { b with sched := { b.sched with fns := tput b.sched.fns fn { x with b := k } } }) ∧
  (∀ h rate n s, let c : Instr := .schedShaperSet h none [⟨0xD202, .num rate⟩]
    Served c s → let b := started c s
    recsOk shaperFields [⟨0xD202, .num rate⟩] = .ok () → rateOk [⟨0xD202, .num rate⟩] 0xD202 = true → tfree b.sched.shapers 0 4096 = some n →
    let x : Shaper := { owner := h.fn, b := newBucket rate.toNat 16384 b.keel.frc, overhead := 16 }
    exec c s = answeredOk h [Int.ofNat n] { b with sched := { b.sched with shapers := tput b.sched.shapers n x } }) ∧
  (∀ h n port flow p x f s, let c : Instr := .schedShaperBind h (some n) port 0 flow
    Served c s → let b := started c s; let v := portGet b p
    n < 4096 → portOf port = some p → tget b.sched.shapers n = some x → x.owner = h.fn → x.port = none ∨ x.port = some p →
    tget v.tx flow = some f → f.owner = h.fn → f.stopped = false →
    let u := setPort b p { v with tx := tput v.tx flow { f with shaper := some n } }
    exec c s = answeredOk h [] { u with sched := { u.sched with shapers := tput u.sched.shapers n { x with port := some p } } }) ∧
  (∀ h n x s, Served (.schedShaperReset h n) s → let b := started (.schedShaperReset h n) s
    n < 4096 → tget b.sched.shapers n = some x → x.owner = h.fn → let k := refill x.b b.keel.frc
    exec (.schedShaperReset h n) s = answeredOk h [k.tokens]
      { b with sched := { b.sched with shapers := tput b.sched.shapers n { x with b := { k with tokens := max 0 k.tokens } } } }) ∧
  (∀ h n x s, Served (.schedShaperRelease h n) s → let b := started (.schedShaperRelease h n) s
    n < 4096 → tget b.sched.shapers n = some x → x.owner = h.fn → shaperBound b n = false →
    (b.arr.streams.any (fun e => e.2.kind == .encode && fopt e.2.f 0x6111 == some n)) = false →
    exec (.schedShaperRelease h n) s = answeredOk h [] { b with sched := { b.sched with shapers := tdel b.sched.shapers n } }) ∧
  (∀ h rate n s, let c : Instr := .schedPolicerSet h none [⟨0xD302, .num rate⟩]
    Served c s → let b := started c s
    recsOk policerFields [⟨0xD302, .num rate⟩] = .ok () → tfree b.sched.policers 0 2048 = some n →
    let x : Policer := { owner := h.fn, b := newBucket rate.toNat 32768 b.keel.frc }
    exec c s = answeredOk h [Int.ofNat n] { b with sched := { b.sched with policers := tput b.sched.policers n x } }) ∧
  (∀ h n x s, Served (.schedPolicerReset h n false) s → let b := started (.schedPolicerReset h n false) s
    n < 2048 → tget b.sched.policers n = some x → x.owner = h.fn → let k := refill x.b b.keel.frc
    let full := { x with b := { k with tokens := byteTokens k.burst } }
    exec (.schedPolicerReset h n false) s = answeredOk h [] { b with sched := { b.sched with policers := tput b.sched.policers n full } })

/-- The gate commands, the boundary of a gate list, the statistics and the latency records (R331-R333, R339). -/
def Obligations.SchedGates : Prop :=
  (∀ h n g p s, Served (.schedGateSet h n g) s → let b := started (.schedGateSet h n g) s; let v := portGet b p
    portOf n = some p → gateListOk b g = true → v.gates.pending = none → portFits b v [g] = true →
    (v.gates.running = false → exec (.schedGateSet h n g) s = answeredOk h [] (setPort b p { v with gates := { v.gates with cur := some g } })) ∧
    (v.gates.running = true → atCycleStart b v = false → exec (.schedGateSet h n g) s = .next (outstanding h (.gateSet p)
      (setPort b p { v with gates := { v.gates with pending := some g, pendCycle := cycleNow b v } })))) ∧
  (∀ h n g p i s, Served (.schedGateStart h n) s → let b := started (.schedGateStart h n) s; let v := portGet b p
    portOf n = some p → v.gates.cur = some g → g.base < 3 → v.gates.running = false → gateArmed b p = false → freeCmp b = some i →
    let u := { b with tu := { b.tu with cmps := tput b.tu.cmps i { gate := some p } } }
    exec (.schedGateStart h n) s = answeredOk h [Int.ofNat i]
      (setPort u p { v with gates := { v.gates with running := true, cmp := some i, fellBack := false } })) ∧
  (∀ h n p s, Served (.schedGateStop h n) s → let b := started (.schedGateStop h n) s; let v := portGet b p
    portOf n = some p → v.gates.running = true → v.gates.pendStop = false → v.gates.pending = none → atCycleStart b v = false →
    exec (.schedGateStop h n) s = .next (outstanding h (.gateStop p)
      (setPort b p { v with gates := { v.gates with pendStop := true, pendCycle := cycleNow b v } }))) ∧
  (∀ h n cls p s, Served (.schedGateClass h n cls none) s → let b := started (.schedGateClass h n cls none) s; let v := portGet b p
    let w := { v with gates := { v.gates with classes := tdel v.gates.classes cls } }
    portOf n = some p → 2 ≤ cls → cls < 63 → portFits b w (boundLists v) = true →
    exec (.schedGateClass h n cls none) s = answeredOk h [] (setPort b p w)) ∧
  (∀ t p g x c s, let b := advance t s; let v := portGet b p
    v.gates.cur = some g → v.gates.running = true → gatePoint b g = some (x, c) → v.gates.pendCycle < c →
    exec (.gateEntryBoundary t p) s = .next (stopList p (swapList p b))) ∧
  (∀ h s, Served (.schedStatsRead h false) s → let b := started (.schedStatsRead h false) s
    h.fn ≠ 0 → (∀ e, e ∈ b.sched.policers → e.2.owner ≠ h.fn) → 48 ≤ h.room →
    exec (.schedStatsRead h false) s = answeredOk h ((fnStats b h.fn).map Int.ofNat) b) ∧
  (∀ h q limit x s, Served (.schedLatencySet h q limit) s → let b := started (.schedLatencySet h q limit) s
    q < 32768 → limit < 2 ^ 32 → qGet b q = some x → qFn x.w = h.fn → x.stopped = false →
    qConsumer x.w = 2 ∨ qConsumer x.w = 6 ∨ qConsumer x.w = 7 →
    exec (.schedLatencySet h q limit) s = answeredOk h [] (qSet b q { x with lat := { x.lat with limit := limit, flag := false, excess := 0 } })) ∧
  (∀ h q x s, Served (.schedLatencyRead h q false false) s → let b := started (.schedLatencyRead h q false false) s; let l := x.lat
    q < 32768 → qGet b q = some x → qFn x.w = h.fn → x.stopped = false → qConsumer x.w = 2 ∨ qConsumer x.w = 6 ∨ qConsumer x.w = 7 →
    exec (.schedLatencyRead h q false false) s = answeredOk h
      [Int.ofNat l.pkts, Int.ofNat l.sum, Int.ofNat (l.min.getD 0), Int.ofNat l.max, l.slack.getD 0, Int.ofNat l.late, Int.ofNat l.excess]
      (qSet b q { x with lat := { l with min := none, max := 0, slack := none } }))

/-- A token bucket gains nothing more and nothing less for being brought up to date on the way (R323): the carried part
loses no gain, and BURST clips it. -/
def Obligations.BucketNoLoss : Prop :=
  ∀ (b : Bucket) x y, b.upd ≤ x → x ≤ y → refill (refill b x) y = refill b y ∧ (refill b x).tokens ≤ byteTokens b.burst ∧
    (b.tokens + Int.ofNat (((x - b.upd) * b.rate * 65536 + b.carry) / 8000000000) ≤ byteTokens b.burst →
      (refill b x).tokens * 8000000000 + Int.ofNat (refill b x).carry =
        b.tokens * 8000000000 + Int.ofNat b.carry + Int.ofNat ((x - b.upd) * b.rate * 65536))

/-- A policer (R325): a frame passes only when the count is at least its charge, which is then deducted; a frame in excess
deducts nothing, and a policer never goes into debt. -/
def Obligations.PolicerNeverInDebt : Prop :=
  ∀ n f s x, tget s.sched.policers n = some x →
    let b := refill x.b s.keel.frc; let charge := byteTokens (f.len + 16); let r := policeFrame n f s
    (r.1 = true ↔ charge ≤ b.tokens) ∧ ∃ y, tget r.2.sched.policers n = some y ∧
      y.b.tokens = (if r.1 = true then b.tokens - charge else b.tokens) ∧ (0 ≤ x.b.tokens → 0 ≤ y.b.tokens)

/-- The gate state (R332): the MASK of the last entry whose OFFSET is at most x, for entries in ascending order. -/
def Obligations.GateMask : Prop :=
  ∀ s g x l e r, g.entries = l ++ e :: r → entryOff s g e ≤ x → (∀ k, k ∈ r → x < entryOff s g k) → maskAt s g x = e.mask

/-- The commands of a check unit that the caller holds, and the queue feed (R348-R351). The event of a message that a parity error
ends (R346) has neither MATCH nor ABORTED, which is the reading of log 111. -/
def Obligations.CheckCommands : Prop :=
  (∀ h n u code s, let c : Instr := .checkSet h (some n) [⟨0xE402, .num code⟩]
    Served c s → let b := started c s; let f := unitFields u.f [⟨0xE402, .num code⟩]
    n < 8 → 1 ≤ code → code ≤ 8 → tget b.checks n = some u → u.owner = h.fn → fopt f 0xE40B = none →
    exec c s = answeredOk h [Int.ofNat n] { b with checks := tput b.checks n { u with f := f } }) ∧
  (∀ h n u addr data s, let c : Instr := .checkRun h n true true true 0 addr data true true
    Served c s → let b := started c s; let p := unitParams u.f; let v := crcFeed p 0 p.init data
    n < 8 → data.length ≤ 16777216 → tget b.checks n = some u → u.owner = h.fn → unitFeed u = none → unitStrip u.f = false →
    let ctx : CrcCtx := { value := v, held := [], bytes := data.length % 2 ^ 48, open_ := false }
    exec c s = answeredOk h [Int.ofNat (crcFinal p v), Int.ofNat (data.length % 2 ^ 48), 0]
      { b with checks := tput b.checks n { u with p := p, strip := false, ctx := ctx } }) ∧
  (∀ h n u s, Served (.checkStateRead h n) s → let b := started (.checkStateRead h n) s
    n < 8 → tget b.checks n = some u → u.owner = h.fn → unitFeed u = none →
    exec (.checkStateRead h n) s = answeredOk h [Int.ofNat u.ctx.value, Int.ofNat (leNat u.ctx.held), Int.ofNat u.ctx.bytes,
      Int.ofNat u.ctx.held.length, if u.ctx.open_ then 1 else 0] b) ∧
  (∀ h n u k s, Served (.checkStateWrite h n k) s → let b := started (.checkStateWrite h n k) s
    n < 8 → tget b.checks n = some u → u.owner = h.fn → unitFeed u = none → u.ctx.open_ = true → k.value < 2 ^ u.p.width →
    k.held.length ≤ valueBytes u.p →
    exec (.checkStateWrite h n k) s = answeredOk h [] { b with checks := tput b.checks n { u with ctx := k } }) ∧
  (∀ h n u s, Served (.checkRelease h n true) s → let b := started (.checkRelease h n true) s
    n < 8 → tget b.checks n = some u → u.owner = h.fn →
    exec (.checkRelease h n true) s = answeredOk h [] { b with checks := tdel b.checks n }) ∧
  (∀ t n u q y p s, let b := advance t s
    n < 8 → tget b.checks n = some u → unitFeed u = some q → qGet b q = some y → inService b = true → y.stopped = false →
    y.blocked = false → qHead y = some p → (∀ k, k ∈ p.cells → k.bad = false) → p.abort = none → p.closed = true →
    exec (.checkFeedPacket t ⟨n, true⟩) s = .next (feedWhole n q p u b) ∧
    exec (.checkFeedPacket t ⟨n, false⟩) s = .next (feedSpoilt n q p u b))

/-- A message fed in parts has the running value of the whole (R341, R343), and a message that carries its own check value
in ORDER behind its data passes its STRIP check (R344, R345). -/
def Obligations.CheckParts : Prop :=
  (∀ p k v a b, b ≠ [] → crcFeed p k (crcFeed p 0 v a) b = crcFeed p k v (a ++ b)) ∧
  (∀ u data, let p := unitParams u.f
    unitStrip u.f = true → 1 ≤ p.width → p.width ≤ 64 → p.init < 2 ^ p.width → p.poly < 2 ^ p.width → p.xorout < 2 ^ p.width →
    unitMatch (unitFeedBytes 0 (data ++ orderBytes p (crcFinal p (crcFeed p 0 p.init data))) (unitStart u)) = true)

/-! ### TRUST, FAULT, PIN, POWER and DIAG -/

/-- The TRUST commands of provisioning, lifecycle, debug, firmware and configuration (R353-R364). -/
def Obligations.TrustDevice : Prop :=
  (∀ h s, Served (.trustInfo h) s → let b := started (.trustInfo h) s; let v := Config.random b.trust.drbg
    let c : Challenge := { value := v, frc := b.keel.frc, session := false }
    exec (.trustInfo h) s = answeredOk h ([lifecycle b.trust, b.trust.rootHash, b.trust.fuseFw, b.trust.fuseCfg, bit01 b.trust.runB,
        Config.fwVersion b.trust.meas, v, Config.deviceCert, b.trust.lcProv, b.trust.lcField, b.trust.lcRma, b.trust.svn].map Int.ofNat)
      { b with trust := { b.trust with drbg := b.trust.drbg + 1, challenges := b.trust.challenges ++ [c] } }) ∧
  (∀ h root blob svn s, Served (.trustProvision h root blob true svn) s → let b := started (.trustProvision h root blob true svn) s
    lifecycle b.trust = 0 → blob.formOk = true → blob.kind = 3 → blob.wrap = 2 → blob.deviceOk = true → blob.tagOk = true →
    blob.minSvn ≤ b.trust.svn → expired b blob.expires blob.expiry = false → max b.trust.fuseCfg b.keel.shadowCfg ≤ svn →
    let t := { b.trust with rootHash := root, lcProv := 8, pkStored := some blob.key, pcbOk := true, pcbSvn := svn }
    exec (.trustProvision h root blob true svn) s = answeredOk h [] (eraseVault { b with trust := t })) ∧
  (∀ h oem neyth ok s, let c : Instr := .trustLifecycleAdvance h 2 oem neyth true ok
    Served c s → let b := started c s
    lifecycle b.trust = 1 → b.trust.es = false → challengeOk b false oem = true → let u := useChallenge oem b
    exec c s = answeredOk h [] (eraseVault { u with trust := { u.trust with lcField := 8 } })) ∧
  (∀ h oem neyth s, let c : Instr := .trustLifecycleAdvance h 3 oem neyth true true
    Served c s → let b := started c s
    lifecycle b.trust = 2 → challengeOk b false oem = true → challengeOk b false neyth = true → let u := useChallenge oem (useChallenge neyth b)
    exec c s = answeredOk h [] (eraseVault { u with trust := { u.trust with lcRma := 8, pkStored := none } })) ∧
  (∀ h chal ok s, Served (.trustDebugUnlock h chal true ok) s → let b := started (.trustDebugUnlock h chal true ok) s
    lifecycle b.trust = 1 → challengeOk b false chal = true → let u := useChallenge chal b
    exec (.trustDebugUnlock h chal true ok) s = answeredOk h [] (eraseVault { u with trust := { u.trust with debug := true } })) ∧
  (∀ h lc svn meas s, Served (.trustFwStage h true lc svn meas) s → let b := started (.trustFwStage h true lc svn meas) s
    imageAllowed b lc svn = true → b.trust.runB = false → let i : Image := { ok := true, svn := svn, meas := meas, lc := lc }
    exec (.trustFwStage h true lc svn meas) s = answeredOk h [1] { b with trust := { b.trust with staged := true, slotB := i } }) ∧
  (∀ h s, Served (.trustFwActivate h) s → let b := started (.trustFwActivate h) s
    b.trust.staged = true →
    exec (.trustFwActivate h) s = answeredOk h [] { b with trust := { b.trust with preferB := !b.trust.runB, tryN := 3 } }) ∧
  (∀ h s, Served (.trustFwCommit h) s → let b := started (.trustFwCommit h) s
    let fw := max b.keel.shadowFw (min 64 b.trust.svn)
    let cfg := if b.trust.pcbOk then max b.keel.shadowCfg (min 32 b.trust.pcbSvn) else b.keel.shadowCfg
    let n := min 4 (fw - b.trust.fuseFw); let m := min (4 - n) (cfg - b.trust.fuseCfg)
    exec (.trustFwCommit h) s = answeredOk h [Int.ofNat (b.trust.fuseFw + n), Int.ofNat (b.trust.fuseCfg + m),
        Int.ofNat ((fw - (b.trust.fuseFw + n)) + (cfg - (b.trust.fuseCfg + m)))]
      { b with keel := { b.keel with shadowFw := fw, shadowCfg := cfg }
               trust := { b.trust with tryN := 0, fuseFw := b.trust.fuseFw + n, fuseCfg := b.trust.fuseCfg + m } }) ∧
  (∀ h lc svn meas s, Served (.trustFwRecover h true lc svn meas) s → let b := started (.trustFwRecover h true lc svn meas) s
    imageAllowed b lc svn = true → let i : Image := { ok := true, svn := svn, meas := meas, lc := lc }
    exec (.trustFwRecover h true lc svn meas) s = answeredOk h [] { b with trust := { b.trust with slotA := i } }) ∧
  (∀ h svn s, Served (.trustPcbSet h true svn) s → let b := started (.trustPcbSet h true svn) s
    max b.trust.fuseCfg b.keel.shadowCfg ≤ svn →
    exec (.trustPcbSet h true svn) s = answeredOk h [] { b with trust := { b.trust with pcbOk := true, pcbSvn := svn } })

/-- The TRUST commands of keys, nodes, sessions, attestation and secure time (R363, R365, R366, R370-R373). -/
def Obligations.TrustKeys : Prop :=
  (∀ h n blob s, Served (.trustKeyLoad h (some n) blob) s → let b := started (.trustKeyLoad h (some n) blob) s
    n < 128 → keysAllowed b = .ok () → blob.formOk = true → blob.kind = 1 ∨ blob.kind = 2 → tget b.keel.vault.slots n = none →
    blobCheck b blob = .ok () →
    exec (.trustKeyLoad h (some n) blob) s = answeredOk h [Int.ofNat n] (putKey n { owner := h.fn, kind := blob.kind, key := blob.key } b)) ∧
  (∀ h n s, Served (.trustKeyGenerate h (some n)) s → let b := started (.trustKeyGenerate h (some n)) s
    n < 128 → tget b.keel.vault.slots n = none → let v := Config.random b.trust.drbg
    exec (.trustKeyGenerate h (some n)) s = answeredOk h [Int.ofNat n, Int.ofNat (Config.sealedVal [3, v])]
      (putKey n { owner := h.fn, kind := 2, key := v } { b with trust := { b.trust with drbg := b.trust.drbg + 1 } })) ∧
  (∀ h n k s, Served (.trustKeyErase h n) s → let b := started (.trustKeyErase h n) s
    n < 128 → tget b.keel.vault.slots n = some k → k.owner = h.fn → (∀ e, e ∈ b.asset.volumes → e.2.slot ≠ n) →
    let vault := { b.keel.vault with slots := tdel b.keel.vault.slots n }
    exec (.trustKeyErase h n) s = answeredOk h [] { b with keel := { b.keel with vault := vault } }) ∧
  (∀ h port node p s, Served (.trustAuthoritySet h port node) s → let b := started (.trustAuthoritySet h port node) s
    portOf port = some p →
    exec (.trustAuthoritySet h port node) s = answeredOk h [] (setPort b p { portGet b p with authority := some node })) ∧
  (∀ h port node subject p s, let c : Instr := .trustNodeRevoke h port node subject
    Served c s → let b := started c s
    portOf port = some p → tget (portGet b p).enrolls node = none → (portGet b p).revoked.contains subject = false →
    let left := b.keel.vault.nodeKeys.filter (fun k => !(k.port == p && k.src == node))
    let u := { b with keel := { b.keel with vault := { b.keel.vault with nodeKeys := left } } }
    exec c s = answeredOk h [] (setPort u p { portGet b p with revoked := (portGet b p).revoked ++ [subject] })) ∧
  (∀ h s, Served (.trustSessionChallenge h) s → let b := started (.trustSessionChallenge h) s; let v := Config.random b.trust.drbg
    let c : Challenge := { value := v, frc := b.keel.frc, session := true }
    exec (.trustSessionChallenge h) s = answeredOk h [Int.ofNat v]
      { b with trust := { b.trust with drbg := b.trust.drbg + 1, challenges := b.trust.challenges ++ [c] } }) ∧
  (∀ h chal key s, Served (.trustSessionOpen h chal true true key) s → let b := started (.trustSessionOpen h chal true true key) s
    b.trust.debug = false → b.trust.pcbOk = true → b.keel.vault.sessions.length < 64 →
    b.keel.vault.sessions.countP (fun e => e.2.owner == h.fn) < 16 → challengeOk b true chal = true → b.trust.nextSession + 1 < 2 ^ 32 →
    let id := b.trust.nextSession; let qe := Config.sealedVal [4, Config.random b.trust.drbg]; let u := useChallenge chal b
    let vault := { b.keel.vault with sessions := tput b.keel.vault.sessions id { owner := h.fn, key := key, counter := 1 } }
    let t := { u with trust := { u.trust with drbg := b.trust.drbg + 1, nextSession := id + 1 }, keel := { b.keel with vault := vault } }
    exec (.trustSessionOpen h chal true true key) s =
      answeredOk h ([Int.ofNat id, Int.ofNat qe] ++ attestReport t 0 (Config.sealedVal [5, qe]) id) t) ∧
  (∀ h id k s, Served (.trustSessionClose h id) s → let b := started (.trustSessionClose h id) s
    tget b.keel.vault.sessions id = some k → k.owner = h.fn →
    exec (.trustSessionClose h id) s = answeredOk h [] (endSession id b)) ∧
  (∀ h nonce data s, Served (.trustAttest h nonce data) s → let b := started (.trustAttest h nonce data) s
    exec (.trustAttest h nonce data) s = answeredOk h (attestReport b nonce data 0 ++ [Int.ofNat (Config.akCert b.trust.meas)]) b) ∧
  (∀ h chal time s, Served (.trustTimeSet h chal true time) s → let b := started (.trustTimeSet h chal true time) s
    b.trust.pcbOk = true → challengeOk b false chal = true → let u := useChallenge chal b
    exec (.trustTimeSet h chal true time) s =
      answeredOk h [] { u with keel := { u.keel with secure := max u.keel.secure time, secureValid := true } })

/-- The FAULT commands (R411, R415, R416, R418, R422, R424, R426). -/
def Obligations.FaultCommands : Prop :=
  (∀ h n sev ms s, Served (.faultSet h n n sev 0 ms) s → let b := started (.faultSet h n n sev 0 ms) s
    n < 1024 → srcListed n = true → sevLocked n = false → sev < 5 → 1 ≤ ms → ms ≤ 60000 →
    exec (.faultSet h n n sev 0 ms) s = answeredOk h [] (srcPut n { srcGet b n with sev := some sev, host := false, timeoutMs := ms } b)) ∧
  (∀ h x y s, Served (.faultThresholdSet h x y) s → let b := started (.faultThresholdSet h x y) s
    1 ≤ x → x ≤ 5 → 1 ≤ y → y ≤ 5 →
    exec (.faultThresholdSet h x y) s = answeredOk h [] { b with keel := { b.keel with faultOkTh := x, fltTh := y } }) ∧
  (∀ h r s, Served (.faultRead h 1) s → let b := started (.faultRead h 1) s
    b.fc.last = some r → exec (.faultRead h 1) s = answeredOk h (recFields r) b) ∧
  (∀ h first n s, Served (.faultLogRead h first n) s → let b := started (.faultLogRead h first n) s
    let recs := (List.range n).filterMap (fun i => tget b.fc.log ((first + i) % 64))
    first < 64 → 1 ≤ n → n ≤ 64 → 32 * recs.length < h.room →
    exec (.faultLogRead h first n) s = answeredOk h (Int.ofNat recs.length :: (recs.map recFields).flatten) b) ∧
  (∀ h n s, Served (.faultAck h n n) s → let b := started (.faultAck h n n) s
    n < 1024 → srcListed n = true → let u := ackSource b n; let v := { u with fc := { u.fc with armed := true } }
    exec (.faultAck h n n) s = answeredOk h [Int.ofNat (latchedIn u n n)] (if latchedIn u 0 1023 = 0 then v else u)) ∧
  (∀ h a z s, Served (.faultCountRead h a z false) s → let b := started (.faultCountRead h a z false) s
    a ≤ z → z < 1024 → 4 * (z + 1 - a) ≤ h.room →
    exec (.faultCountRead h a z false) s = answeredOk h ((List.range (z + 1 - a)).map (fun i => Int.ofNat (srcWord (srcGet b (a + i))))) b) ∧
  (∀ h idx act n x v s, Served (.faultVerdict h idx act) s → let b := started (.faultVerdict h idx act) s
    let holds (e : Nat × Source) : Bool := match e.2.verdict with | some v => v.raises.any (fun r => r.1 == idx) | none => false
    act < 4 → b.fc.srcs.find? holds = some (n, x) → x.verdict = some v → b.keel.frc ≤ v.deadline →
    exec (.faultVerdict h idx act) s = answeredOk h [] (decideVerdict n (some act) b)) ∧
  (∀ h e s, Served (.faultXfSet h e) s → let b := started (.faultXfSet h e) s
    e < 32 → exec (.faultXfSet h e) s = answeredOk h []
      { b with keel := { b.keel with xfEnable := e }, board := { b.board with xf := tfilter b.board.xf (fun n _ => bitOf e n) } })

/-- The PIN, POWER and DIAG commands (R106, R110, R404, R405, R445, R461). A sensor or trace value that the spec leaves
open is a free value. -/
def Obligations.PinPowerDiag : Prop :=
  (∀ h k i s, Served (.pinClaim h k (some i)) s → let b := started (.pinClaim h k (some i)) s
    k < 5 → i < pinCount k → pinEngine b k i = false → pinOwner b k i = none →
    exec (.pinClaim h k (some i)) s = answeredOk h [Int.ofNat i, Int.ofNat (bit01 (shadowed b k i))] (pinGive b k i h.fn)) ∧
  (∀ h k i s, Served (.pinRelease h k true i) s → let b := started (.pinRelease h k true i) s
    k < 5 → i < pinCount k → pinEngine b k i = false → pinOwner b k i = some h.fn →
    exec (.pinRelease h k true i) s = answeredOk h [] (pinFree b k i)) ∧
  (∀ h k i s, Served (.pinQuery h k i) s → let b := started (.pinQuery h k i) s
    k < 5 → i < pinCount k → let o := if pinEngine b k i then 0xFE else (pinOwner b k i).getD 0xFF
    exec (.pinQuery h k i) s = answeredOk h [Int.ofNat o, Int.ofNat (bit01 (o != 0xFF && !(shadowed b k i)))] b) ∧
  (∀ h i level s, Served (.pinGpioSet h i 1 level) s → let b := started (.pinGpioSet h i 1 level) s
    i < 14 → level < 2 → tget b.board.gpioOwner i = some h.fn →
    exec (.pinGpioSet h i 1 level) s = answeredOk h [] { b with board := { b.board with gpioOut := tput b.board.gpioOut i (level == 1) } }) ∧
  (∀ h i ball s, Served (.pinGpioRead h i ball) s → let b := started (.pinGpioRead h i ball) s
    i < 14 → tget b.board.gpioOwner i = some h.fn →
    exec (.pinGpioRead h i ball) s = answeredOk h [Int.ofNat (bit01 (ballLevel b i ball))] b) ∧
  (∀ h mw s, Served (.powerCapSet h mw) s → let b := started (.powerCapSet h mw) s
    20000 ≤ mw → mw ≤ 58000 → exec (.powerCapSet h mw) s = answeredOk h [] { b with arr := { b.arr with capMw := mw } }) ∧
  (∀ h est tj s, Served (.powerQuery h) s → let b := started (.powerQuery h) s
    b.arr.estMw = some est → peakAll b = some tj →
    exec (.powerQuery h) s = answeredOk h [Int.ofNat est, Int.ofNat b.arr.capMw, Int.ofNat b.arr.limit, Int.ofNat b.arr.arrayStep,
      Int.ofNat (bit01 b.keel.aGood + 2 * bit01 b.keel.bGood + 4 * bit01 b.keel.onB), tj] b) ∧
  (∀ h i addr dev rail s, Served (.powerTelemetrySet h i addr dev rail) s → let b := started (.powerTelemetrySet h i addr dev rail) s
    i < 8 → 1 ≤ dev → dev < 3 → rail < 8 → addr < 256 → let d : Telem := { addr := addr, device := dev, rail := rail }
    exec (.powerTelemetrySet h i addr dev rail) s = answeredOk h [] { b with board := { b.board with telem := tput b.board.telem i d } }) ∧
  (∀ h clear s, Served (.diagCoreStats h clear) s → let b := started (.diagCoreStats h clear) s
    let u := (List.range 16).foldl (fun s c => settleBusy c s) (settleAll b)
    let v := (List.range 16).foldl (fun s c => coreSet s c (coreRead clear (coreGet s c))) u
    exec (.diagCoreStats h clear) s = answeredOk h (((List.range 16).map (coreStats u)).flatten) { v with free := v.free + 16 }) ∧
  (∀ h fails s, Served (.diagSelftest h fails) s → let b := started (.diagSelftest h fails) s
    b.arr.selftest = none → let u := outstanding h .selftest b; let test : SelfTest := { fails := fails, next := 0, results := [] }
    exec (.diagSelftest h fails) s = .next (selftestRun 17 { u with arr := { u.arr with selftest := some test } })) ∧
  (∀ h s, Served (.diagTempRead h) s → let b := started (.diagTempRead h) s
    lifecycle b.trust ≠ 2 → ∃ res : List Int, res.length = 24 ∧ exec (.diagTempRead h) s = answeredOk h res { b with free := b.free + 24 } ∧
      (∀ i t, i < 16 → (coreGet b i).temp = some t → res[i]? = some (t * 16)) ∧
      (∀ i t, 16 ≤ i → i < 24 → tget b.board.temps i = some t → res[i]? = some (t * 16))) ∧
  (∀ h n addr s, Served (.diagTraceRead h n addr) s → let b := started (.diagTraceRead h n addr) s
    lifecycle b.trust ≠ 2 → ∃ k, k ≤ n ∧ exec (.diagTraceRead h n addr) s = answeredOk h [Int.ofNat k]
      { b with free := b.free + 1, link := { b.link with writes := ⟨h.fn, addr, [], 9, [Int.ofNat k]⟩ :: b.link.writes } })

/-! ### The host link, resets and the keel -/

/-- The events of the mailboxes' registers (R378, R380, R383-R385, R391). A request doorbell with a tail too far ahead stops
its ring, and another one adds what it covers to the entries that wait. An entry read again with its phase still wrong stops
the ring with STALE_PHASE. ENABLE with good fields starts the rings, for the warden at index 0 and phase 1 with nothing in
them; in START_HUT it only sets the register (log 104). A cleared ENABLE ends MBX_READY and the fetching and holds unwritten
responses. A head write frees entries. The end of a holdoff signals a vector that is due. -/
def Obligations.MailboxEvents : Prop :=
  (∀ t fn w v es s, let b := advance t s; let m := mbxGet b fn w; let tail := Word.field v 15 0
    mbxNamed fn w = true → regLive b fn = true → m.ready = true → m.stopped = none → tail ≠ m.reqTail →
    (2 ^ reqLog m < (tail + 65536 - m.reqHead) % 65536 → exec (.mbxDoorbellWrite t fn w v es) s = .next (stopRing fn w 2 tail b)) ∧
    ((tail + 65536 - m.reqHead) % 65536 ≤ 2 ^ reqLog m →
      let k := (tail + 65536 - m.reqTail) % 65536
      let m2 := { m with reqTail := tail, waiting := m.waiting ++ (es ++ List.replicate k blankEntry).take k }
      exec (.mbxDoorbellWrite t fn w v es) s = .next (refetch fn w (setMbx b fn w m2)))) ∧
  (∀ t fn w e s, let b := advance t s; let m := mbxGet b fn w
    mbxNamed fn w = true → m.stale = true → m.staleAt ≤ b.keel.frc → canWrite b m = true → e.readOk = true → e.phase ≠ m.reqPhase →
    exec (.stalePhaseRetry t fn w e) s = .next (refetch fn w (stopRing fn w 1 m.reqHead b))) ∧
  (∀ t fn v s, let b := advance t s; let m := mbxGet b fn true; let m2 := { m with size := v &&& sizeMask }
    mbxNamed fn true = true → regLive b fn = true → mbxEnable m = false → enableOk fn true m2 = true →
    (b.eng = .startHut → exec (.mbxEnableSet t fn true v) s = .next (setMbx b fn true m2)) ∧
    (b.eng ≠ .startHut → exec (.mbxEnableSet t fn true v) s = .next (startRings fn true m2 b)) ∧
    mbxGet (startRings fn true m2 b) fn true =
      { m2 with ready := true, reqTail := 0, reqHead := 0, reqPhase := true, waiting := [], stale := false, stopped := none,
                rspTail := 0, rspHead := 0, rspPhase := true, evtTail := 0, evtHead := 0, evtPhase := true, rsp := [], evt := [],
                held := [], evtDropped := 0 }) ∧
  (∀ t fn w s, let b := advance t s; let m := mbxGet b fn w
    mbxNamed fn w = true → regLive b fn = true → mbxEnable m = true →
    let m2 := { m with size := m.size &&& 0xFFF, ready := false, waiting := [], stale := false, held := m.held ++ complOf b fn w }
    let u := setMbx b fn w m2
    exec (.mbxEnableClear t fn w) s = .next { u with link := { u.link with compl := u.link.compl.filter (fun c => !(ringWaits fn w c)) } }) ∧
  (∀ t fn w v s, let b := advance t s; let m := mbxGet b fn w; let rh := Word.field v 15 0; let eh := if w then m.evtHead else Word.field v 31 16
    mbxNamed fn w = true → regLive b fn = true → m.evtDropped = 0 →
    let m2 := { m with rspHead := rh, evtHead := eh, rsp := m.rsp.drop ((rh + 65536 - m.rspHead) % 65536)
                       evt := m.evt.drop ((eh + 65536 - m.evtHead) % 65536) }
    exec (.mbxRspHeadWrite t fn w v) s = .next (refetch fn w (setMbx b fn w m2))) ∧
  (∀ t fn v e s, let b := advance t s; let x := vecGet b fn v
    fn < 64 → v < 256 → x.holdEnd = some e → e ≤ b.keel.frc → let u := setVec fn v { x with holdEnd := none, due := false } b
    exec (.msixHoldoffEnd t fn v) s = .next (if x.due then signal fn v u else u))

/-- The other events of the host link (R319, R320, R385, R389, R390). A doorbell of no ring counts a drop, one of a ring moves
its tail. A write to FN_STATE clears the flags written with 1 but those that its own cycle sets (Table 16-4, R12). A
submission entry for a stopped queue is refused with E_STATE, and one that is taken is accepted. A posted buffer that is too
small completes without data, and another takes the head packet. A COMPLETION write waits for none. A link retrained to no
less has its new rate and width. A read of FN_STATE returns its fields, MBX_DOORBELL reads as zero, and an access that R8
does not take reads as all ones (R8, R11, Table 16-2). Response and event entries have 32 bytes (R382, R384). -/
def Obligations.HostLinkEvents : Prop :=
  (∀ t fn db v s, let b := advance t s; let f := fnGet b fn
    fn < 64 → db < 8192 → regLive b fn = true →
    (ringOfDoorbell b fn db = none → exec (.queueDoorbellWrite t fn db v) s = .next (setFn b fn { f with drops := f.drops + 1 })) ∧
    (∀ q del, ringOfDoorbell b fn db = some (q, del) →
      exec (.queueDoorbellWrite t fn db v) s = .next (ringTail fn q (Word.field v 15 0) del b))) ∧
  (∀ t fn v s, let b := advance t s; let f := fnGet b fn; let one (i : Nat) : Bool := bitOf (BitVec.ofNat 32 v.toNat).toNat i && tget f.flagAt i != some b.keel.frc
    fn < 64 → regLive b fn = true → let m := { f.mbx with evtLost := f.mbx.evtLost && !(one 6) }
    let f2 := { f with ringError := f.ringError && !(one 3), linkReset := f.linkReset && !(one 5), mbx := m }
    exec (.registerWrite t fn 4 4 v) s = .next (setFn b fn f2)) ∧
  (∀ t q e y r s, let b := advance t s
    qGet b q = some y → y.sub = some r → subReady b q y r = true → y.stopped = true →
    exec (.submissionFetch t q e) s = .next (subRefused q r.head (entryTag y r e) .state b)) ∧
  (∀ t q e y r n b2 s, let b := advance t s
    qGet b q = some y → y.sub = some r → subReady b q y r = true → takeSubmission q y r e r.head b = .accept n b2 →
    exec (.submissionFetch t q e) s = .next (subAccepted q r r.head n (entryTag y r e) b2)) ∧
  (∀ t q addr bytes y r s, let b := advance t s; let fn := qFn y.w
    qGet b q = some y → y.del = some r → b.link.compl = [] → fnEligible b fn = true → r.stopped = false → r.head ≠ r.tail →
    (bytes < qPktMax y.w * 256 → let u := setFn b fn { fnGet b fn with smallBuffers := (fnGet b fn).smallBuffers + 1 }
      exec (.packetDelivery t q addr bytes) s = .next (putCompletion q fn r true false 0 0 none u)) ∧
    (∀ p, qPktMax y.w * 256 ≤ bytes → deliverable y = some p → packetFirst b q y p = true →
      exec (.packetDelivery t q addr bytes) s = .next (deliver q addr y r p b))) ∧
  (∀ t w rest s, let b := advance t s
    b.link.up = true → b.link.perst = false → b.link.compl = w :: rest →
    exec (.hostLinkWrite t) s = .next (sendCompl w rest b)) ∧
  (∀ t gen lanes s, let b := advance t s
    b.link.up = true → b.link.gen ≤ gen → b.link.lanes ≤ lanes →
    exec (.hostLinkRetrain t gen lanes) s = .next { b with link := { b.link with gen := gen, lanes := lanes } }) ∧
  (∀ s fn, regLive s fn = true →
    barRead s fn 4 4 = some (fnStateWord s fn) ∧ barRead s fn 0x1020 4 = some 0 ∧
    (∀ off w, off < barBytes fn → accessOk off w = false → barRead s fn off w = some (2 ^ (8 * w) - 1))) ∧
  (∀ ph r e, (rspBytes ph r).length = 32 ∧ (evtBytes ph e).length = 32)

/-- Resets and bring-up (R109, R392-R394, R430, R436, R437, R441, R442, R444; Table 19-4). RESET_N resets the main domain;
leaving it, or 1 ms of a powered keel with RESET_N high, boots the start hut and trains the link unless PERST_N is asserted.
SNOWPLOUGH: the ports and the collector start and C0 is in service. PISTE, with HBM trained and every core's test passed:
the regions of HBM are laid out and host filters 0 to 15 go, while the keel, TRUST, the time unit and the check units stay as
they are. A warm reset ends in PISTE with rebuilt queues and restarted ports and assets. PERST_N takes the mailbox layer and
the VFs away, and its end trains the link, sets LINK_RESET and starts VF_RETURN where a VF is away. A VF that does not return
in time is reset, as by a function-level reset. S0_REFCLK and S1_REFCLK run in PISTE alone (R457). -/
def Obligations.ResetEvents : Prop :=
  (∀ t s, exec (.resetNAssert t) s = .next { resetMain (advance t s) with resetN := true }) ∧
  (∀ t f s, let b := advance t s
    b.resetN = true → b.keel.powered = true → let u := boot f { b with resetN := false }
    exec (.resetNDeassert t f) s = .next { u with link := { u.link with up := !u.link.perst } }) ∧
  (∀ t f s, let b := advance t s
    b.keel.powered = true → b.resetN = false → b.eng = .startHut → b.trust.fwRuns = false → 1000000 ≤ b.keel.frc →
    let u := boot f { b with resetN := false }
    exec (.mainDomainResetRelease t f) s = .next { u with link := { u.link with up := !u.link.perst } }) ∧
  (∀ t s, let b := advance t s
    b.eng = .startHut → b.warm = false → b.trust.fwRuns = true → b.resetN = false → b.keel.powered = true →
    let u := startCollector (portsStart { b with
      eng := .snowplough, keel := { b.keel with busWake := false }, board := { b.board with hbmFails := 0 } })
    let v := coreSet u 0 { coreGet u 0 with served := true, st := .online, resSince := u.keel.frc }
    u.keel.sysrefMissed = false →
    exec (.enterSnowplough t true false) s = .next (serveRings (endLongs (fun _ l => l == .engineReset) .ok [] v))) ∧
  (∀ t s, let b := advance t s
    b.eng = .snowplough → b.board.hbmOk = false →
    exec (.hbmTrainingDone t true) s = .next { b with board := { b.board with hbmOk := true } }) ∧
  (∀ t d0 d1 s, let b := advance t s
    b.eng = .snowplough → b.board.hbmOk = true → ∃ u, exec (.enterPiste t [] true false d0 d1) s = .next u ∧ u.eng = .piste ∧
      u.pisteOnce = true ∧ u.keel = b.keel ∧ u.trust = b.trust ∧ u.tu = b.tu ∧ u.checks = b.checks ∧
      u.board.hbm = { reserve := Config.engineReserve, spill := b.link.spillBytes, media := Config.hbmBytes - Config.engineReserve - b.link.spillBytes } ∧
      (∀ n, n < 16 → tget u.bus.oa.filters n = none ∧ tget u.bus.ob.filters n = none)) ∧
  (∀ t s, let b := advance t s
    b.eng = .startHut → b.warm = true → b.trust.fwRuns = true → b.resetN = false →
    exec (.engineResetDone t) s = .next (serveRings (endLongs (fun _ l => l == .engineReset) .ok []
      (restartAssets (portsStart (rebuildQueues { b with eng := .piste, warm := false })))))) ∧
  (∀ t s, let b := advance t s
    b.link.perst = false → let u := vfsAway (mbxLayerReset b)
    exec (.perstNAssert t) s = .next { u with link := { u.link with perst := true, up := false, retDue := none } }) ∧
  (∀ t s, let b := advance t s
    b.link.perst = true → mainOff b = true → let up := b.keel.powered && !b.resetN && b.trust.fwRuns
    exec (.perstNDeassert t) s = .next { b with link := { b.link with perst := false, up := up } }) ∧
  (∀ t s, let b := advance t s
    b.link.perst = true → mainOff b = false → b.link.resetDue = false → b.eng ≠ .piste →
    let due := if b.link.fns.any (fun e => e.2.away) then some (b.keel.frc + b.link.vfReturn * 1000000000) else none
    let u := { b with link := { b.link with perst := false, up := true, retDue := due } }
    exec (.perstNDeassert t) s = .next (setFn u 0 (flagSet 5 b.keel.frc { fnGet u 0 with linkReset := true }))) ∧
  (∀ t n s, let b := advance t s
    b.link.up = true → n < 64 → (∀ e, e ∈ b.link.fns → e.2.away = false) → b.link.numVfs ≤ n →
    exec (.vfEnable t n) s = .next { b with link := { b.link with numVfs := n, retDue := none } }) ∧
  (∀ t v d s, let b := advance t s
    b.link.retDue = some d → d ≤ b.keel.frc → (fnGet b v).away = true → vfReturns b v = false → let u := flr v b
    exec (.vfReturnExpiry t v) s = .next (setFn u v { fnGet u v with away := false })) ∧
  (∀ t fn s, let b := advance t s
    fn < 64 → b.link.up = true → fnExists b fn = true → exec (.functionLevelReset t fn) s = .next (flr fn b)) ∧
  (∀ s, refclkRuns s = true ↔ s.eng = .piste ∧ s.keel.powered = true ∧ s.resetN = false)

/-- Keel feeds, SYSREF, tamper and temperature (R375, R431-R435; Table 19-6). A feed in use that leaves its window hands over
to a good one; a feed that returns without a hold-up is noted; after VKEEL_A was good for 50 ms the keel goes back to it; a
hold-up of more than 20 us loses the keel. SYSREF stopping puts both domains into HOLDOVER, and its return lets the FRC go on.
An armed tamper source is raised. A sensor off the cores that reads with every sensor below 105 °C raises nothing. -/
def Obligations.KeelEvents : Prop :=
  (∀ t s, let b := advance t s
    b.keel.powered = true → b.keel.aGood = true → b.keel.onB = false → b.keel.bGood = true →
    let k := { b.keel with aGood := false, aGoodSince := none }
    exec (.keelFeedOutOfWindow t .a) s = .next (takeFeed .b (noteFeed 0 1 false { b with keel := k }))) ∧
  (∀ t s, let b := advance t s
    b.keel.powered = true → b.keel.bGood = false → b.keel.holdSince = none →
    exec (.keelFeedRestored t .b) s = .next (noteFeed 1 2 false { b with keel := { b.keel with bGood := true } })) ∧
  (∀ t g s, let b := advance t s
    b.keel.powered = true → b.keel.onB = true → b.keel.aGood = true → b.keel.aGoodSince = some g → g + 50000000 ≤ b.keel.frc →
    exec (.keelRevertExpiry t) s = .next (noteFeed 0 4 false { b with keel := { b.keel with onB := false } })) ∧
  (∀ t g s, let b := advance t s
    b.keel.holdSince = some g → g + 20000 ≤ b.keel.frc → exec (.holdUpExpiry t) s = .next (loseKeel b)) ∧
  (∀ t s, let b := advance t s
    b.keel.powered = true → b.keel.sysref = true → mainOff b = false →
    exec (.sysrefStop t) s = .next { b with keel := { b.keel with sysref := false, ta := holdDom b.keel.ta, tb := holdDom b.keel.tb } }) ∧
  (∀ t s, exec (.sysrefReturn t) s = .next { advance t s with keel := { (advance t s).keel with sysref := true } }) ∧
  (∀ t src s, let b := advance t s
    0x020 ≤ src → src ≤ 0x024 → armed b src = true → mainOff b = false → b.eng ≠ .startHut → exec (.tamperTrip t src) s = .next (raise src 1 0 false b)) ∧
  (∀ t sensor temp s, let b := advance t s
    16 ≤ sensor → sensor < 24 → mainOff b = false → b.board.hot = false →
    let temps := tput b.board.temps sensor temp; (∀ e, e ∈ temps → e.2 < 105) →
    exec (.tjThresholdCrossing t sensor temp) s = .next { b with board := { b.board with temps := temps, hotSince := none } })

/-- The work of a KEEL reaction (R375, R440): the vault is erased and the engine is HALTED until the keel loses both
feeds. -/
def Obligations.KeelStop : Prop :=
  ∀ s, (keelStop s).keel.vault = {} ∧ (keelStop s).eng = .halted ∧ (keelStop s).keelHalt = true

/-- RESET_N (R436, Table 19-3) leaves only what the keel, the fuses, the flash and the PERST_N pin hold: FRC, time domains
in HOLDOVER or FREE, the vault without content keys; every configuration register, queue, stream, port and check unit is
as at power-up. -/
def Obligations.ResetNLeaves : Prop :=
  ∀ t s u, exec (.resetNAssert t) s = .next u → let b := advance t s
    u.keel = { b.keel with ta := holdDom b.keel.ta, tb := holdDom b.keel.tb, vault := { b.keel.vault with content := [], sessions := [] } } ∧
    u.trust = trustKept b.trust ∧ u.resetN = true ∧ u.link = { perst := b.link.perst } ∧ u.pending = s.pending ∧
    u = { State.reset with pending := s.pending, resetN := true, keelHalt := s.keelHalt, free := s.free, keel := u.keel
                           trust := u.trust, link := u.link, fc := collectorKept b }

/-! ### Storage, queues, cores and decoding -/

/-- The storage ports and the asset path at work. A completion ends its read, and with the last read of a chunk the chunk is
in staging; a media error is read again with FUA, and the third fails the chunk (R180, R182). A command without completion
for 500 ms is submitted again twice, and then the controller is reset (R181). The next chunk's reads go out when staging
holds it whole (R189); a chunk that passes its CRC-64, tag and table checks goes on (R192), and one that is decoded goes out
(R194). A request whose chunks are all written ends (R24). Cartridge removal, insertion and loss of S1 (R183, R227). -/
def Obligations.StorageEvents : Prop :=
  (∀ t p id media x s, let b := advance t s; let left := (stPort b p).cmds.filter (fun y => !(y.id == id))
    (stPort b p).cmds.find? (fun y => y.id == id) = some x → chunkIn b x.req x.chunk .reading = true →
    let u := setStPort b p { stPort b p with cmds := left }
    (media = false → (left.any (fun y => y.req == x.req && y.chunk == x.chunk)) = true →
      exec (.nvmeCompletion t p id media) s = .next u) ∧
    (∀ q e, media = false → (left.any (fun y => y.req == x.req && y.chunk == x.chunk)) = false → reqGet b x.req = some q →
      chunkEntry q x.chunk = some e →
      exec (.nvmeCompletion t p id media) s = .next (assetCount p 1 e.stored (chunkMod x.req x.chunk (fun y => { y with st := .staged }) u))) ∧
    (media = true → x.mediaFails < 2 → exec (.nvmeCompletion t p id media) s = .next (countReread p x.req
      (resend p id (fun y => { y with mediaFails := y.mediaFails + 1, fua := true, timeouts := 0 }) b))) ∧
    (media = true → 2 ≤ x.mediaFails → exec (.nvmeCompletion t p id media) s =
      .next (raise (stBase p + 4) 1 (addrPort (2 + stNum p)) false (failChunk x.req x.chunk .integrity 0x12
        (dropCmds p (fun y => y.req == x.req && y.chunk == x.chunk) b))))) ∧
  (∀ t p id x s, let b := advance t s
    (stPort b p).cmds.find? (fun y => y.id == id) = some x → x.issued + 500000000 ≤ b.keel.frc → completes b p id = false →
    (x.timeouts < 2 → exec (.nvmeCommandTimeout t p id) s = .next (raise (stBase p + 1) 1 (addrPort (2 + stNum p)) false
      (resend p id (fun y => { y with timeouts := y.timeouts + 1 }) b))) ∧
    (x.timeouts = 2 → let cmds := (stPort b p).cmds.map (fun y => { y with timeouts := 3, issued := b.keel.frc })
      exec (.nvmeCommandTimeout t p id) s = .next (raise (stBase p + 2) 1 (addrPort (2 + stNum p)) false
        (setStPort b p { stPort b p with cmds := cmds })))) ∧
  (∀ t r q c e s, let b := advance t s
    b.eng = .piste → issueTurn b = some (r, q) → nextChunk q = some c → expired b q.hac.expires q.hac.expiry = false →
    chunkEntry q c = some e → b.asset.staging + e.stored ≤ stagingSize b →
    let u := reqMod r (fun q => { q with chunks := q.chunks ++ [{ chunk := c, st := .reading }] }) b
    exec (.assetReadIssue t) s = .next (sendCmds q.port r c (chunkCmds u q e) false (takeStaging e.stored u))) ∧
  (∀ t r c desc q s, let b := advance t s
    reqGet b r = some q → b.eng = .piste → chunkIn b r c .staged = true →
    exec (.chunkVerify t r c true true (some desc)) s = .next (passChunk r c q desc (assetCount q.port 3 1 b))) ∧
  (∀ t r c q x u s, let b := advance t s
    reqGet b r = some q → chunkGet q c = some x → x.unit = some u → b.eng = .piste → x.st = .verified →
    exec (.decompressionDone t r c true false) s =
      .next (assignUnits (queueOutput r c (chunkMod r c (fun x => { x with unit := none }) (releaseUnit u b))))) ∧
  (∀ t r q s, let b := advance t s
    reqGet b r = some q → reqWhole q = true → exec (.assetRequestComplete t r) s = .next (endRequest r b)) ∧
  (∀ t s, let b := advance t s
    mainOff b = false → b.asset.s0.gone = false → let u := dropCartridge (closePort .s0 (loseDevice .s0 (startWindow b)))
    exec (.s0Removal t) s = .next (raise 0x240 1 (addrPort 2) false (event 0 0x0501 [0] (assetCount .s0 11 1 u)))) ∧
  (∀ t d s, let b := advance t s
    mainOff b = false → b.asset.s0.present = false → let u := startWindow (setStPort b .s0 { stPort b .s0 with gone := false })
    let w := enumerate .s0 d u
    (b.eng ≠ .piste → exec (.s0Insertion t d) s = .next u) ∧
    (b.eng = .piste → w.asset.s0.enumd = true → exec (.s0Insertion t d) s = .next (event 0 0x0502 [0] w)) ∧
    (b.eng = .piste → w.asset.s0.enumd = false → exec (.s0Insertion t d) s = .next w)) ∧
  (∀ t s, let b := advance t s
    mainOff b = false → b.asset.s1.present = true →
    exec (.s1LinkDown t) s = .next (raise 0x250 2 (addrPort 3) false (loseDevice .s1 b))) ∧
  (∀ t s, let b := advance t s; let ended (p : Port) := { p with insertEnd := p.insertEnd.filter (fun e => decide (b.keel.frc < e)) }
    exec (.insertionWindowEnd t) s = .next { b with bus := { b.bus with oa := ended b.bus.oa, ob := ended b.bus.ob } })

/-- The queue manager's events. A cell written in whose traversal the pointer banks differ blocks its queue (R75); one of a
producer of single packets is taken by `writeCell`: a FIRST cell with credit opens a packet and is committed to it (R63,
R68), one without credit only sets OVERRUN and its count (R70), and a cell outside any packet counts in ORPHAN_CELLS (R63).
A read with no visible packet sets UNDERRUN and marks the last value STALE; a read of a cell returns its index, the next
index, FIRST, LAST, its bytes and the packet's number, and releases the cell where its consumer releases cells by reading
(R66, R67; the model's choice which do, log 74). DROP_REST of such a consumer ends its packet (R73), or blocks the queue on
a mismatch. A rebuild that finds every packet's entries in the journal sets REBUILT and ends BLOCKED (R77); the banks and
the journal follow every change of a queue, and stand while it is BLOCKED (R75, R76). A free-list rebuild with nobody
waiting lets allocation go on (R79), and each SAMPLE_INTERVAL every histogram slot takes a sample (R85). -/
def Obligations.QueueEvents : Prop :=
  (∀ t n k y s, let b := advance t s
    qGet b n = some y → y.stopped = false → y.blocked = false → cellShape k = true →
    (k.mismatch = true → exec (.cellWrite t n k) s = .next (blockQueue n b)) ∧
    (k.mismatch = false → k.flMismatch = false → qProducer y.w ≠ 4 →
      exec (.cellWrite t n k) s = .next (writeCell n k.first k.last k.err k.bad false k.data {} b) ∧
      (qOpen y = none → k.first = true → y.credit = 0 → exec (.cellWrite t n k) s =
        .next (qSet b n (qFlag b.keel.frc 0 { y with overrunCells := y.overrunCells + 1 }))) ∧
      (qOpen y = none → k.first = true → y.credit ≠ 0 → k.err = false →
        exec (.cellWrite t n k) s = .next (commitCell n k.data k.bad false k.last (openPkt n {} b))) ∧
      (qOpen y = none → k.first = false → y.discard = 0 →
        exec (.cellWrite t n k) s = .next (qSet b n { y with orphans := y.orphans + 1 })))) ∧
  (∀ t n y s, let b := advance t s
    qGet b n = some y → y.stopped = false → y.blocked = false → y.awaitDrop = false → qHead y = none →
    let v := { y.lastRead with stale := true }
    exec (.cellRead t n false) s = .next (qSet b n (qFlag b.keel.frc 1 { y with lastRead := v }))) ∧
  (∀ t n y p c r s, let b := advance t s
    qGet b n = some y → y.stopped = false → y.blocked = false → y.awaitDrop = false → qHead y = some p →
    (readable p).drop p.readN = c :: r → c.bad = false →
    let later := (r ++ ((y.pkts.drop 1).map (fun p => p.cells)).flatten).map (fun c => c.index)
    let v : ReadVal := { index := c.index, next := later.head?, first := p.released + p.readN == 0
                         last := r.isEmpty && p.closed && p.abort.isNone
                         bytes := c.data.length, seq := p.seq, st := 0, stale := false }
    (releasesAtRead b n y = true → exec (.cellRead t n false) s = .next (releaseCell n (qSet b n { y with lastRead := v }))) ∧
    (releasesAtRead b n y = false → exec (.cellRead t n false) s =
      .next (qSet b n { y with lastRead := v, pkts := { p with readN := p.readN + 1 } :: y.pkts.drop 1 }))) ∧
  (∀ t n y s, let b := advance t s
    qGet b n = some y → y.stopped = false → y.blocked = false → releasesAtRead b n y = true →
    exec (.dropRest t n false) s = .next (dropRestOp n b) ∧ exec (.dropRest t n true) s = .next (blockQueue n b)) ∧
  (∀ t n y s, let b := advance t s
    qGet b n = some y → y.blocked = true → y.endDue = none → (∀ p, p ∈ y.pkts → restored y (intactEntries n y [] b.qm) p = true) →
    let u := qSet b n (qFlag b.keel.frc 5 { y with blocked := false })
    exec (.queueRebuildDone t n []) s = .next (relinkStreams n (regrant n (noteDepth n y.blockDepth u)))) ∧
  (∀ n q s, q.blocked = false → let m := (qSet s n q).qm
    m.journal.filter (fun e => e.queue == n) = entriesOf n q ∧ m.mirror.filter (fun e => e.queue == n) = entriesOf n q ∧
    tget m.bankA n = some (bankOf q) ∧ tget m.bankB n = some (bankOf q) ∧ tget m.readPos n = some (readPosOf q)) ∧
  (∀ n q s, q.blocked = true → let m := (qSet s n q).qm
    m.journal = s.qm.journal ∧ m.mirror = s.qm.mirror ∧ tget m.bankA n = none ∧ tget m.bankB n = none) ∧
  (∀ t s, let b := advance t s
    b.qm.waiters = [] → exec (.freeListRebuildDone t) s = .next { b with qm := { b.qm with flBlocked := false } }) ∧
  (∀ t s, let b := advance t s
    inService b = true → b.qm.sampleAt + b.link.samplingUs * 1000 ≤ b.keel.frc → let hists := tmap b.qm.hists (fun _ r => sampleHist b r)
    exec (.histogramSample t) s = .next { b with qm := { b.qm with sampleAt := b.keel.frc, hists := hists } })

/-- The events of cores. One dispatch decision is made in the order of R95, with second runs in PISTE (R98). A run that
reports its pixels is predicted anew (R97), and a run whose output is whole goes on to its commit (R81). A core fault ends
the run and raises its source (R101, Table 4-6); so does the watchdog (R103), but not in the cycle in which the run commits. A
lane that passes its test brings its core back (R102), a core at 100 °C moves one clock step (R105), a restored core is no
longer slow (R107), and a power within 2 W of the cap resets the count of ticks under it (R106). A lookahead analysis is kept
with its cost, and a job whose slack has fallen to LA_GUARD leaves its wait (R151). -/
def Obligations.CoreEvents : Prop :=
  (∀ t mem s, let b := advance t s
    inService b = true → let u := (List.range 16).foldl (fun s c => flushDue c s) (streamsGoOn b)
    let v := firstRuns mem 16 (releaseWaiting (selftestRun 17 u))
    (v.eng = .piste → exec (.dispatchCycle ⟨t, mem⟩) s = .next ((List.range 16).foldl (fun s c => secondRun mem c s) v)) ∧
    (v.eng ≠ .piste → exec (.dispatchCycle ⟨t, mem⟩) s = .next v)) ∧
  (∀ t c px r s, let b := advance t s; let k := coreGet b c
    c < 16 → k.run = some r → r.lastRep + 4000 ≤ b.keel.frc → r.done ≤ px →
    let rate := (px - r.done) * 1000000000 / (b.keel.frc - r.lastRep)
    let r2 := { r with done := px, reported := true, lastRep := b.keel.frc, rate := rate, estDone := px, estAt := b.keel.frc
                       fin := b.keel.frc + pixelNs (r.pixels - px) rate }
    exec (.progressReport t c px) s = .next (flushDue c (coreSet b c { k with run := some r2 }))) ∧
  (∀ t c rep run x j s, let b := advance t s
    c < 16 → (coreGet b c).run = some run → stGet b run.stream = some x → jobGet x run.job = some j →
    rivalFirst b c run = false → commitStalls b x = false → outputWhole b x run c = true →
    (∀ q, x.kind = .encode → outQueue x = some q → exec (.runCommit t c rep) s = .next (endEncode run.stream c q rep b)) ∧
    (x.kind = .decode → runDamage (jobView x j) j run rep = 0 →
      exec (.runCommit t c rep) s = .next (commitDecode run.stream c x j run rep b)) ∧
    (x.kind = .decode → runDamage (jobView x j) j run rep ≠ 0 →
      exec (.runCommit t c rep) s = .next (damageRun run.stream c x j run rep (runDamage (jobView x j) j run rep) b)) ∧
    (x.kind = .texture → exec (.runCommit t c rep) s = .next (commitTexture run.stream c x j run rep b))) ∧
  (∀ n core x j run r q y ch s, (coreGet s core).run = some run → stGet s n = some x → qGet s q = some y →
    jobGet x run.job = some j → chainOf y run.job core = some ch → run.cache = [] → ch.done = true →
    let run2 := { run with freed := true }; let u := coreSet s core { coreGet s core with run := some run2 }
    contentOk u x j r ch.data = true → passesCap u x j run2 ch.data.length = false →
    endEncode n core q r s = commitEncode n core x j run2 r q ch.data u) ∧
  (∀ t c lane s, let b := advance t s
    c < 16 → lane < 6 →
    ((coreGet b c).st ≠ .offline → let u := faultRun c b
      exec (.coreFault t c 0 lane) s = .next (coreSet u c { coreGet u c with st := .testing })) ∧
    exec (.coreFault t c 1 lane) s = .next (raise (0x043 + 8 * c) 1 (addrCore c 15) false (faultRun c b)) ∧
    exec (.coreFault t c 3 lane) s = .next (raise (0x042 + 8 * c) 1 (addrCore c 15) false b) ∧
    exec (.coreFault t c 4 lane) s = .next (raise 0x0C3 1 0 false b)) ∧
  (∀ t c r s, let b := advance t s
    c < 16 → (coreGet b c).run = some r → r.start + max (4 * r.firstDur) 50000000 ≤ b.keel.frc →
    (commitDue b c = false →
      exec (.runWatchdogExpiry t c) s = .next (raise (0x044 + 8 * c) 1 (addrCore c 15) false (faultRun c b))) ∧
    (commitDue b c = true → exec (.runWatchdogExpiry t c) s = .next b ∧ faultRun c b = b)) ∧
  (∀ t c lane s, let b := advance t s
    c < 16 → lane < 4 → (coreGet b c).st = .testing →
    exec (.laneTestDone t c lane true) s = .next (coreBack c (raise (0x040 + 8 * c) (1 + 2 * lane) (addrCore c lane) false b))) ∧
  (∀ t c temp s, let b := advance t s; let u := settle c b; let k := coreGet u c
    c < 16 → b.eng = .piste → k.hot = false → k.step < 2 → 100 ≤ temp → temp < 104 → k.peak = none →
    let k2 := { k with temp := some temp, peak := some temp, coolSince := none }
    exec (.thermalEvaluation t c temp) s = .next (moveStep c (k.step + 1) 1 k2 u)) ∧
  (∀ t c rate decode s, let b := advance t s; let k := coreGet b c
    c < 16 → inService b = true → k.st ≠ .offline → scaleRate b c (if decode = true then 2000000000 else 1000000000) ≤ 2 * rate →
    k.slow = false →
    exec (.slowCoreCheck t c ⟨rate, decode⟩) s = .next (coreSet b c { k with okSince := none })) ∧
  (∀ t onDie covered s, let b := advance t s
    b.eng = .piste → b.board.telem = [] → onDie ≤ b.arr.capMw → b.arr.capMw < onDie + 2000 →
    exec (.powerCapTick t onDie covered []) s =
      .next { b with board := { b.board with readSum := [], estSum := [], corrNum := 1, corrDen := 1 }
                     arr := { b.arr with estMw := some onDie, under := 0 } }) ∧
  (∀ t n pic cost x s, let b := advance t s
    stGet b n = some x → x.kind = .encode → fnat x.f 0x610E 0 ≠ 0 → stHeight x ≤ tgetD x.recon pic 0 →
    let done := tput (x.enc.laDone.filter (fun e => decide ((pic + 2 ^ 32 - e.1) % 2 ^ 32 < 64))) pic cost
    exec (.lookaheadAnalysisDone t n pic cost) s = .next (releaseWaiting (stSet b n { x with enc := { x.enc with laDone := done } }))) ∧
  (∀ t n job x j k s, let b := advance t s
    stGet b n = some x → jobGet x job = some j → j.st = .waiting → j.laWait = true → laReady x j = false →
    j.deadline.bind (slackOf b (jobFl x j)) = some k → k ≤ Int.ofNat (fnat (jobView x j).f 0x610F 64 * 65536) →
    exec (.laGuardRelease t n job) s = .next (releaseWaiting (stCount n ctrLaRel 1 (setJob n job (fun j => { j with laWait := false }) b))))

/-- The events of decode streams. The intake handles the packet at the head of SLICE_QUEUE: one that its writer has not marked is
taken by the rules of R160 and R161 (`intakePkt`). The band that is due at its deadline without a commit is concealed for
display and the expectation moves on (R163, R164), a host that has not decided being a HOST_MISS (R173); a job LATE_LIMIT lines
after its deadline is damaged (R166). The concealment unit ends an area after 1 ns per 8 pixels and takes the next (R170).
Pending recovery requests are announced again every RECOVERY_REPEAT, and never with 0 (R176); a RECOVER message for an encode
stream acts as STREAM.RECOVER (R177). -/
def Obligations.DecodeEvents : Prop :=
  (∀ t n refs x u p r s, let b := advance t s
    stGet b n = some x → x.kind = .decode → fromHost x = false → x.stopped = false → inService b = true →
    headWhole (fnat x.f 0x7208 0) b = (u, some p) → p.abort = none → inRec p = some r →
    exec (.sliceIntake t n 0 refs) s = .next (intakePkt n (fnat x.f 0x7208 0) x p r refs (stSet u n x))) ∧
  (∀ t n x s, let b := advance t s
    stGet b n = some x → x.kind = .decode → x.dec.running = true → x.stopped = false → expectedJob x = none →
    reached b (expectedDue b x).1 (expectedDue b x).2 0 = true → let a := expectedArea b x
    let u := if concealMode b x = 3 then hostMiss x.owner (stCount n ctrHostMiss 1 b) else b
    exec (.displayConcealment t n) s = .next (takeArea (stMod n (fun x =>
      let y := expectAfter x a.picture a.slice a.first a.count (decide (stHeight x ≤ a.first + a.count))
      { y with dec := { y.dec with areas := y.dec.areas ++ [a], nextDmg := a.id + 1, concealed := y.dec.concealed ++ [(a.picture, a.slice)] } })
      (stCount n ctrConcealed 1 u)))) ∧
  (∀ t n x j s, let b := advance t s
    stGet b n = some x → x.kind = .decode → lateJob b n x = some j →
    let u := setJob n j.seq (fun j => { j with st := .waiting, damage := 6 }) (stopJobRuns n j.seq b)
    exec (.lateLimitExpiry t n) s = .next (damage n 6 j.picture j.slice j.first j.count (some j)
      (stMod n (fun x => { x with dec := { x.dec with gaveUp := x.dec.gaveUp ++ [(j.picture, j.slice)] } }) u))) ∧
  (∀ t n x a since s, let b := takeArea (advance t s)
    concealNow b = some (n, a, since) → stGet b n = some x → since + (stWidth x * a.count + 7) / 8 ≤ b.keel.frc →
    exec (.concealmentDone t n) s = .next (takeArea (concealArea n x a { b with arr := { b.arr with concealing := none } }))) ∧
  (∀ t n x s, let b := advance t s
    stGet b n = some x → x.kind = .decode →
    (fnat x.f 0x721D 50 = 0 → exec (.recoveryRepeat t n) s = .next b) ∧
    (fnat x.f 0x721D 50 ≠ 0 → let due (r : RecReq) : Bool := decide (r.sentAt + fnat x.f 0x721D 50 * 1000000 ≤ b.keel.frc)
      exec (.recoveryRepeat t n) s = .next (stMod n (fun x => { x with dec := { x.dec with
        reqs := x.dec.reqs.map (fun r => if due r then { r with sentAt := b.keel.frc } else r) } })
        ((x.dec.reqs.filter due).foldl (fun s r => announce n r true s) b)))) ∧
  (∀ t q u p n pic x s, let b := advance t s
    b.arr.recoverQ = some q → inService b = true → headWhole q b = (u, some p) → p.abort = none →
    parseRecover ((p.cells.map (fun c => c.data)).flatten) = some (n, pic) → stGet (popHead q u) n = some x →
    (x.kind = .encode → exec (.recoverMessageRx t q) s = .next (recoverEncode n pic (popHead q u))) ∧
    (x.kind ≠ .encode → exec (.recoverMessageRx t q) s =
      .next { popHead q u with arr := { (popHead q u).arr with recoverDrops := (popHead q u).arr.recoverDrops + 1 } }))

/-- The events of a bus port. At bus idle it contends with its first candidate: a lower field of another contender wins and
counts ARB_LOST, else its frame goes out (R234), driven as the stuffed header with HCRC and either the phase-switch bit or
payload, tag and check value (R211, R237), in which no six equal bits follow each other. A frame with a good header is received
(R244), or skipped and counted where the port cannot follow its data phase (R220). CREDIT with the OPEN_ID reaches its flow
(R259); FLOW_OPEN sets the pair's entry and is answered (R249), repeated each 1 ms; CREDIT is refreshed (R258). Timers: the wait
after a NAK (R328), DEDUP_AGE of an entry and of a head frame (R248), OPEN_TIMEOUT (R253), HOST_TIME (R265). A port integrates,
is disabled at idle, recovers from BUS_OFF or counts on towards it (R284, R285), is cut off (R288, R290), and counts quiet FORM
errors and a held line (R289, R290). A level k ends after 1 s outside BUS_OFF (R285). 4 us dominant wake (R223). -/
def Obligations.BusEvents : Prop :=
  (∀ t p others r tdc loop c s, let b := takeAhead p (advance t s); let v := portGet b p
    portLive b v = true → v.closing = false → v.wakeReq = false → (v.passiveWait = false ∨ others = []) →
    let u := prepPort p (setPort b p { v with passiveWait := false })
    bestCand (candidates u p) = some c →
    (others.any (fun o => decide (o < arbField c)) = true →
      exec (.arbitrationAttempt t p others ⟨r, tdc, loop⟩) s = .next (portCount p 4 1 (contendLate p c u))) ∧
    (others.any (fun o => decide (o < arbField c)) = false →
      exec (.arbitrationAttempt t p others ⟨r, tdc, loop⟩) s = .next (winFrame p tdc loop c r (contendLate p c u)))) ∧
  (∀ t p f s, let b := advance t s; let v := portGet b p
    portLive b v = true → v.integratedAt + f.sofNs ≤ b.keel.frc → f.hcrcOk = true → let quiet := setPort b p { v with lastAnswer := 0 }
    ((f.fdf = false ∨ dataCapable quiet (portGet quiet p) = true) → exec (.frameReceive t p f none) s = .next (receiveFrame p f b)) ∧
    (f.fdf = true → dataCapable quiet (portGet quiet p) = false → exec (.frameReceive t p f none) s = .next (portCount p 50 1 quiet))) ∧
  (∀ t p src flow openId total f s, let b := advance t s; let v := portGet b p
    portLive b v = true → tget v.tx flow = some f → f.openId = openId → (flowDests f).contains src = true → v.mbs = [] →
    exec (.creditRx t p src flow openId total) s =
      .next (setPort b p { v with tx := tput v.tx flow (takeCredit src (total % 2 ^ 32) f) })) ∧
  (∀ t p src flow seq openId auth s, let b := advance t s; let v := portGet b p
    portLive b v = true → (∀ f, tget v.rx flow = some f → fnat f.f 0xA913 0 = 1 → auth = true) → v.dedup.length < 262144 →
    exec (.flowOpenRx t p src flow seq openId auth) s = .next (reopenRx p src flow openId
      (dedupPut p { src := src, flow := flow, last := (seq + 65535) % 65536, frc := b.keel.frc } b))) ∧
  (∀ t p flow f s, let b := advance t s; let v := portGet b p
    v.mbs = [] → tget v.tx flow = some f → f.opening = true → f.openSent + 1000000 ≤ b.keel.frc →
    exec (.flowOpenRepeat t p flow) s = .next (sendOpens p flow (txMod p flow (fun f => { f with openSent := b.keel.frc }) b))) ∧
  (∀ t p flow f s, let b := advance t s; let v := portGet b p
    tget v.rx flow = some f → f.stopped = false → f.refreshAt + fnat v.f 0xAC0A 10 * 1000000 ≤ b.keel.frc →
    let u := sweepFlow p flow (setPort b p { v with rx := tput v.rx flow { f with refreshAt := b.keel.frc } })
    exec (.creditRefresh t p flow) s =
      .next (((f.credits.filter (fun e => e.2.openId.isSome)).map (fun e => e.1)).foldl (fun s n => sendCredit p flow n s) u)) ∧
  (∀ t p flow f e s, let b := advance t s; let v := portGet b p
    tget v.tx flow = some f → f.holdoff = some e → e ≤ b.keel.frc →
    exec (.holdoffExpiry t p flow) s = .next (setPort b p { v with tx := tput v.tx flow { f with holdoff := none } })) ∧
  (∀ t p src flow s, let b := advance t s; let v := portGet b p
    arrives b p src flow = false →
    let kept := v.dedup.filter (fun d => decide (d.src ≠ src ∨ d.flow ≠ flow ∨ b.keel.frc < d.frc + fnat v.f 0xAC07 60 * 1000000000))
    exec (.dedupAgeExpiry t p src flow) s = .next (setPort b p { v with dedup := kept })) ∧
  (∀ t p flow f h x s, let b := advance t s; let v := portGet b p
    v.mbs = [] → tget v.tx flow = some f → f.stalled = none → f.head = some h → h.firstSent = some x →
    x + fnat v.f 0xAC07 60 * 1000000000 ≤ b.keel.frc →
    exec (.headFrameAged t p flow) s = .next (stallFlow p flow 0x11 b)) ∧
  (∀ t p flow f o s, let b := advance t s; let v := portGet b p
    tget v.rx flow = some f → f.openSrc = some o → arrives b p o flow = false → f.openFrc + fnat v.f 0xAC0B 10 * 1000000 ≤ b.keel.frc →
    exec (.openTimeoutExpiry t p flow) s = .next (setOpen p flow none (abandonOpen p flow true b))) ∧
  (∀ t p flow f q x tau s, let b := advance t s; let v := portGet b p
    tget v.tx flow = some f → launchMode f = 2 → f.released = false → qGet b (flowQueue f) = some q → qHead q = some x →
    x.launch = some tau → tau ≤ activeNow b → activeNow b < tau + 65536 →
    exec (.hostTimeLaunch t p flow) s = .next (setPort b p { v with tx := tput v.tx flow { f with released := true } })) ∧
  (∀ t p s, let b := advance t s; let v := portGet b p
    inService b = true → v.enabled = true → v.conf ≠ .busOff → v.conf ≠ .stuckOff →
    exec (.integrationDone t p) s =
      .next (setPort b p { v with integrated := true, integratedAt := if v.integrated then v.integratedAt else b.keel.frc })) ∧
  (∀ t p s, let b := advance t s; let v := portGet b p
    v.closing = true → v.wireEnd ≤ b.keel.frc → exec (.portDisableAtIdle t p) s =
      .next (setPort b p { v with enabled := false, closing := false, integrated := false, wakeReq := false })) ∧
  (∀ t p n s, let b := advance t s; let v := portGet b p
    v.conf = .busOff → v.rcv.counting = true →
    (v.rcv.need ≤ n → exec (.busoffRecoveryDone t p n) s = .next (recoverPort p (!v.rcv.byCmd && !(recoverAsked b p)) b)) ∧
    (n < v.rcv.need → exec (.busoffRecoveryDone t p n) s =
      .next (setPort b p { v with rcv := { v.rcv with counted := max v.rcv.counted n } }))) ∧
  (∀ t p s, let b := advance t s; let v := portGet b p
    inService b = true → v.enabled = true → v.conf ≠ .stuckOff →
    let u := portCount p 47 1 (setPort b p { v with conf := .stuckOff, cutoff := true, rcv := {}, passiveWait := false })
    let stop (n : Nat) := stateEvent p v.conf (raise (portBase p + n) 1 (addrPort (portNum p)) false u)
    exec (.stuckDominantCutoff t p) s = .next (stop 3) ∧ exec (.dataDriverRunaway t p true) s = .next (stop 5)) ∧
  (∀ t p s, let b := advance t s; let v := portGet b p
    portLive b v = true → v.lineHeld = false → v.insertEnd = none →
    let u := setErrors p v.tec (min 127 (v.rec_ + 1)) (portCount p 38 1 b)
    exec (.dataDriverRunaway t p false) s = .next u ∧
    exec (.lineHeldDominant t p) s = .next (raise (portBase p + 4) 1 (addrPort (portNum p)) true
      (portCount p 48 1 (setPort u p { portGet u p with lineHeld := true })))) ∧
  (∀ t p s, let b := advance t s; let v := portGet b p
    v.lineHeld = true → exec (.lineIdleAfterHold t p) s = .next (endCond (portBase p + 4) (setPort b p { v with lineHeld := false }))) ∧
  (∀ t p s, let b := advance t s; let v := portGet b p
    v.conf ≠ .busOff → v.outSince + 1000000000 ≤ b.keel.frc →
    exec (.holdOffLevelReset t p) s = .next (setPort b p { v with k := 0 })) ∧
  (∀ t p ns s, let b := advance t s
    b.keel.powered = true → (b.resetN = true ∨ b.eng = .startHut ∨ b.eng = .halted) → 4000 ≤ ns →
    exec (.busWakeDetect t p ns) s = .next { b with keel := { b.keel with
      busWake := true, wakeA := b.keel.wakeA || p == .oa, wakeB := b.keel.wakeB || p == .ob } }) ∧
  (∀ p loop f s, (portGet s p).lastTx = some f →
    let v := portGet (driveFrame p loop s) p; let tag := tagBytes s p f
    (f.fdf = true → v.sent.arb = stuffFrom 0 true (headerBits f) ++ [false] ∧ v.sent.data = dataSymbols f tag) ∧
    (f.fdf = false → v.sent.arb = stuffFrom 0 true (headerBits f ++ byteBits (f.payload ++ tag ++ checkBytes f tag)) ∧
      v.sent.data = [])) ∧
  (∀ l i x, ¬(∀ k, k < 6 → (stuffFrom 0 true l)[i + k]? = some x))

/-- The events of segments. A heartbeat is sent each 1 ms; one heard under the port's own NODE_ID is a duplicate (R297), and
one of a member renews it (R303). A silent primary of the port followed switches the following (R307). An anchor's partner
silent for 3 ms is ANCHOR_LINK for the primary and starts the secondary's wait (R308); at its end the secondary takes over, or
under FAILOVER HOST says that it is due, or, with the primary followed by a member, waits on (R309). A member without a
heartbeat for 3 ms goes (R303). The root issues what is asked for (R315), a global operation is taken, and acts when its
time comes (R317); a request without issue ends with E_TIMEOUT. A barrier counts a report, and its root releases it at the
deadline (R318). A node's ENROLL_REPLY is taken or refused (R367), and an exchange that waits 100 ms is started again while
its node is a member, up to 4 times, and then given up with 0x016 (R366). -/
def Obligations.TreeEvents : Prop :=
  (∀ t p x s, let b := advance t s; let v := portGet b p
    portLive b v = true → v.hbAt = some x → x + 950000 ≤ b.keel.frc →
    exec (.heartbeatTx t p) s =
      .next (queueCtl p 1 1 2 0 false (hbPayload b v) (setPort b p { v with hbSeq := v.hbSeq + 1, hbAt := some b.keel.frc }))) ∧
  (∀ t p hb s, let b := advance t s; let v := portGet b p
    portLive b v = true → hb.src = nodeOf p v → v.hbSeq ≤ hb.hbSeq →
    exec (.heartbeatRx t p hb) s = .next (anchorEvent p 6 (raise 0x308 1 (addrPort (portNum p)) false b))) ∧
  (∀ t p hb m s, let b := advance t s; let v := portGet b p
    portLive b v = true → hb.src ≠ nodeOf p v → anchorRole v = 0 → bitOf hb.flags 0 = false → p ≠ followPort b →
    tget v.members hb.src = some m → within3ms b (some m.frc) = true →
    let m2 : Member := { flags := hb.flags, follows := hb.follows, state := hb.state, frc := b.keel.frc }
    exec (.heartbeatRx t p hb) s = .next (setPort b p { v with members := tput v.members hb.src m2 })) ∧
  (∀ t p s, let b := advance t s
    p = followPort b → inService b = true → (beats b p (fun hb => bitOf hb.flags 0 && !(bitOf hb.flags 1))) = false →
    exec (.primarySilentSwitch t p) s = .next (autoFollow b)) ∧
  (∀ t p s, let b := advance t s; let v := portGet b p
    v.anchor.silent = false → within3ms b v.anchor.heardFrc = false → partnerBeats b p = false → inService b = true →
    let u := setPort b p { v with anchor := { v.anchor with silent := true, primRun := 0 } }
    (anchorRole v = 1 → exec (.partnerSilent t p) s = .next (setLink p u)) ∧
    (anchorRole v = 2 → v.anchor.acting = false → exec (.partnerSilent t p) s = .next (setPort b p
      { v with anchor := { v.anchor with silent := true, primRun := 0, checkAt := some (b.keel.frc + 2000000) } }))) ∧
  (∀ t p x s, let b := advance t s; let v := portGet b p
    anchorRole v = 2 → v.anchor.silent = true → v.anchor.acting = false → v.anchor.checkAt = some x → x ≤ b.keel.frc →
    partnerBeats b p = false →
    let followed := v.members.any (fun e => within3ms b (some e.2.frc) && bitOf e.2.flags 2 && some e.2.follows == partnerOf v)
    (followed = false → fnat v.anchor.f 0xC404 0 = 0 → exec (.anchorTakeoverCheck t p) s = .next (takeOver p b)) ∧
    (followed = false → fnat v.anchor.f 0xC404 0 = 1 → exec (.anchorTakeoverCheck t p) s =
      .next (anchorEvent p 5 (hostMiss 0 (setPort b p { v with anchor := { v.anchor with link := true, checkAt := none } })))) ∧
    (followed = true → exec (.anchorTakeoverCheck t p) s =
      .next (anchorMod p (fun a => { a with checkAt := some (b.keel.frc + 1000000) }) (setLink p b)))) ∧
  (∀ t p node m s, let b := advance t s; let v := portGet b p
    tget v.members node = some m → m.frc + 3000000 ≤ b.keel.frc → b.bus.barriers = [] → tget v.enrolls node = none →
    (beats b p (fun hb => hb.src == node)) = false →
    exec (.memberHeartbeatAgeOut t p node) s = .next (setPort b p { v with members := tdel v.members node })) ∧
  (∀ t p op r s, let b := advance t s
    portLive b (portGet b p) = true → (op.reqType = 0x19 ∨ op.reqType = 0x1D ∨ op.reqType = 0x1E) → rootPort b = some r →
    b.bus.ops.length < 16 → exec (.gopRequestRx t p op) s = .next (issueOp r op.reqType op.arg false false b).2) ∧
  (∀ t p op s, let b := advance t s
    portLive b (portGet b p) = true → exec (.globalOpRx t p op) s = .next (takeOp p op (answerIssue op b))) ∧
  (∀ t src id x s, let b := advance t s
    b.bus.ops.find? (fun x => x.op.src == src && x.op.opId == id) = some x →
    Int.ofNat x.op.execNs * 65536 ≤ domNow b x.op.dom → domNow b x.op.dom < Int.ofNat x.op.execNs * 65536 + 65536 →
    exec (.globalOpExecute t src id) s = .next (actOp x.op { b with bus := { b.bus with ops := b.bus.ops.erase x } })) ∧
  (∀ t tag h msg arg due s, let b := advance t s
    tget b.bus.issues tag = some (h, msg, arg, due) → due ≤ b.keel.frc →
    exec (.globalIssueTimeout t tag) s =
      .next (endLongs (fun _ l => l == .globalIssue tag) .timeout [] { b with bus := { b.bus with issues := tdel b.bus.issues tag } })) ∧
  (∀ t p src id part x s, let b := advance t s
    tget b.bus.barriers id = some x → x.expect.contains (p, src) = true → portLive b (portGet b p) = true →
    let left := x.expect.filter (· != (p, src))
    exec (.barrierReportRx t p src id part) s =
      .next (settleBarrier id (barrierPut id { x with expect := left, partial_ := x.partial_ || part } b))) ∧
  (∀ t id x p s, let b := advance t s
    tget b.bus.barriers id = some x → rootPort b = some p → x.root = true → x.deadline ≤ b.keel.frc →
    exec (.barrierTimeout t id) s = .next (issueOp p 0x1C id x.partial_ true (barrierPut id { x with root := false } b)).2) ∧
  (∀ t p r e s, let b := advance t s; let v := portGet b p
    inService b = true → b.trust.pcbOk = true → isAuthority p v = true → r.msg = 0x31 → tget v.enrolls r.src = some e →
    e.exchange = r.exchange → e.stage = 1 →
    (refusal b v r = none → exec (.enrollRecordRx t p r) s = .next (takeReply p e r b)) ∧
    (∀ n, refusal b v r = some n → exec (.enrollRecordRx t p r) s = .next (refuseNode p r.src r.exchange n b))) ∧
  (∀ t p node e s, let b := advance t s; let v := portGet b p
    tget v.enrolls node = some e → e.since + 100000000 ≤ b.keel.frc →
    (e.stage < 11 → isMember b v node = true → e.tries < 4 →
      exec (.enrollTimeout t p node) s = .next (startEnroll p node (e.tries + 1) b)) ∧
    (e.stage < 11 → (isMember b v node = false ∨ 4 ≤ e.tries) →
      exec (.enrollTimeout t p node) s = .next (raise 0x016 1 0 false (dropExchange p node b))))

/-- The events of the fault collector and of the dual-rail pairs. A message raises its source, with what its block loses by
it, and END ends the condition that has its ADDRESS and no other (R408, R412); of two messages of one cycle and severity the
lower source is raised first whichever is named first (R420). Without a verdict in time the raises' own reactions are carried
out, 0x3FE is raised and the PF has a HOST_MISS (R415). A cycle takes 4 records of the intake into the log (R417). A pair
at OK ends FAULT and BROKEN, at FAULT ends BROKEN and raises FAULT once, and equal levels raise BROKEN (R426); FLT that
differs from its balls raises 0x3C8 until they agree (R427). -/
def Obligations.CollectorEvents : Prop :=
  (∀ t m s, let b := advance t s
    m.source < 1024 → srcListed m.source = true → 1 ≤ m.kind → m.kind < 128 →
    (m.kind ≠ 0x7F → exec (.faultMessage t [m]) s = .next (raise m.source m.kind m.address m.held (queueFault m (integrityLoss [m] b)))) ∧
    (m.kind = 0x7F → (srcGet b m.source).address = m.address → exec (.faultMessage t [m]) s = .next (endCond m.source b)) ∧
    (m.kind = 0x7F → (srcGet b m.source).address ≠ m.address → exec (.faultMessage t [m]) s = .next b)) ∧
  (∀ t x y s, let b := integrityLoss [x, y] (advance t s)
    x.source < y.source → y.source < 1024 → srcListed x.source = true → srcListed y.source = true →
    1 ≤ x.kind → x.kind < 127 → 1 ≤ y.kind → y.kind < 127 → sevNow b x.source = sevNow b y.source →
    let first := raise x.source x.kind x.address x.held (queueFault x b)
    let lower := raise y.source y.kind y.address y.held (queueFault y first)
    exec (.faultMessage t [x, y]) s = .next lower ∧ exec (.faultMessage t [y, x]) s = .next lower) ∧
  (∀ t src v s, let b := advance t s
    src < 1024 → (srcGet b src).verdict = some v → v.deadline ≤ b.keel.frc → verdictComes b v = false →
    exec (.faultVerdictTimeout t src) s = .next (raise 0x3FE 1 0 false (hostMiss 0 (decideVerdict src none b)))) ∧
  (∀ t s, let b := advance t s
    b.fc.cycFrc ≠ b.keel.frc →
    exec (.logIntakeDrain t) s = .next { b with fc := { b.fc with
      cycFrc := b.keel.frc, cycN := min 4 b.fc.intake.length, intake := b.fc.intake.drop 4,
      log := (b.fc.intake.take 4).foldl (fun t r => tput t (r.logIndex % 64) r) b.fc.log } }) ∧
  (∀ t n s, let b := advance t s
    n < 4 → xfSensed b n = true → let u (l : PairSt) : State := { b with board := { b.board with xf := tput b.board.xf n l } }
    exec (.xfPairChange t n true false) s = .next (endCond (0x3C0 + n) (endCond (0x3C4 + n) (u .ok))) ∧
    ((srcGet (endCond (0x3C4 + n) (u .fault)) (0x3C0 + n)).live = false →
      exec (.xfPairChange t n false true) s = .next (raise (0x3C0 + n) 1 (addrPair n) true (endCond (0x3C4 + n) (u .fault)))) ∧
    (tget b.board.xf n ≠ some .broken →
      exec (.xfBrokenExpiry t n) s = .next (raise (0x3C4 + n) 1 (addrPair n) true (u .broken)))) ∧
  (∀ t s, let b := advance t s; let u (m : Bool) : State := { b with board := { b.board with fltMismatch := m } }
    ((fltPair b).isSome = true → b.board.fltMismatch = false →
      exec (.fltReadbackMismatch t) s = .next (raise 0x3C8 1 (addrPair 4) true (u true))) ∧
    (b.board.fltMismatch = true → exec (.fltReadbackRestored t) s = .next (endCond 0x3C8 (u false))))
end

