-- ==== Sys2Proof/Laws/Bytes.lean ====
section
/-! SUPPORT. Bytes and check values: what the byte order of R7 and the running value of R340 can be. -/

namespace Sys2Proof.Machine

@[simp] theorem leBytes_length (w v : Nat) : (leBytes w v).length = w := by
  induction w generalizing v with
  | zero => rfl
  | succ w ih => simp [leBytes, ih]

/-- Bytes in the order of R7 spell their number again. -/
theorem leNat_leBytes (w v : Nat) : leNat (leBytes w v) = v % 256 ^ w := by
  induction w generalizing v with
  | zero => simp [leBytes, leNat, Nat.mod_one]
  | succ w ih => simp [leBytes, leNat, ih, Nat.pow_succ', Nat.mod_mul]

/-- A number that ends an entry is read where it stands. -/
theorem leAt_append_leBytes (l : List Byte) (w v : Nat) (h : v < 256 ^ w) : leAt (l ++ leBytes w v) l.length w = v := by
  simp [leAt, leNat_leBytes, Nat.mod_eq_of_lt h, List.take_of_length_le]

@[simp] theorem padTo_length (n : Nat) (l : List Byte) : (padTo n l).length = n := by
  simp [padTo]; omega

/-- The running value keeps within the width of its polynomial (R340). -/
theorem crcBit_lt (p : CrcParams) (v : Nat) (b : Bool) (h : p.poly < 2 ^ p.width) : crcBit p v b < 2 ^ p.width := by
  have h0 : v * 2 % 2 ^ p.width < 2 ^ p.width := Nat.mod_lt _ (Nat.two_pow_pos _)
  unfold crcBit
  split
  · exact Nat.xor_lt_two_pow h0 h
  · exact h0

theorem crcByte_lt (p : CrcParams) (n v : Nat) (b : Byte) (h : p.poly < 2 ^ p.width) (hv : v < 2 ^ p.width) :
    crcByte p n v b < 2 ^ p.width := by
  unfold crcByte
  generalize List.range n = l
  induction l generalizing v with
  | nil => exact hv
  | cons i l ih => exact ih _ (crcBit_lt p v _ h)

theorem crcFeed_lt (p : CrcParams) (k v : Nat) (l : List Byte) (h : p.poly < 2 ^ p.width) (hv : v < 2 ^ p.width) :
    crcFeed p k v l < 2 ^ p.width := by
  fun_induction crcFeed p k v l with
  | case1 => exact hv
  | case2 v b => exact crcByte_lt p _ v b h hv
  | case3 v b r _ ih => exact ih (crcByte_lt p 8 v b h hv)

end Sys2Proof.Machine
end

