-- ==== Sys2Proof/Laws/Tables.lean ====
section
/-! SUPPORT. The laws of tables: a read after a write, keys that other writes leave alone, and the canonical form. -/

namespace Sys2Proof.Machine

variable {α : Type}

@[simp] theorem tget_tput (t : Tbl α) (n : Nat) (v : α) : tget (tput t n v) n = some v := by
  induction t with
  | nil => simp [tput, tget]
  | cons e r ih =>
    obtain ⟨k, w⟩ := e
    simp only [tput]
    split
    · simp [tget]
    · split
      · simp [tget]
      · simp [tget, ih]; omega

theorem tget_tput_other (t : Tbl α) (n m : Nat) (v : α) (h : m ≠ n) : tget (tput t n v) m = tget t m := by
  induction t with
  | nil => simp [tput, tget, Ne.symm h]
  | cons e r ih =>
    obtain ⟨k, w⟩ := e
    simp only [tput]
    split
    · simp [tget, Ne.symm h]
    · split
      · rename_i hk; subst hk; simp [tget, Ne.symm h]
      · simp [tget, ih]

theorem tget_tdel (t : Tbl α) (n : Nat) : tget (tdel t n) n = none := by
  induction t with
  | nil => rfl
  | cons e r ih =>
    obtain ⟨k, w⟩ := e
    by_cases hk : k = n <;> simp_all [tdel, tget]

theorem tget_tdel_other (t : Tbl α) (n m : Nat) (h : m ≠ n) : tget (tdel t n) m = tget t m := by
  induction t with
  | nil => rfl
  | cons e r ih =>
    obtain ⟨k, w⟩ := e
    by_cases hk : k = n
    · subst hk; simp_all [tdel, tget, Ne.symm h]
    · simp_all [tdel, tget]

@[simp] theorem tgetD_tput (t : Tbl α) (n : Nat) (v d : α) : tgetD (tput t n v) n d = v := by simp [tgetD]

/-- The first key of a table written to is the old one or the new. -/
theorem tput_head (t : Tbl α) (n : Nat) (v : α) :
    ∃ k w r, tput t n v = (k, w) :: r ∧ (k = n ∨ ∃ w' r', t = (k, w') :: r') := by
  cases t with
  | nil => exact ⟨n, v, [], rfl, .inl rfl⟩
  | cons e r =>
    obtain ⟨k, w⟩ := e
    simp only [tput]
    split
    · exact ⟨n, v, _, rfl, .inl rfl⟩
    · split
      · exact ⟨n, v, _, rfl, .inl rfl⟩
      · exact ⟨k, w, _, rfl, .inr ⟨w, r, rfl⟩⟩

/-- A write keeps the canonical form. -/
theorem tput_wf (t : Tbl α) (n : Nat) (v : α) (h : t.wf = true) : (tput t n v).wf = true := by
  induction t with
  | nil => rfl
  | cons e r ih =>
    obtain ⟨k, w⟩ := e
    simp only [tput]
    split
    · rename_i hk; simp [Tbl.wf, hk, h]
    · split
      · rename_i hk; subst hk
        cases r with
        | nil => rfl
        | cons f r => obtain ⟨k', w'⟩ := f; simpa [Tbl.wf] using h
      · have hr : Tbl.wf r = true := by
          cases r with
          | nil => rfl
          | cons f r => obtain ⟨k', w'⟩ := f; simp [Tbl.wf] at h; exact h.2
        have ih' := ih hr
        obtain ⟨k1, w1, r1, he, hc⟩ := tput_head r n v
        rw [he] at ih' ⊢
        have hlt : k < k1 := by
          rcases hc with rfl | ⟨w2, r2, rfl⟩
          · omega
          · simp [Tbl.wf] at h; exact h.1
        simp [Tbl.wf, hlt, ih']

end Sys2Proof.Machine
end

