-- ==== Sys2Proof/Laws/State.lean ====
section
/-! SUPPORT. What the shared operations leave alone: one lemma per field of State and operation. -/

namespace Sys2Proof.Machine

@[simp] theorem setFl_pending (s : State) (n : Nat) (f : FallLine) : (setFl s n f).pending = s.pending := rfl
@[simp] theorem setFl_eng (s : State) (n : Nat) (f : FallLine) : (setFl s n f).eng = s.eng := rfl
@[simp] theorem setFl_resetN (s : State) (n : Nat) (f : FallLine) : (setFl s n f).resetN = s.resetN := rfl
@[simp] theorem setFl_warm (s : State) (n : Nat) (f : FallLine) : (setFl s n f).warm = s.warm := rfl
@[simp] theorem setFl_pisteOnce (s : State) (n : Nat) (f : FallLine) : (setFl s n f).pisteOnce = s.pisteOnce := rfl
@[simp] theorem setFl_keelHalt (s : State) (n : Nat) (f : FallLine) : (setFl s n f).keelHalt = s.keelHalt := rfl
@[simp] theorem setFl_free (s : State) (n : Nat) (f : FallLine) : (setFl s n f).free = s.free := rfl
@[simp] theorem setFl_keel (s : State) (n : Nat) (f : FallLine) : (setFl s n f).keel = s.keel := rfl
@[simp] theorem setFl_qm (s : State) (n : Nat) (f : FallLine) : (setFl s n f).qm = s.qm := rfl
@[simp] theorem setFl_arr (s : State) (n : Nat) (f : FallLine) : (setFl s n f).arr = s.arr := rfl
@[simp] theorem setFl_asset (s : State) (n : Nat) (f : FallLine) : (setFl s n f).asset = s.asset := rfl
@[simp] theorem setFl_bus (s : State) (n : Nat) (f : FallLine) : (setFl s n f).bus = s.bus := rfl
@[simp] theorem setFl_sched (s : State) (n : Nat) (f : FallLine) : (setFl s n f).sched = s.sched := rfl
@[simp] theorem setFl_checks (s : State) (n : Nat) (f : FallLine) : (setFl s n f).checks = s.checks := rfl
@[simp] theorem setFl_trust (s : State) (n : Nat) (f : FallLine) : (setFl s n f).trust = s.trust := rfl
@[simp] theorem setFl_link (s : State) (n : Nat) (f : FallLine) : (setFl s n f).link = s.link := rfl
@[simp] theorem setFl_fc (s : State) (n : Nat) (f : FallLine) : (setFl s n f).fc = s.fc := rfl
@[simp] theorem setFl_board (s : State) (n : Nat) (f : FallLine) : (setFl s n f).board = s.board := rfl

@[simp] theorem setFn_pending (s : State) (n : Nat) (f : Fn) : (setFn s n f).pending = s.pending := rfl
@[simp] theorem setFn_eng (s : State) (n : Nat) (f : Fn) : (setFn s n f).eng = s.eng := rfl
@[simp] theorem setFn_resetN (s : State) (n : Nat) (f : Fn) : (setFn s n f).resetN = s.resetN := rfl
@[simp] theorem setFn_warm (s : State) (n : Nat) (f : Fn) : (setFn s n f).warm = s.warm := rfl
@[simp] theorem setFn_pisteOnce (s : State) (n : Nat) (f : Fn) : (setFn s n f).pisteOnce = s.pisteOnce := rfl
@[simp] theorem setFn_keelHalt (s : State) (n : Nat) (f : Fn) : (setFn s n f).keelHalt = s.keelHalt := rfl
@[simp] theorem setFn_free (s : State) (n : Nat) (f : Fn) : (setFn s n f).free = s.free := rfl
@[simp] theorem setFn_keel (s : State) (n : Nat) (f : Fn) : (setFn s n f).keel = s.keel := rfl
@[simp] theorem setFn_tu (s : State) (n : Nat) (f : Fn) : (setFn s n f).tu = s.tu := rfl
@[simp] theorem setFn_qm (s : State) (n : Nat) (f : Fn) : (setFn s n f).qm = s.qm := rfl
@[simp] theorem setFn_arr (s : State) (n : Nat) (f : Fn) : (setFn s n f).arr = s.arr := rfl
@[simp] theorem setFn_asset (s : State) (n : Nat) (f : Fn) : (setFn s n f).asset = s.asset := rfl
@[simp] theorem setFn_bus (s : State) (n : Nat) (f : Fn) : (setFn s n f).bus = s.bus := rfl
@[simp] theorem setFn_sched (s : State) (n : Nat) (f : Fn) : (setFn s n f).sched = s.sched := rfl
@[simp] theorem setFn_checks (s : State) (n : Nat) (f : Fn) : (setFn s n f).checks = s.checks := rfl
@[simp] theorem setFn_trust (s : State) (n : Nat) (f : Fn) : (setFn s n f).trust = s.trust := rfl
@[simp] theorem setFn_fc (s : State) (n : Nat) (f : Fn) : (setFn s n f).fc = s.fc := rfl
@[simp] theorem setFn_board (s : State) (n : Nat) (f : Fn) : (setFn s n f).board = s.board := rfl

@[simp] theorem setMbx_pending (s : State) (n : Nat) (w : Bool) (m : Mbx) : (setMbx s n w m).pending = s.pending := by cases w <;> rfl
@[simp] theorem setMbx_eng (s : State) (n : Nat) (w : Bool) (m : Mbx) : (setMbx s n w m).eng = s.eng := by cases w <;> rfl
@[simp] theorem setMbx_resetN (s : State) (n : Nat) (w : Bool) (m : Mbx) : (setMbx s n w m).resetN = s.resetN := by cases w <;> rfl
@[simp] theorem setMbx_warm (s : State) (n : Nat) (w : Bool) (m : Mbx) : (setMbx s n w m).warm = s.warm := by cases w <;> rfl
@[simp] theorem setMbx_pisteOnce (s : State) (n : Nat) (w : Bool) (m : Mbx) : (setMbx s n w m).pisteOnce = s.pisteOnce := by cases w <;> rfl
@[simp] theorem setMbx_keelHalt (s : State) (n : Nat) (w : Bool) (m : Mbx) : (setMbx s n w m).keelHalt = s.keelHalt := by cases w <;> rfl
@[simp] theorem setMbx_free (s : State) (n : Nat) (w : Bool) (m : Mbx) : (setMbx s n w m).free = s.free := by cases w <;> rfl
@[simp] theorem setMbx_keel (s : State) (n : Nat) (w : Bool) (m : Mbx) : (setMbx s n w m).keel = s.keel := by cases w <;> rfl
@[simp] theorem setMbx_tu (s : State) (n : Nat) (w : Bool) (m : Mbx) : (setMbx s n w m).tu = s.tu := by cases w <;> rfl
@[simp] theorem setMbx_qm (s : State) (n : Nat) (w : Bool) (m : Mbx) : (setMbx s n w m).qm = s.qm := by cases w <;> rfl
@[simp] theorem setMbx_arr (s : State) (n : Nat) (w : Bool) (m : Mbx) : (setMbx s n w m).arr = s.arr := by cases w <;> rfl
@[simp] theorem setMbx_asset (s : State) (n : Nat) (w : Bool) (m : Mbx) : (setMbx s n w m).asset = s.asset := by cases w <;> rfl
@[simp] theorem setMbx_bus (s : State) (n : Nat) (w : Bool) (m : Mbx) : (setMbx s n w m).bus = s.bus := by cases w <;> rfl
@[simp] theorem setMbx_sched (s : State) (n : Nat) (w : Bool) (m : Mbx) : (setMbx s n w m).sched = s.sched := by cases w <;> rfl
@[simp] theorem setMbx_checks (s : State) (n : Nat) (w : Bool) (m : Mbx) : (setMbx s n w m).checks = s.checks := by cases w <;> rfl
@[simp] theorem setMbx_trust (s : State) (n : Nat) (w : Bool) (m : Mbx) : (setMbx s n w m).trust = s.trust := by cases w <;> rfl
@[simp] theorem setMbx_fc (s : State) (n : Nat) (w : Bool) (m : Mbx) : (setMbx s n w m).fc = s.fc := by cases w <;> rfl
@[simp] theorem setMbx_board (s : State) (n : Nat) (w : Bool) (m : Mbx) : (setMbx s n w m).board = s.board := by cases w <;> rfl

@[simp] theorem setPort_pending (s : State) (p : BusPort) (v : Port) : (setPort s p v).pending = s.pending := by cases p <;> rfl
@[simp] theorem setPort_eng (s : State) (p : BusPort) (v : Port) : (setPort s p v).eng = s.eng := by cases p <;> rfl
@[simp] theorem setPort_resetN (s : State) (p : BusPort) (v : Port) : (setPort s p v).resetN = s.resetN := by cases p <;> rfl
@[simp] theorem setPort_warm (s : State) (p : BusPort) (v : Port) : (setPort s p v).warm = s.warm := by cases p <;> rfl
@[simp] theorem setPort_pisteOnce (s : State) (p : BusPort) (v : Port) : (setPort s p v).pisteOnce = s.pisteOnce := by cases p <;> rfl
@[simp] theorem setPort_keelHalt (s : State) (p : BusPort) (v : Port) : (setPort s p v).keelHalt = s.keelHalt := by cases p <;> rfl
@[simp] theorem setPort_free (s : State) (p : BusPort) (v : Port) : (setPort s p v).free = s.free := by cases p <;> rfl
@[simp] theorem setPort_keel (s : State) (p : BusPort) (v : Port) : (setPort s p v).keel = s.keel := by cases p <;> rfl
@[simp] theorem setPort_tu (s : State) (p : BusPort) (v : Port) : (setPort s p v).tu = s.tu := by cases p <;> rfl
@[simp] theorem setPort_qm (s : State) (p : BusPort) (v : Port) : (setPort s p v).qm = s.qm := by cases p <;> rfl
@[simp] theorem setPort_arr (s : State) (p : BusPort) (v : Port) : (setPort s p v).arr = s.arr := by cases p <;> rfl
@[simp] theorem setPort_asset (s : State) (p : BusPort) (v : Port) : (setPort s p v).asset = s.asset := by cases p <;> rfl
@[simp] theorem setPort_sched (s : State) (p : BusPort) (v : Port) : (setPort s p v).sched = s.sched := by cases p <;> rfl
@[simp] theorem setPort_checks (s : State) (p : BusPort) (v : Port) : (setPort s p v).checks = s.checks := by cases p <;> rfl
@[simp] theorem setPort_trust (s : State) (p : BusPort) (v : Port) : (setPort s p v).trust = s.trust := by cases p <;> rfl
@[simp] theorem setPort_link (s : State) (p : BusPort) (v : Port) : (setPort s p v).link = s.link := by cases p <;> rfl
@[simp] theorem setPort_fc (s : State) (p : BusPort) (v : Port) : (setPort s p v).fc = s.fc := by cases p <;> rfl
@[simp] theorem setPort_board (s : State) (p : BusPort) (v : Port) : (setPort s p v).board = s.board := by cases p <;> rfl

@[simp] theorem qSet_pending (s : State) (n : Nat) (q : Queue) : (qSet s n q).pending = s.pending := rfl
@[simp] theorem qSet_eng (s : State) (n : Nat) (q : Queue) : (qSet s n q).eng = s.eng := rfl
@[simp] theorem qSet_resetN (s : State) (n : Nat) (q : Queue) : (qSet s n q).resetN = s.resetN := rfl
@[simp] theorem qSet_warm (s : State) (n : Nat) (q : Queue) : (qSet s n q).warm = s.warm := rfl
@[simp] theorem qSet_pisteOnce (s : State) (n : Nat) (q : Queue) : (qSet s n q).pisteOnce = s.pisteOnce := rfl
@[simp] theorem qSet_keelHalt (s : State) (n : Nat) (q : Queue) : (qSet s n q).keelHalt = s.keelHalt := rfl
@[simp] theorem qSet_free (s : State) (n : Nat) (q : Queue) : (qSet s n q).free = s.free := rfl
@[simp] theorem qSet_keel (s : State) (n : Nat) (q : Queue) : (qSet s n q).keel = s.keel := rfl
@[simp] theorem qSet_tu (s : State) (n : Nat) (q : Queue) : (qSet s n q).tu = s.tu := rfl
@[simp] theorem qSet_arr (s : State) (n : Nat) (q : Queue) : (qSet s n q).arr = s.arr := rfl
@[simp] theorem qSet_asset (s : State) (n : Nat) (q : Queue) : (qSet s n q).asset = s.asset := rfl
@[simp] theorem qSet_bus (s : State) (n : Nat) (q : Queue) : (qSet s n q).bus = s.bus := rfl
@[simp] theorem qSet_sched (s : State) (n : Nat) (q : Queue) : (qSet s n q).sched = s.sched := rfl
@[simp] theorem qSet_checks (s : State) (n : Nat) (q : Queue) : (qSet s n q).checks = s.checks := rfl
@[simp] theorem qSet_trust (s : State) (n : Nat) (q : Queue) : (qSet s n q).trust = s.trust := rfl
@[simp] theorem qSet_link (s : State) (n : Nat) (q : Queue) : (qSet s n q).link = s.link := rfl
@[simp] theorem qSet_fc (s : State) (n : Nat) (q : Queue) : (qSet s n q).fc = s.fc := rfl
@[simp] theorem qSet_board (s : State) (n : Nat) (q : Queue) : (qSet s n q).board = s.board := rfl

@[simp] theorem stSet_pending (s : State) (n : Nat) (x : Stream) : (stSet s n x).pending = s.pending := rfl
@[simp] theorem stSet_eng (s : State) (n : Nat) (x : Stream) : (stSet s n x).eng = s.eng := rfl
@[simp] theorem stSet_resetN (s : State) (n : Nat) (x : Stream) : (stSet s n x).resetN = s.resetN := rfl
@[simp] theorem stSet_warm (s : State) (n : Nat) (x : Stream) : (stSet s n x).warm = s.warm := rfl
@[simp] theorem stSet_pisteOnce (s : State) (n : Nat) (x : Stream) : (stSet s n x).pisteOnce = s.pisteOnce := rfl
@[simp] theorem stSet_keelHalt (s : State) (n : Nat) (x : Stream) : (stSet s n x).keelHalt = s.keelHalt := rfl
@[simp] theorem stSet_free (s : State) (n : Nat) (x : Stream) : (stSet s n x).free = s.free := rfl
@[simp] theorem stSet_keel (s : State) (n : Nat) (x : Stream) : (stSet s n x).keel = s.keel := rfl
@[simp] theorem stSet_tu (s : State) (n : Nat) (x : Stream) : (stSet s n x).tu = s.tu := rfl
@[simp] theorem stSet_qm (s : State) (n : Nat) (x : Stream) : (stSet s n x).qm = s.qm := rfl
@[simp] theorem stSet_asset (s : State) (n : Nat) (x : Stream) : (stSet s n x).asset = s.asset := rfl
@[simp] theorem stSet_bus (s : State) (n : Nat) (x : Stream) : (stSet s n x).bus = s.bus := rfl
@[simp] theorem stSet_sched (s : State) (n : Nat) (x : Stream) : (stSet s n x).sched = s.sched := rfl
@[simp] theorem stSet_checks (s : State) (n : Nat) (x : Stream) : (stSet s n x).checks = s.checks := rfl
@[simp] theorem stSet_trust (s : State) (n : Nat) (x : Stream) : (stSet s n x).trust = s.trust := rfl
@[simp] theorem stSet_link (s : State) (n : Nat) (x : Stream) : (stSet s n x).link = s.link := rfl
@[simp] theorem stSet_fc (s : State) (n : Nat) (x : Stream) : (stSet s n x).fc = s.fc := rfl
@[simp] theorem stSet_board (s : State) (n : Nat) (x : Stream) : (stSet s n x).board = s.board := rfl

@[simp] theorem coreSet_pending (s : State) (n : Nat) (x : Core) : (coreSet s n x).pending = s.pending := rfl
@[simp] theorem coreSet_eng (s : State) (n : Nat) (x : Core) : (coreSet s n x).eng = s.eng := rfl
@[simp] theorem coreSet_resetN (s : State) (n : Nat) (x : Core) : (coreSet s n x).resetN = s.resetN := rfl
@[simp] theorem coreSet_warm (s : State) (n : Nat) (x : Core) : (coreSet s n x).warm = s.warm := rfl
@[simp] theorem coreSet_pisteOnce (s : State) (n : Nat) (x : Core) : (coreSet s n x).pisteOnce = s.pisteOnce := rfl
@[simp] theorem coreSet_keelHalt (s : State) (n : Nat) (x : Core) : (coreSet s n x).keelHalt = s.keelHalt := rfl
@[simp] theorem coreSet_free (s : State) (n : Nat) (x : Core) : (coreSet s n x).free = s.free := rfl
@[simp] theorem coreSet_keel (s : State) (n : Nat) (x : Core) : (coreSet s n x).keel = s.keel := rfl
@[simp] theorem coreSet_tu (s : State) (n : Nat) (x : Core) : (coreSet s n x).tu = s.tu := rfl
@[simp] theorem coreSet_qm (s : State) (n : Nat) (x : Core) : (coreSet s n x).qm = s.qm := rfl
@[simp] theorem coreSet_asset (s : State) (n : Nat) (x : Core) : (coreSet s n x).asset = s.asset := rfl
@[simp] theorem coreSet_bus (s : State) (n : Nat) (x : Core) : (coreSet s n x).bus = s.bus := rfl
@[simp] theorem coreSet_sched (s : State) (n : Nat) (x : Core) : (coreSet s n x).sched = s.sched := rfl
@[simp] theorem coreSet_checks (s : State) (n : Nat) (x : Core) : (coreSet s n x).checks = s.checks := rfl
@[simp] theorem coreSet_trust (s : State) (n : Nat) (x : Core) : (coreSet s n x).trust = s.trust := rfl
@[simp] theorem coreSet_link (s : State) (n : Nat) (x : Core) : (coreSet s n x).link = s.link := rfl
@[simp] theorem coreSet_fc (s : State) (n : Nat) (x : Core) : (coreSet s n x).fc = s.fc := rfl
@[simp] theorem coreSet_board (s : State) (n : Nat) (x : Core) : (coreSet s n x).board = s.board := rfl

@[simp] theorem setServo_pending (s : State) (d : Dom) (v : Servo) : (setServo d v s).pending = s.pending := by cases d <;> rfl
@[simp] theorem setServo_eng (s : State) (d : Dom) (v : Servo) : (setServo d v s).eng = s.eng := by cases d <;> rfl
@[simp] theorem setServo_resetN (s : State) (d : Dom) (v : Servo) : (setServo d v s).resetN = s.resetN := by cases d <;> rfl
@[simp] theorem setServo_warm (s : State) (d : Dom) (v : Servo) : (setServo d v s).warm = s.warm := by cases d <;> rfl
@[simp] theorem setServo_pisteOnce (s : State) (d : Dom) (v : Servo) : (setServo d v s).pisteOnce = s.pisteOnce := by cases d <;> rfl
@[simp] theorem setServo_keelHalt (s : State) (d : Dom) (v : Servo) : (setServo d v s).keelHalt = s.keelHalt := by cases d <;> rfl
@[simp] theorem setServo_free (s : State) (d : Dom) (v : Servo) : (setServo d v s).free = s.free := by cases d <;> rfl
@[simp] theorem setServo_keel (s : State) (d : Dom) (v : Servo) : (setServo d v s).keel = s.keel := by cases d <;> rfl
@[simp] theorem setServo_qm (s : State) (d : Dom) (v : Servo) : (setServo d v s).qm = s.qm := by cases d <;> rfl
@[simp] theorem setServo_arr (s : State) (d : Dom) (v : Servo) : (setServo d v s).arr = s.arr := by cases d <;> rfl
@[simp] theorem setServo_asset (s : State) (d : Dom) (v : Servo) : (setServo d v s).asset = s.asset := by cases d <;> rfl
@[simp] theorem setServo_bus (s : State) (d : Dom) (v : Servo) : (setServo d v s).bus = s.bus := by cases d <;> rfl
@[simp] theorem setServo_sched (s : State) (d : Dom) (v : Servo) : (setServo d v s).sched = s.sched := by cases d <;> rfl
@[simp] theorem setServo_checks (s : State) (d : Dom) (v : Servo) : (setServo d v s).checks = s.checks := by cases d <;> rfl
@[simp] theorem setServo_trust (s : State) (d : Dom) (v : Servo) : (setServo d v s).trust = s.trust := by cases d <;> rfl
@[simp] theorem setServo_link (s : State) (d : Dom) (v : Servo) : (setServo d v s).link = s.link := by cases d <;> rfl
@[simp] theorem setServo_fc (s : State) (d : Dom) (v : Servo) : (setServo d v s).fc = s.fc := by cases d <;> rfl
@[simp] theorem setServo_board (s : State) (d : Dom) (v : Servo) : (setServo d v s).board = s.board := by cases d <;> rfl

@[simp] theorem setStPort_pending (s : State) (p : StPort) (v : StorePort) : (setStPort s p v).pending = s.pending := by cases p <;> rfl
@[simp] theorem setStPort_eng (s : State) (p : StPort) (v : StorePort) : (setStPort s p v).eng = s.eng := by cases p <;> rfl
@[simp] theorem setStPort_resetN (s : State) (p : StPort) (v : StorePort) : (setStPort s p v).resetN = s.resetN := by cases p <;> rfl
@[simp] theorem setStPort_warm (s : State) (p : StPort) (v : StorePort) : (setStPort s p v).warm = s.warm := by cases p <;> rfl
@[simp] theorem setStPort_pisteOnce (s : State) (p : StPort) (v : StorePort) : (setStPort s p v).pisteOnce = s.pisteOnce := by cases p <;> rfl
@[simp] theorem setStPort_keelHalt (s : State) (p : StPort) (v : StorePort) : (setStPort s p v).keelHalt = s.keelHalt := by cases p <;> rfl
@[simp] theorem setStPort_free (s : State) (p : StPort) (v : StorePort) : (setStPort s p v).free = s.free := by cases p <;> rfl
@[simp] theorem setStPort_keel (s : State) (p : StPort) (v : StorePort) : (setStPort s p v).keel = s.keel := by cases p <;> rfl
@[simp] theorem setStPort_tu (s : State) (p : StPort) (v : StorePort) : (setStPort s p v).tu = s.tu := by cases p <;> rfl
@[simp] theorem setStPort_qm (s : State) (p : StPort) (v : StorePort) : (setStPort s p v).qm = s.qm := by cases p <;> rfl
@[simp] theorem setStPort_arr (s : State) (p : StPort) (v : StorePort) : (setStPort s p v).arr = s.arr := by cases p <;> rfl
@[simp] theorem setStPort_bus (s : State) (p : StPort) (v : StorePort) : (setStPort s p v).bus = s.bus := by cases p <;> rfl
@[simp] theorem setStPort_sched (s : State) (p : StPort) (v : StorePort) : (setStPort s p v).sched = s.sched := by cases p <;> rfl
@[simp] theorem setStPort_checks (s : State) (p : StPort) (v : StorePort) : (setStPort s p v).checks = s.checks := by cases p <;> rfl
@[simp] theorem setStPort_trust (s : State) (p : StPort) (v : StorePort) : (setStPort s p v).trust = s.trust := by cases p <;> rfl
@[simp] theorem setStPort_link (s : State) (p : StPort) (v : StorePort) : (setStPort s p v).link = s.link := by cases p <;> rfl
@[simp] theorem setStPort_fc (s : State) (p : StPort) (v : StorePort) : (setStPort s p v).fc = s.fc := by cases p <;> rfl
@[simp] theorem setStPort_board (s : State) (p : StPort) (v : StorePort) : (setStPort s p v).board = s.board := by cases p <;> rfl

@[simp] theorem respond_pending (s : State) (fn : Nat) (w : Bool) (r : Rsp) : (respond fn w r s).pending = s.pending := by simp only [respond]; split <;> simp
@[simp] theorem respond_eng (s : State) (fn : Nat) (w : Bool) (r : Rsp) : (respond fn w r s).eng = s.eng := by simp only [respond]; split <;> simp
@[simp] theorem respond_resetN (s : State) (fn : Nat) (w : Bool) (r : Rsp) : (respond fn w r s).resetN = s.resetN := by simp only [respond]; split <;> simp
@[simp] theorem respond_warm (s : State) (fn : Nat) (w : Bool) (r : Rsp) : (respond fn w r s).warm = s.warm := by simp only [respond]; split <;> simp
@[simp] theorem respond_pisteOnce (s : State) (fn : Nat) (w : Bool) (r : Rsp) : (respond fn w r s).pisteOnce = s.pisteOnce := by simp only [respond]; split <;> simp
@[simp] theorem respond_keelHalt (s : State) (fn : Nat) (w : Bool) (r : Rsp) : (respond fn w r s).keelHalt = s.keelHalt := by simp only [respond]; split <;> simp
@[simp] theorem respond_free (s : State) (fn : Nat) (w : Bool) (r : Rsp) : (respond fn w r s).free = s.free := by simp only [respond]; split <;> simp
@[simp] theorem respond_keel (s : State) (fn : Nat) (w : Bool) (r : Rsp) : (respond fn w r s).keel = s.keel := by simp only [respond]; split <;> simp
@[simp] theorem respond_tu (s : State) (fn : Nat) (w : Bool) (r : Rsp) : (respond fn w r s).tu = s.tu := by simp only [respond]; split <;> simp
@[simp] theorem respond_qm (s : State) (fn : Nat) (w : Bool) (r : Rsp) : (respond fn w r s).qm = s.qm := by simp only [respond]; split <;> simp
@[simp] theorem respond_arr (s : State) (fn : Nat) (w : Bool) (r : Rsp) : (respond fn w r s).arr = s.arr := by simp only [respond]; split <;> simp
@[simp] theorem respond_asset (s : State) (fn : Nat) (w : Bool) (r : Rsp) : (respond fn w r s).asset = s.asset := by simp only [respond]; split <;> simp
@[simp] theorem respond_bus (s : State) (fn : Nat) (w : Bool) (r : Rsp) : (respond fn w r s).bus = s.bus := by simp only [respond]; split <;> simp
@[simp] theorem respond_sched (s : State) (fn : Nat) (w : Bool) (r : Rsp) : (respond fn w r s).sched = s.sched := by simp only [respond]; split <;> simp
@[simp] theorem respond_checks (s : State) (fn : Nat) (w : Bool) (r : Rsp) : (respond fn w r s).checks = s.checks := by simp only [respond]; split <;> simp
@[simp] theorem respond_trust (s : State) (fn : Nat) (w : Bool) (r : Rsp) : (respond fn w r s).trust = s.trust := by simp only [respond]; split <;> simp
@[simp] theorem respond_fc (s : State) (fn : Nat) (w : Bool) (r : Rsp) : (respond fn w r s).fc = s.fc := by simp only [respond]; split <;> simp
@[simp] theorem respond_board (s : State) (fn : Nat) (w : Bool) (r : Rsp) : (respond fn w r s).board = s.board := by simp only [respond]; split <;> simp

@[simp] theorem event_pending (s : State) (fn code : Nat) (data : List Int) : (event fn code data s).pending = s.pending := by simp only [event]; (repeat' split) <;> simp
@[simp] theorem event_eng (s : State) (fn code : Nat) (data : List Int) : (event fn code data s).eng = s.eng := by simp only [event]; (repeat' split) <;> simp
@[simp] theorem event_resetN (s : State) (fn code : Nat) (data : List Int) : (event fn code data s).resetN = s.resetN := by simp only [event]; (repeat' split) <;> simp
@[simp] theorem event_warm (s : State) (fn code : Nat) (data : List Int) : (event fn code data s).warm = s.warm := by simp only [event]; (repeat' split) <;> simp
@[simp] theorem event_pisteOnce (s : State) (fn code : Nat) (data : List Int) : (event fn code data s).pisteOnce = s.pisteOnce := by simp only [event]; (repeat' split) <;> simp
@[simp] theorem event_keelHalt (s : State) (fn code : Nat) (data : List Int) : (event fn code data s).keelHalt = s.keelHalt := by simp only [event]; (repeat' split) <;> simp
@[simp] theorem event_free (s : State) (fn code : Nat) (data : List Int) : (event fn code data s).free = s.free := by simp only [event]; (repeat' split) <;> simp
@[simp] theorem event_keel (s : State) (fn code : Nat) (data : List Int) : (event fn code data s).keel = s.keel := by simp only [event]; (repeat' split) <;> simp
@[simp] theorem event_tu (s : State) (fn code : Nat) (data : List Int) : (event fn code data s).tu = s.tu := by simp only [event]; (repeat' split) <;> simp
@[simp] theorem event_qm (s : State) (fn code : Nat) (data : List Int) : (event fn code data s).qm = s.qm := by simp only [event]; (repeat' split) <;> simp
@[simp] theorem event_arr (s : State) (fn code : Nat) (data : List Int) : (event fn code data s).arr = s.arr := by simp only [event]; (repeat' split) <;> simp
@[simp] theorem event_asset (s : State) (fn code : Nat) (data : List Int) : (event fn code data s).asset = s.asset := by simp only [event]; (repeat' split) <;> simp
@[simp] theorem event_bus (s : State) (fn code : Nat) (data : List Int) : (event fn code data s).bus = s.bus := by simp only [event]; (repeat' split) <;> simp
@[simp] theorem event_sched (s : State) (fn code : Nat) (data : List Int) : (event fn code data s).sched = s.sched := by simp only [event]; (repeat' split) <;> simp
@[simp] theorem event_checks (s : State) (fn code : Nat) (data : List Int) : (event fn code data s).checks = s.checks := by simp only [event]; (repeat' split) <;> simp
@[simp] theorem event_trust (s : State) (fn code : Nat) (data : List Int) : (event fn code data s).trust = s.trust := by simp only [event]; (repeat' split) <;> simp
@[simp] theorem event_fc (s : State) (fn code : Nat) (data : List Int) : (event fn code data s).fc = s.fc := by simp only [event]; (repeat' split) <;> simp
@[simp] theorem event_board (s : State) (fn code : Nat) (data : List Int) : (event fn code data s).board = s.board := by simp only [event]; (repeat' split) <;> simp

@[simp] theorem finish_pending (s : State) (h : Hdr) (st : Status) (res : List Int) : (finish h st res s).pending = s.pending := by simp [finish]
@[simp] theorem finish_eng (s : State) (h : Hdr) (st : Status) (res : List Int) : (finish h st res s).eng = s.eng := by simp [finish]
@[simp] theorem finish_resetN (s : State) (h : Hdr) (st : Status) (res : List Int) : (finish h st res s).resetN = s.resetN := by simp [finish]
@[simp] theorem finish_warm (s : State) (h : Hdr) (st : Status) (res : List Int) : (finish h st res s).warm = s.warm := by simp [finish]
@[simp] theorem finish_pisteOnce (s : State) (h : Hdr) (st : Status) (res : List Int) : (finish h st res s).pisteOnce = s.pisteOnce := by simp [finish]
@[simp] theorem finish_keelHalt (s : State) (h : Hdr) (st : Status) (res : List Int) : (finish h st res s).keelHalt = s.keelHalt := by simp [finish]
@[simp] theorem finish_free (s : State) (h : Hdr) (st : Status) (res : List Int) : (finish h st res s).free = s.free := by simp [finish]
@[simp] theorem finish_keel (s : State) (h : Hdr) (st : Status) (res : List Int) : (finish h st res s).keel = s.keel := by simp [finish]
@[simp] theorem finish_tu (s : State) (h : Hdr) (st : Status) (res : List Int) : (finish h st res s).tu = s.tu := by simp [finish]
@[simp] theorem finish_qm (s : State) (h : Hdr) (st : Status) (res : List Int) : (finish h st res s).qm = s.qm := by simp [finish]
@[simp] theorem finish_arr (s : State) (h : Hdr) (st : Status) (res : List Int) : (finish h st res s).arr = s.arr := by simp [finish]
@[simp] theorem finish_asset (s : State) (h : Hdr) (st : Status) (res : List Int) : (finish h st res s).asset = s.asset := by simp [finish]
@[simp] theorem finish_bus (s : State) (h : Hdr) (st : Status) (res : List Int) : (finish h st res s).bus = s.bus := by simp [finish]
@[simp] theorem finish_sched (s : State) (h : Hdr) (st : Status) (res : List Int) : (finish h st res s).sched = s.sched := by simp [finish]
@[simp] theorem finish_checks (s : State) (h : Hdr) (st : Status) (res : List Int) : (finish h st res s).checks = s.checks := by simp [finish]
@[simp] theorem finish_trust (s : State) (h : Hdr) (st : Status) (res : List Int) : (finish h st res s).trust = s.trust := by simp [finish]
@[simp] theorem finish_fc (s : State) (h : Hdr) (st : Status) (res : List Int) : (finish h st res s).fc = s.fc := by simp [finish]
@[simp] theorem finish_board (s : State) (h : Hdr) (st : Status) (res : List Int) : (finish h st res s).board = s.board := by simp [finish]

@[simp] theorem noteReq_pending (s : State) (fn : Nat) : (noteReq fn s).pending = s.pending := rfl
@[simp] theorem noteReq_eng (s : State) (fn : Nat) : (noteReq fn s).eng = s.eng := rfl
@[simp] theorem noteReq_resetN (s : State) (fn : Nat) : (noteReq fn s).resetN = s.resetN := rfl
@[simp] theorem noteReq_warm (s : State) (fn : Nat) : (noteReq fn s).warm = s.warm := rfl
@[simp] theorem noteReq_pisteOnce (s : State) (fn : Nat) : (noteReq fn s).pisteOnce = s.pisteOnce := rfl
@[simp] theorem noteReq_keelHalt (s : State) (fn : Nat) : (noteReq fn s).keelHalt = s.keelHalt := rfl
@[simp] theorem noteReq_free (s : State) (fn : Nat) : (noteReq fn s).free = s.free := rfl
@[simp] theorem noteReq_keel (s : State) (fn : Nat) : (noteReq fn s).keel = s.keel := rfl
@[simp] theorem noteReq_tu (s : State) (fn : Nat) : (noteReq fn s).tu = s.tu := rfl
@[simp] theorem noteReq_qm (s : State) (fn : Nat) : (noteReq fn s).qm = s.qm := rfl
@[simp] theorem noteReq_arr (s : State) (fn : Nat) : (noteReq fn s).arr = s.arr := rfl
@[simp] theorem noteReq_asset (s : State) (fn : Nat) : (noteReq fn s).asset = s.asset := rfl
@[simp] theorem noteReq_bus (s : State) (fn : Nat) : (noteReq fn s).bus = s.bus := rfl
@[simp] theorem noteReq_sched (s : State) (fn : Nat) : (noteReq fn s).sched = s.sched := rfl
@[simp] theorem noteReq_checks (s : State) (fn : Nat) : (noteReq fn s).checks = s.checks := rfl
@[simp] theorem noteReq_trust (s : State) (fn : Nat) : (noteReq fn s).trust = s.trust := rfl
@[simp] theorem noteReq_fc (s : State) (fn : Nat) : (noteReq fn s).fc = s.fc := rfl
@[simp] theorem noteReq_board (s : State) (fn : Nat) : (noteReq fn s).board = s.board := rfl

@[simp] theorem markStarted_pending (s : State) (sp : Spec) (h : Hdr) : (markStarted sp h s).pending = s.pending := by simp only [markStarted]; split <;> simp
@[simp] theorem markStarted_eng (s : State) (sp : Spec) (h : Hdr) : (markStarted sp h s).eng = s.eng := by simp only [markStarted]; split <;> simp
@[simp] theorem markStarted_resetN (s : State) (sp : Spec) (h : Hdr) : (markStarted sp h s).resetN = s.resetN := by simp only [markStarted]; split <;> simp
@[simp] theorem markStarted_warm (s : State) (sp : Spec) (h : Hdr) : (markStarted sp h s).warm = s.warm := by simp only [markStarted]; split <;> simp
@[simp] theorem markStarted_pisteOnce (s : State) (sp : Spec) (h : Hdr) : (markStarted sp h s).pisteOnce = s.pisteOnce := by simp only [markStarted]; split <;> simp
@[simp] theorem markStarted_keelHalt (s : State) (sp : Spec) (h : Hdr) : (markStarted sp h s).keelHalt = s.keelHalt := by simp only [markStarted]; split <;> simp
@[simp] theorem markStarted_free (s : State) (sp : Spec) (h : Hdr) : (markStarted sp h s).free = s.free := by simp only [markStarted]; split <;> simp
@[simp] theorem markStarted_keel (s : State) (sp : Spec) (h : Hdr) : (markStarted sp h s).keel = s.keel := by simp only [markStarted]; split <;> simp
@[simp] theorem markStarted_tu (s : State) (sp : Spec) (h : Hdr) : (markStarted sp h s).tu = s.tu := by simp only [markStarted]; split <;> simp
@[simp] theorem markStarted_qm (s : State) (sp : Spec) (h : Hdr) : (markStarted sp h s).qm = s.qm := by simp only [markStarted]; split <;> simp
@[simp] theorem markStarted_arr (s : State) (sp : Spec) (h : Hdr) : (markStarted sp h s).arr = s.arr := by simp only [markStarted]; split <;> simp
@[simp] theorem markStarted_asset (s : State) (sp : Spec) (h : Hdr) : (markStarted sp h s).asset = s.asset := by simp only [markStarted]; split <;> simp
@[simp] theorem markStarted_bus (s : State) (sp : Spec) (h : Hdr) : (markStarted sp h s).bus = s.bus := by simp only [markStarted]; split <;> simp
@[simp] theorem markStarted_sched (s : State) (sp : Spec) (h : Hdr) : (markStarted sp h s).sched = s.sched := by simp only [markStarted]; split <;> simp
@[simp] theorem markStarted_checks (s : State) (sp : Spec) (h : Hdr) : (markStarted sp h s).checks = s.checks := by simp only [markStarted]; split <;> simp
@[simp] theorem markStarted_trust (s : State) (sp : Spec) (h : Hdr) : (markStarted sp h s).trust = s.trust := by simp only [markStarted]; split <;> simp
@[simp] theorem markStarted_fc (s : State) (sp : Spec) (h : Hdr) : (markStarted sp h s).fc = s.fc := by simp only [markStarted]; split <;> simp
@[simp] theorem markStarted_board (s : State) (sp : Spec) (h : Hdr) : (markStarted sp h s).board = s.board := by simp only [markStarted]; split <;> simp

@[simp] theorem runTo_pending (s : State) (c : Nat) : (runTo c s).pending = s.pending := by simp only [runTo]; split <;> rfl
@[simp] theorem runTo_eng (s : State) (c : Nat) : (runTo c s).eng = s.eng := by simp only [runTo]; split <;> rfl
@[simp] theorem runTo_resetN (s : State) (c : Nat) : (runTo c s).resetN = s.resetN := by simp only [runTo]; split <;> rfl
@[simp] theorem runTo_warm (s : State) (c : Nat) : (runTo c s).warm = s.warm := by simp only [runTo]; split <;> rfl
@[simp] theorem runTo_pisteOnce (s : State) (c : Nat) : (runTo c s).pisteOnce = s.pisteOnce := by simp only [runTo]; split <;> rfl
@[simp] theorem runTo_keelHalt (s : State) (c : Nat) : (runTo c s).keelHalt = s.keelHalt := by simp only [runTo]; split <;> rfl
@[simp] theorem runTo_free (s : State) (c : Nat) : (runTo c s).free = s.free := by simp only [runTo]; split <;> rfl
@[simp] theorem runTo_tu (s : State) (c : Nat) : (runTo c s).tu = s.tu := by simp only [runTo]; split <;> rfl
@[simp] theorem runTo_qm (s : State) (c : Nat) : (runTo c s).qm = s.qm := by simp only [runTo]; split <;> rfl
@[simp] theorem runTo_arr (s : State) (c : Nat) : (runTo c s).arr = s.arr := by simp only [runTo]; split <;> rfl
@[simp] theorem runTo_asset (s : State) (c : Nat) : (runTo c s).asset = s.asset := by simp only [runTo]; split <;> rfl
@[simp] theorem runTo_bus (s : State) (c : Nat) : (runTo c s).bus = s.bus := by simp only [runTo]; split <;> rfl
@[simp] theorem runTo_sched (s : State) (c : Nat) : (runTo c s).sched = s.sched := by simp only [runTo]; split <;> rfl
@[simp] theorem runTo_checks (s : State) (c : Nat) : (runTo c s).checks = s.checks := by simp only [runTo]; split <;> rfl
@[simp] theorem runTo_trust (s : State) (c : Nat) : (runTo c s).trust = s.trust := by simp only [runTo]; split <;> rfl
@[simp] theorem runTo_link (s : State) (c : Nat) : (runTo c s).link = s.link := by simp only [runTo]; split <;> rfl
@[simp] theorem runTo_fc (s : State) (c : Nat) : (runTo c s).fc = s.fc := by simp only [runTo]; split <;> rfl
@[simp] theorem runTo_board (s : State) (c : Nat) : (runTo c s).board = s.board := by simp only [runTo]; split <;> rfl

@[simp] theorem advance_pending (s : State) (t : Nat) : (advance t s).pending = s.pending := by simp [advance]
@[simp] theorem advance_eng (s : State) (t : Nat) : (advance t s).eng = s.eng := by simp [advance]
@[simp] theorem advance_resetN (s : State) (t : Nat) : (advance t s).resetN = s.resetN := by simp [advance]
@[simp] theorem advance_warm (s : State) (t : Nat) : (advance t s).warm = s.warm := by simp [advance]
@[simp] theorem advance_pisteOnce (s : State) (t : Nat) : (advance t s).pisteOnce = s.pisteOnce := by simp [advance]
@[simp] theorem advance_keelHalt (s : State) (t : Nat) : (advance t s).keelHalt = s.keelHalt := by simp [advance]
@[simp] theorem advance_free (s : State) (t : Nat) : (advance t s).free = s.free := by simp [advance]
@[simp] theorem advance_tu (s : State) (t : Nat) : (advance t s).tu = s.tu := by simp [advance]
@[simp] theorem advance_qm (s : State) (t : Nat) : (advance t s).qm = s.qm := by simp [advance]
@[simp] theorem advance_arr (s : State) (t : Nat) : (advance t s).arr = s.arr := by simp [advance]
@[simp] theorem advance_asset (s : State) (t : Nat) : (advance t s).asset = s.asset := by simp [advance]
@[simp] theorem advance_bus (s : State) (t : Nat) : (advance t s).bus = s.bus := by simp [advance]
@[simp] theorem advance_sched (s : State) (t : Nat) : (advance t s).sched = s.sched := by simp [advance]
@[simp] theorem advance_checks (s : State) (t : Nat) : (advance t s).checks = s.checks := by simp [advance]
@[simp] theorem advance_trust (s : State) (t : Nat) : (advance t s).trust = s.trust := by simp [advance]
@[simp] theorem advance_link (s : State) (t : Nat) : (advance t s).link = s.link := by simp [advance]
@[simp] theorem advance_fc (s : State) (t : Nat) : (advance t s).fc = s.fc := by simp [advance]
@[simp] theorem advance_board (s : State) (t : Nat) : (advance t s).board = s.board := by simp [advance]

@[simp] theorem advanceReq_pending (s : State) (h : Hdr) : (advanceReq h s).pending = s.pending := by simp [advanceReq]
@[simp] theorem advanceReq_eng (s : State) (h : Hdr) : (advanceReq h s).eng = s.eng := by simp [advanceReq]
@[simp] theorem advanceReq_resetN (s : State) (h : Hdr) : (advanceReq h s).resetN = s.resetN := by simp [advanceReq]
@[simp] theorem advanceReq_warm (s : State) (h : Hdr) : (advanceReq h s).warm = s.warm := by simp [advanceReq]
@[simp] theorem advanceReq_pisteOnce (s : State) (h : Hdr) : (advanceReq h s).pisteOnce = s.pisteOnce := by simp [advanceReq]
@[simp] theorem advanceReq_keelHalt (s : State) (h : Hdr) : (advanceReq h s).keelHalt = s.keelHalt := by simp [advanceReq]
@[simp] theorem advanceReq_free (s : State) (h : Hdr) : (advanceReq h s).free = s.free := by simp [advanceReq]
@[simp] theorem advanceReq_tu (s : State) (h : Hdr) : (advanceReq h s).tu = s.tu := by simp [advanceReq]
@[simp] theorem advanceReq_qm (s : State) (h : Hdr) : (advanceReq h s).qm = s.qm := by simp [advanceReq]
@[simp] theorem advanceReq_arr (s : State) (h : Hdr) : (advanceReq h s).arr = s.arr := by simp [advanceReq]
@[simp] theorem advanceReq_asset (s : State) (h : Hdr) : (advanceReq h s).asset = s.asset := by simp [advanceReq]
@[simp] theorem advanceReq_bus (s : State) (h : Hdr) : (advanceReq h s).bus = s.bus := by simp [advanceReq]
@[simp] theorem advanceReq_sched (s : State) (h : Hdr) : (advanceReq h s).sched = s.sched := by simp [advanceReq]
@[simp] theorem advanceReq_checks (s : State) (h : Hdr) : (advanceReq h s).checks = s.checks := by simp [advanceReq]
@[simp] theorem advanceReq_trust (s : State) (h : Hdr) : (advanceReq h s).trust = s.trust := by simp [advanceReq]
@[simp] theorem advanceReq_link (s : State) (h : Hdr) : (advanceReq h s).link = s.link := by simp [advanceReq]
@[simp] theorem advanceReq_fc (s : State) (h : Hdr) : (advanceReq h s).fc = s.fc := by simp [advanceReq]
@[simp] theorem advanceReq_board (s : State) (h : Hdr) : (advanceReq h s).board = s.board := by simp [advanceReq]

@[simp] theorem begun_pending (s : State) (sp : Spec) (h : Hdr) : (Safety.begun sp h s).pending = s.pending := by simp [Safety.begun]
@[simp] theorem begun_eng (s : State) (sp : Spec) (h : Hdr) : (Safety.begun sp h s).eng = s.eng := by simp [Safety.begun]
@[simp] theorem begun_resetN (s : State) (sp : Spec) (h : Hdr) : (Safety.begun sp h s).resetN = s.resetN := by simp [Safety.begun]
@[simp] theorem begun_warm (s : State) (sp : Spec) (h : Hdr) : (Safety.begun sp h s).warm = s.warm := by simp [Safety.begun]
@[simp] theorem begun_pisteOnce (s : State) (sp : Spec) (h : Hdr) : (Safety.begun sp h s).pisteOnce = s.pisteOnce := by simp [Safety.begun]
@[simp] theorem begun_keelHalt (s : State) (sp : Spec) (h : Hdr) : (Safety.begun sp h s).keelHalt = s.keelHalt := by simp [Safety.begun]
@[simp] theorem begun_free (s : State) (sp : Spec) (h : Hdr) : (Safety.begun sp h s).free = s.free := by simp [Safety.begun]
@[simp] theorem begun_tu (s : State) (sp : Spec) (h : Hdr) : (Safety.begun sp h s).tu = s.tu := by simp [Safety.begun]
@[simp] theorem begun_qm (s : State) (sp : Spec) (h : Hdr) : (Safety.begun sp h s).qm = s.qm := by simp [Safety.begun]
@[simp] theorem begun_arr (s : State) (sp : Spec) (h : Hdr) : (Safety.begun sp h s).arr = s.arr := by simp [Safety.begun]
@[simp] theorem begun_asset (s : State) (sp : Spec) (h : Hdr) : (Safety.begun sp h s).asset = s.asset := by simp [Safety.begun]
@[simp] theorem begun_bus (s : State) (sp : Spec) (h : Hdr) : (Safety.begun sp h s).bus = s.bus := by simp [Safety.begun]
@[simp] theorem begun_sched (s : State) (sp : Spec) (h : Hdr) : (Safety.begun sp h s).sched = s.sched := by simp [Safety.begun]
@[simp] theorem begun_checks (s : State) (sp : Spec) (h : Hdr) : (Safety.begun sp h s).checks = s.checks := by simp [Safety.begun]
@[simp] theorem begun_trust (s : State) (sp : Spec) (h : Hdr) : (Safety.begun sp h s).trust = s.trust := by simp [Safety.begun]
@[simp] theorem begun_fc (s : State) (sp : Spec) (h : Hdr) : (Safety.begun sp h s).fc = s.fc := by simp [Safety.begun]
@[simp] theorem begun_board (s : State) (sp : Spec) (h : Hdr) : (Safety.begun sp h s).board = s.board := by simp [Safety.begun]

@[simp] theorem outstanding_pending (s : State) (h : Hdr) (l : Long) : (outstanding h l s).pending = s.pending := rfl
@[simp] theorem outstanding_eng (s : State) (h : Hdr) (l : Long) : (outstanding h l s).eng = s.eng := rfl
@[simp] theorem outstanding_resetN (s : State) (h : Hdr) (l : Long) : (outstanding h l s).resetN = s.resetN := rfl
@[simp] theorem outstanding_warm (s : State) (h : Hdr) (l : Long) : (outstanding h l s).warm = s.warm := rfl
@[simp] theorem outstanding_pisteOnce (s : State) (h : Hdr) (l : Long) : (outstanding h l s).pisteOnce = s.pisteOnce := rfl
@[simp] theorem outstanding_keelHalt (s : State) (h : Hdr) (l : Long) : (outstanding h l s).keelHalt = s.keelHalt := rfl
@[simp] theorem outstanding_free (s : State) (h : Hdr) (l : Long) : (outstanding h l s).free = s.free := rfl
@[simp] theorem outstanding_keel (s : State) (h : Hdr) (l : Long) : (outstanding h l s).keel = s.keel := rfl
@[simp] theorem outstanding_tu (s : State) (h : Hdr) (l : Long) : (outstanding h l s).tu = s.tu := rfl
@[simp] theorem outstanding_qm (s : State) (h : Hdr) (l : Long) : (outstanding h l s).qm = s.qm := rfl
@[simp] theorem outstanding_arr (s : State) (h : Hdr) (l : Long) : (outstanding h l s).arr = s.arr := rfl
@[simp] theorem outstanding_asset (s : State) (h : Hdr) (l : Long) : (outstanding h l s).asset = s.asset := rfl
@[simp] theorem outstanding_bus (s : State) (h : Hdr) (l : Long) : (outstanding h l s).bus = s.bus := rfl
@[simp] theorem outstanding_sched (s : State) (h : Hdr) (l : Long) : (outstanding h l s).sched = s.sched := rfl
@[simp] theorem outstanding_checks (s : State) (h : Hdr) (l : Long) : (outstanding h l s).checks = s.checks := rfl
@[simp] theorem outstanding_trust (s : State) (h : Hdr) (l : Long) : (outstanding h l s).trust = s.trust := rfl
@[simp] theorem outstanding_fc (s : State) (h : Hdr) (l : Long) : (outstanding h l s).fc = s.fc := rfl
@[simp] theorem outstanding_board (s : State) (h : Hdr) (l : Long) : (outstanding h l s).board = s.board := rfl

/-! ### What they change -/

@[simp] theorem setFl_get (s : State) (n : Nat) (f : FallLine) : flGet (setFl s n f) n = f := by simp [flGet, setFl, tgetD]

@[simp] theorem setFn_get (s : State) (n : Nat) (f : Fn) : fnGet (setFn s n f) n = f := by simp [fnGet, setFn, tgetD]

theorem setFn_get_other (s : State) (n m : Nat) (f : Fn) (h : m ≠ n) : fnGet (setFn s n f) m = fnGet s m := by
  simp [fnGet, setFn, tgetD, tget_tput_other _ _ _ _ h]

@[simp] theorem setMbx_get (s : State) (n : Nat) (w : Bool) (m : Mbx) : mbxGet (setMbx s n w m) n w = m := by
  cases w <;> simp [mbxGet, setMbx]

@[simp] theorem setPort_get (s : State) (p : BusPort) (v : Port) : portGet (setPort s p v) p = v := by cases p <;> rfl

@[simp] theorem setPort_get_other (s : State) (p : BusPort) (v : Port) : portGet (setPort s p v) (otherPort p) = portGet s (otherPort p) := by
  cases p <;> rfl

/-- What the queue manager records beside a queue leaves the queues alone. -/
@[simp] theorem record_queues (n : Nat) (q : Queue) (m : Qm) : (record n q m).queues = m.queues := by
  unfold record; split <;> rfl

@[simp] theorem qSet_get (s : State) (n : Nat) (q : Queue) : qGet (qSet s n q) n = some q := by simp [qGet, qSet]

theorem qSet_get_other (s : State) (n m : Nat) (q : Queue) (h : m ≠ n) : qGet (qSet s n q) m = qGet s m := by
  simp [qGet, qSet, tget_tput_other _ _ _ _ h]

@[simp] theorem stSet_get (s : State) (n : Nat) (x : Stream) : stGet (stSet s n x) n = some x := by simp [stGet, stSet]

@[simp] theorem coreSet_get (s : State) (n : Nat) (x : Core) : coreGet (coreSet s n x) n = x := by simp [coreGet, coreSet, tgetD]

/-- A row never acts before its own instant or the present cycle. -/
theorem rowCycle_le (t : Nat) (fn : Option Nat) (s : State) : max s.keel.frc t ≤ rowCycle t fn s := by
  unfold rowCycle; split
  · dsimp only; split <;> omega
  · exact Nat.le_refl _

theorem runTo_frc (c : Nat) (s : State) :
    (runTo c s).keel.frc = if s.keel.powered && s.keel.sysref then c else s.keel.frc := by
  unfold runTo; split <;> rfl

theorem advance_frc (s : State) (t : Nat) :
    (advance t s).keel.frc = if s.keel.powered && s.keel.sysref then rowCycle t none s else s.keel.frc := runTo_frc _ _

/-- The FRC never goes back (R29). -/
theorem runTo_frc_le (t : Nat) (fn : Option Nat) (s : State) : s.keel.frc ≤ (runTo (rowCycle t fn s) s).keel.frc := by
  have := rowCycle_le t fn s
  rw [runTo_frc]; split <;> omega

/-- Time that passes changes the FRC and secure time, and nothing else of the keel. -/
theorem runTo_keel (c : Nat) (s : State) :
    (runTo c s).keel = { s.keel with frc := (runTo c s).keel.frc, secure := (runTo c s).keel.secure } := by
  unfold runTo; split <;> rfl

theorem advance_keel (s : State) (t : Nat) :
    (advance t s).keel = { s.keel with frc := (advance t s).keel.frc, secure := (advance t s).keel.secure } := runTo_keel _ s

/-- A response goes to the link, or waits among the held ones of its ring. -/
theorem respond_cases (s : State) (fn : Nat) (w : Bool) (r : Rsp) :
    respond fn w r s = { s with link := { s.link with compl := s.link.compl ++ [.rsp fn w r] } } ∨
    respond fn w r s = setMbx s fn w { mbxGet s fn w with held := (mbxGet s fn w).held ++ [r] } := by
  simp only [respond]; split
  · exact .inl rfl
  · exact .inr rfl

end Sys2Proof.Machine
end

