-- ==== Sys2Proof/Laws/Mailbox.lean ====
section
/-! SUPPORT. What a mailbox command can do: wait, fail a check with no effect, fail by its own rules, answer, or stay
outstanding (17 R396, R398). -/

namespace Sys2Proof.Machine

open Sys2Proof.Safety

variable {sp : Spec} {h : Hdr} {s t : State} {body : State → Except Status (State × Option Reply)}

/-- What it means to be served. -/
theorem servedBy_iff : servedBy sp h s = true ↔ startable sp h (advanceReq h s) = true ∧
    ((fetchedHead (mbxGet (advanceReq h s) h.fn h.warden)).map (fun f => f.bad)).getD false = false ∧
    checkReq sp h (begun sp h s) = none := by
  simp only [servedBy, Bool.and_eq_true, Bool.not_eq_true', Option.isNone_iff_eq_none, and_assoc]

/-- A request that cannot start yet leaves the machine as it is. -/
theorem mbx_waits (hs : startable sp h (advanceReq h s) = false) : mbx sp h s body = .next (advanceReq h s) := by
  unfold mbx
  simp [hs]

/-- A served request whose rules answer. -/
theorem mbx_answers {r : Reply} (hs : servedBy sp h s = true) (hb : body (begun sp h s) = .ok (t, some r)) :
    mbx sp h s body = .next (finish h r.1 r.2 t) := by
  obtain ⟨h1, h2, h3⟩ := servedBy_iff.1 hs
  unfold begun at hb h3
  unfold mbx
  simp only [h1, Bool.not_true, Bool.false_eq_true, if_false, h2, Bool.or_false]
  rw [h3]; simp only [hb]

/-- A served request that stays outstanding. -/
theorem mbx_goes_on (hs : servedBy sp h s = true) (hb : body (begun sp h s) = .ok (t, none)) : mbx sp h s body = .next t := by
  obtain ⟨h1, h2, h3⟩ := servedBy_iff.1 hs
  unfold begun at hb h3
  unfold mbx
  simp only [h1, Bool.not_true, Bool.false_eq_true, if_false, h2, Bool.or_false]
  rw [h3]; simp only [hb]

/-- A served request that its own rules refuse changes nothing else. -/
theorem mbx_fails {e : Status} (hs : servedBy sp h s = true) (hb : body (begun sp h s) = .error e) :
    mbx sp h s body = .next (finish h e [] (begun sp h s)) := by
  obtain ⟨h1, h2, h3⟩ := servedBy_iff.1 hs
  unfold begun at hb h3
  unfold mbx
  simp only [h1, Bool.not_true, Bool.false_eq_true, if_false, h2, Bool.or_false]
  rw [h3]; simp only [hb]; rfl

/-- A mailbox command always answers a next state. -/
theorem mbx_next : ∃ t, mbx sp h s body = .next t := by
  unfold mbx
  simp only
  repeat' split
  all_goals exact ⟨_, rfl⟩

end Sys2Proof.Machine
end

