-- ==== Sys2Proof/Laws/Requests.lean ====
section
/-! SUPPORT. Every row is a mailbox request, an event that always takes place, an event that names an object, or a
register write. -/

namespace Sys2Proof.Machine

open Sys2Proof.Safety

/-- A request's meaning is `mbx` with the columns of its table. -/
theorem request_body {c : Instr} {sp : Spec} {h : Hdr} (hc : request c = some (sp, h)) :
    ∃ body, ∀ s, exec c s = mbx sp h s body := by
  cases c <;> simp only [request, Option.some.injEq, Prod.mk.injEq, reduceCtorEq] at hc <;> obtain ⟨rfl, rfl⟩ := hc
  case devInfo => exact ⟨_, fun s => by unfold exec execDevInfo; rfl⟩
  case devConfig => exact ⟨_, fun s => by unfold exec execDevConfig; rfl⟩
  case engineReset => exact ⟨_, fun s => by unfold exec execEngineReset; rfl⟩
  case timeRead => exact ⟨_, fun s => by unfold exec execTimeRead; rfl⟩
  case timeSelect => exact ⟨_, fun s => by unfold exec execTimeSelect; rfl⟩
  case timeAdjust => exact ⟨_, fun s => by unfold exec execTimeAdjust; rfl⟩
  case timeServoSet => exact ⟨_, fun s => by unfold exec execTimeServoSet; rfl⟩
  case timePortSet => exact ⟨_, fun s => by unfold exec execTimePortSet; rfl⟩
  case timeFlSet => exact ⟨_, fun s => by unfold exec execTimeFlSet; rfl⟩
  case timeCmpArm => exact ⟨_, fun s => by unfold exec execTimeCmpArm; rfl⟩
  case timeCmpDisarm => exact ⟨_, fun s => by unfold exec execTimeCmpDisarm; rfl⟩
  case timeTrigSet => exact ⟨_, fun s => by unfold exec execTimeTrigSet; rfl⟩
  case timeCapSet => exact ⟨_, fun s => by unfold exec execTimeCapSet; rfl⟩
  case timeCapRead => exact ⟨_, fun s => by unfold exec execTimeCapRead; rfl⟩
  case queueCreate => exact ⟨_, fun s => by unfold exec execQueueCreate; rfl⟩
  case queueSet => exact ⟨_, fun s => by unfold exec execQueueSet; rfl⟩
  case queueQuery => exact ⟨_, fun s => by unfold exec execQueueQuery; rfl⟩
  case queueDestroy => exact ⟨_, fun s => by unfold exec execQueueDestroy; rfl⟩
  case queueAck => exact ⟨_, fun s => by unfold exec execQueueAck; rfl⟩
  case queueQuotaSet => exact ⟨_, fun s => by unfold exec execQueueQuotaSet; rfl⟩
  case queueStatsRead => exact ⟨_, fun s => by unfold exec execQueueStatsRead; rfl⟩
  case queueHistSet => exact ⟨_, fun s => by unfold exec execQueueHistSet; rfl⟩
  case queueHistRead => exact ⟨_, fun s => by unfold exec execQueueHistRead; rfl⟩
  case queueRingSet => exact ⟨_, fun s => by unfold exec execQueueRingSet; rfl⟩
  case streamCreate => exact ⟨_, fun s => by unfold exec execStreamCreate; rfl⟩
  case streamSet => exact ⟨_, fun s => by unfold exec execStreamSet; rfl⟩
  case streamDestroy => exact ⟨_, fun s => by unfold exec execStreamDestroy; rfl⟩
  case streamStatsRead => exact ⟨_, fun s => by unfold exec execStreamStatsRead; rfl⟩
  case streamRecover => exact ⟨_, fun s => by unfold exec execStreamRecover; rfl⟩
  case streamConceal => exact ⟨_, fun s => by unfold exec execStreamConceal; rfl⟩
  case assetVolumeOpen => exact ⟨_, fun s => by unfold exec execAssetVolumeOpen; rfl⟩
  case assetVolumeClose => exact ⟨_, fun s => by unfold exec execAssetVolumeClose; rfl⟩
  case assetContainerOpen => exact ⟨_, fun s => by unfold exec execAssetContainerOpen; rfl⟩
  case assetContainerClose => exact ⟨_, fun s => by unfold exec execAssetContainerClose; rfl⟩
  case assetRead => exact ⟨_, fun s => by unfold exec execAssetRead; rfl⟩
  case assetInstall => exact ⟨_, fun s => by unfold exec execAssetInstall; rfl⟩
  case assetStatsRead => exact ⟨_, fun s => by unfold exec execAssetStatsRead; rfl⟩
  case busPortSet => exact ⟨_, fun s => by unfold exec execBusPortSet; rfl⟩
  case busPortQuery => exact ⟨_, fun s => by unfold exec execBusPortQuery; rfl⟩
  case busPortRecover => exact ⟨_, fun s => by unfold exec execBusPortRecover; rfl⟩
  case busWake => exact ⟨_, fun s => by unfold exec execBusWake; rfl⟩
  case busFlowCreate => exact ⟨_, fun s => by unfold exec execBusFlowCreate; rfl⟩
  case busFlowSet => exact ⟨_, fun s => by unfold exec execBusFlowSet; rfl⟩
  case busFlowResume => exact ⟨_, fun s => by unfold exec execBusFlowResume; rfl⟩
  case busFlowDestroy => exact ⟨_, fun s => by unfold exec execBusFlowDestroy; rfl⟩
  case busFlowStats => exact ⟨_, fun s => by unfold exec execBusFlowStats; rfl⟩
  case busMbSet => exact ⟨_, fun s => by unfold exec execBusMbSet; rfl⟩
  case busMbSend => exact ⟨_, fun s => by unfold exec execBusMbSend; rfl⟩
  case busMbRead => exact ⟨_, fun s => by unfold exec execBusMbRead; rfl⟩
  case busMbRelease => exact ⟨_, fun s => by unfold exec execBusMbRelease; rfl⟩
  case busFilterSet => exact ⟨_, fun s => by unfold exec execBusFilterSet; rfl⟩
  case busInspectVerdict => exact ⟨_, fun s => by unfold exec execBusInspectVerdict; rfl⟩
  case busStatsRead => exact ⟨_, fun s => by unfold exec execBusStatsRead; rfl⟩
  case busTraverseSet => exact ⟨_, fun s => by unfold exec execBusTraverseSet; rfl⟩
  case busAnchorSet => exact ⟨_, fun s => by unfold exec execBusAnchorSet; rfl⟩
  case busAnchorQuery => exact ⟨_, fun s => by unfold exec execBusAnchorQuery; rfl⟩
  case busAnchorTakeover => exact ⟨_, fun s => by unfold exec execBusAnchorTakeover; rfl⟩
  case busGlobalIssue => exact ⟨_, fun s => by unfold exec execBusGlobalIssue; rfl⟩
  case busBarrierArrive => exact ⟨_, fun s => by unfold exec execBusBarrierArrive; rfl⟩
  case busPortStatsClear => exact ⟨_, fun s => by unfold exec execBusPortStatsClear; rfl⟩
  case schedHostSet => exact ⟨_, fun s => by unfold exec execSchedHostSet; rfl⟩
  case schedFnSet => exact ⟨_, fun s => by unfold exec execSchedFnSet; rfl⟩
  case schedShaperSet => exact ⟨_, fun s => by unfold exec execSchedShaperSet; rfl⟩
  case schedShaperBind => exact ⟨_, fun s => by unfold exec execSchedShaperBind; rfl⟩
  case schedShaperReset => exact ⟨_, fun s => by unfold exec execSchedShaperReset; rfl⟩
  case schedShaperRelease => exact ⟨_, fun s => by unfold exec execSchedShaperRelease; rfl⟩
  case schedPolicerSet => exact ⟨_, fun s => by unfold exec execSchedPolicerSet; rfl⟩
  case schedPolicerReset => exact ⟨_, fun s => by unfold exec execSchedPolicerReset; rfl⟩
  case schedGateSet => exact ⟨_, fun s => by unfold exec execSchedGateSet; rfl⟩
  case schedGateStart => exact ⟨_, fun s => by unfold exec execSchedGateStart; rfl⟩
  case schedGateStop => exact ⟨_, fun s => by unfold exec execSchedGateStop; rfl⟩
  case schedGateClass => exact ⟨_, fun s => by unfold exec execSchedGateClass; rfl⟩
  case schedStatsRead => exact ⟨_, fun s => by unfold exec execSchedStatsRead; rfl⟩
  case schedLatencySet => exact ⟨_, fun s => by unfold exec execSchedLatencySet; rfl⟩
  case schedLatencyRead => exact ⟨_, fun s => by unfold exec execSchedLatencyRead; rfl⟩
  case checkSet => exact ⟨_, fun s => by unfold exec execCheckSet; rfl⟩
  case checkRun => exact ⟨_, fun s => by unfold exec execCheckRun; rfl⟩
  case checkStateRead => exact ⟨_, fun s => by unfold exec execCheckStateRead; rfl⟩
  case checkStateWrite => exact ⟨_, fun s => by unfold exec execCheckStateWrite; rfl⟩
  case checkRelease => exact ⟨_, fun s => by unfold exec execCheckRelease; rfl⟩
  case trustInfo => exact ⟨_, fun s => by unfold exec execTrustInfo; rfl⟩
  case trustProvision => exact ⟨_, fun s => by unfold exec execTrustProvision; rfl⟩
  case trustLifecycleAdvance => exact ⟨_, fun s => by unfold exec execTrustLifecycleAdvance; rfl⟩
  case trustDebugUnlock => exact ⟨_, fun s => by unfold exec execTrustDebugUnlock; rfl⟩
  case trustFwStage => exact ⟨_, fun s => by unfold exec execTrustFwStage; rfl⟩
  case trustFwActivate => exact ⟨_, fun s => by unfold exec execTrustFwActivate; rfl⟩
  case trustFwCommit => exact ⟨_, fun s => by unfold exec execTrustFwCommit; rfl⟩
  case trustFwRecover => exact ⟨_, fun s => by unfold exec execTrustFwRecover; rfl⟩
  case trustPcbSet => exact ⟨_, fun s => by unfold exec execTrustPcbSet; rfl⟩
  case trustKeyLoad => exact ⟨_, fun s => by unfold exec execTrustKeyLoad; rfl⟩
  case trustKeyGenerate => exact ⟨_, fun s => by unfold exec execTrustKeyGenerate; rfl⟩
  case trustKeyErase => exact ⟨_, fun s => by unfold exec execTrustKeyErase; rfl⟩
  case trustAuthoritySet => exact ⟨_, fun s => by unfold exec execTrustAuthoritySet; rfl⟩
  case trustNodeRevoke => exact ⟨_, fun s => by unfold exec execTrustNodeRevoke; rfl⟩
  case trustSessionChallenge => exact ⟨_, fun s => by unfold exec execTrustSessionChallenge; rfl⟩
  case trustSessionOpen => exact ⟨_, fun s => by unfold exec execTrustSessionOpen; rfl⟩
  case trustSessionClose => exact ⟨_, fun s => by unfold exec execTrustSessionClose; rfl⟩
  case trustAttest => exact ⟨_, fun s => by unfold exec execTrustAttest; rfl⟩
  case trustTimeSet => exact ⟨_, fun s => by unfold exec execTrustTimeSet; rfl⟩
  case faultSet => exact ⟨_, fun s => by unfold exec execFaultSet; rfl⟩
  case faultThresholdSet => exact ⟨_, fun s => by unfold exec execFaultThresholdSet; rfl⟩
  case faultRead => exact ⟨_, fun s => by unfold exec execFaultRead; rfl⟩
  case faultLogRead => exact ⟨_, fun s => by unfold exec execFaultLogRead; rfl⟩
  case faultAck => exact ⟨_, fun s => by unfold exec execFaultAck; rfl⟩
  case faultCountRead => exact ⟨_, fun s => by unfold exec execFaultCountRead; rfl⟩
  case faultVerdict => exact ⟨_, fun s => by unfold exec execFaultVerdict; rfl⟩
  case faultXfSet => exact ⟨_, fun s => by unfold exec execFaultXfSet; rfl⟩
  case powerCapSet => exact ⟨_, fun s => by unfold exec execPowerCapSet; rfl⟩
  case powerQuery => exact ⟨_, fun s => by unfold exec execPowerQuery; rfl⟩
  case powerTelemetrySet => exact ⟨_, fun s => by unfold exec execPowerTelemetrySet; rfl⟩
  case pinClaim => exact ⟨_, fun s => by unfold exec execPinClaim; rfl⟩
  case pinRelease => exact ⟨_, fun s => by unfold exec execPinRelease; rfl⟩
  case pinQuery => exact ⟨_, fun s => by unfold exec execPinQuery; rfl⟩
  case pinGpioSet => exact ⟨_, fun s => by unfold exec execPinGpioSet; rfl⟩
  case pinGpioRead => exact ⟨_, fun s => by unfold exec execPinGpioRead; rfl⟩
  case diagCoreStats => exact ⟨_, fun s => by unfold exec execDiagCoreStats; rfl⟩
  case diagSelftest => exact ⟨_, fun s => by unfold exec execDiagSelftest; rfl⟩
  case diagTempRead => exact ⟨_, fun s => by unfold exec execDiagTempRead; rfl⟩
  case diagTraceRead => exact ⟨_, fun s => by unfold exec execDiagTraceRead; rfl⟩

/-- A row that is no request is an event, or a register write. -/
theorem event_body {c : Instr} (hc : request c = none) :
    (∃ t f, ∀ s, exec c s = ev t s f) ∨ (∃ ok t f, ∀ s, exec c s = evOn ok t s f) ∨
    ∃ t fn off w v, c = .registerWrite t fn off w v := by
  cases c <;> simp only [request, reduceCtorEq] at hc
  case engineResetDone => exact .inl ⟨_, _, fun s => by unfold exec execEngineResetDone; rfl⟩
  case mbxDoorbellWrite => exact .inr (.inl ⟨_, _, _, fun s => by unfold exec execMbxDoorbellWrite; rfl⟩)
  case stalePhaseRetry => exact .inr (.inl ⟨_, _, _, fun s => by unfold exec execStalePhaseRetry; rfl⟩)
  case mbxEnableSet => exact .inr (.inl ⟨_, _, _, fun s => by unfold exec execMbxEnableSet; rfl⟩)
  case mbxEnableClear => exact .inr (.inl ⟨_, _, _, fun s => by unfold exec execMbxEnableClear; rfl⟩)
  case mbxRspHeadWrite => exact .inr (.inl ⟨_, _, _, fun s => by unfold exec execMbxRspHeadWrite; rfl⟩)
  case queueDoorbellWrite => exact .inr (.inl ⟨_, _, _, fun s => by unfold exec execQueueDoorbellWrite; rfl⟩)
  case registerWrite => exact .inr (.inr ⟨_, _, _, _, _, rfl⟩)
  case submissionFetch => exact .inl ⟨_, _, fun s => by unfold exec execSubmissionFetch; rfl⟩
  case packetDelivery => exact .inl ⟨_, _, fun s => by unfold exec execPacketDelivery; rfl⟩
  case hostLinkWrite => exact .inl ⟨_, _, fun s => by unfold exec execHostLinkWrite; rfl⟩
  case msixHoldoffEnd => exact .inr (.inl ⟨_, _, _, fun s => by unfold exec execMsixHoldoffEnd; rfl⟩)
  case resetNAssert => exact .inl ⟨_, _, fun s => by unfold exec execResetNAssert; rfl⟩
  case resetNDeassert => exact .inl ⟨_, _, fun s => by unfold exec execResetNDeassert; rfl⟩
  case enterSnowplough => exact .inl ⟨_, _, fun s => by unfold exec execEnterSnowplough; rfl⟩
  case enterPiste => exact .inl ⟨_, _, fun s => by unfold exec execEnterPiste; rfl⟩
  case perstNAssert => exact .inl ⟨_, _, fun s => by unfold exec execPerstNAssert; rfl⟩
  case perstNDeassert => exact .inl ⟨_, _, fun s => by unfold exec execPerstNDeassert; rfl⟩
  case vfEnable => exact .inl ⟨_, _, fun s => by unfold exec execVfEnable; rfl⟩
  case vfReturnExpiry => exact .inl ⟨_, _, fun s => by unfold exec execVfReturnExpiry; rfl⟩
  case functionLevelReset => exact .inr (.inl ⟨_, _, _, fun s => by unfold exec execFunctionLevelReset; rfl⟩)
  case keelFeedOutOfWindow => exact .inl ⟨_, _, fun s => by unfold exec execKeelFeedOutOfWindow; rfl⟩
  case keelFeedRestored => exact .inl ⟨_, _, fun s => by unfold exec execKeelFeedRestored; rfl⟩
  case keelRevertExpiry => exact .inl ⟨_, _, fun s => by unfold exec execKeelRevertExpiry; rfl⟩
  case holdUpExpiry => exact .inl ⟨_, _, fun s => by unfold exec execHoldUpExpiry; rfl⟩
  case sysrefStop => exact .inl ⟨_, _, fun s => by unfold exec execSysrefStop; rfl⟩
  case tamperTrip => exact .inr (.inl ⟨_, _, _, fun s => by unfold exec execTamperTrip; rfl⟩)
  case s0Removal => exact .inl ⟨_, _, fun s => by unfold exec execS0Removal; rfl⟩
  case s0Insertion => exact .inl ⟨_, _, fun s => by unfold exec execS0Insertion; rfl⟩
  case s1LinkDown => exact .inl ⟨_, _, fun s => by unfold exec execS1LinkDown; rfl⟩
  case insertionWindowEnd => exact .inl ⟨_, _, fun s => by unfold exec execInsertionWindowEnd; rfl⟩
  case nvmeCompletion => exact .inl ⟨_, _, fun s => by unfold exec execNvmeCompletion; rfl⟩
  case nvmeCommandTimeout => exact .inl ⟨_, _, fun s => by unfold exec execNvmeCommandTimeout; rfl⟩
  case assetReadIssue => exact .inl ⟨_, _, fun s => by unfold exec execAssetReadIssue; rfl⟩
  case chunkVerify => exact .inl ⟨_, _, fun s => by unfold exec execChunkVerify; rfl⟩
  case decompressionDone => exact .inl ⟨_, _, fun s => by unfold exec execDecompressionDone; rfl⟩
  case assetRequestComplete => exact .inl ⟨_, _, fun s => by unfold exec execAssetRequestComplete; rfl⟩
  case cellWrite => exact .inl ⟨_, _, fun s => by unfold exec execCellWrite; rfl⟩
  case cellRead => exact .inl ⟨_, _, fun s => by unfold exec execCellRead; rfl⟩
  case dropRest => exact .inl ⟨_, _, fun s => by unfold exec execDropRest; rfl⟩
  case queueRebuildDone => exact .inl ⟨_, _, fun s => by unfold exec execQueueRebuildDone; rfl⟩
  case freeListRebuildDone => exact .inl ⟨_, _, fun s => by unfold exec execFreeListRebuildDone; rfl⟩
  case histogramSample => exact .inl ⟨_, _, fun s => by unfold exec execHistogramSample; rfl⟩
  case dispatchCycle => exact .inl ⟨_, _, fun s => by unfold exec execDispatchCycle; rfl⟩
  case progressReport => exact .inr (.inl ⟨_, _, _, fun s => by unfold exec execProgressReport; rfl⟩)
  case runCommit => exact .inr (.inl ⟨_, _, _, fun s => by unfold exec execRunCommit; rfl⟩)
  case coreFault => exact .inr (.inl ⟨_, _, _, fun s => by unfold exec execCoreFault; rfl⟩)
  case runWatchdogExpiry => exact .inr (.inl ⟨_, _, _, fun s => by unfold exec execRunWatchdogExpiry; rfl⟩)
  case laneTestDone => exact .inr (.inl ⟨_, _, _, fun s => by unfold exec execLaneTestDone; rfl⟩)
  case thermalEvaluation => exact .inr (.inl ⟨_, _, _, fun s => by unfold exec execThermalEvaluation; rfl⟩)
  case slowCoreCheck => exact .inr (.inl ⟨_, _, _, fun s => by unfold exec execSlowCoreCheck; rfl⟩)
  case powerCapTick => exact .inl ⟨_, _, fun s => by unfold exec execPowerCapTick; rfl⟩
  case lookaheadAnalysisDone => exact .inl ⟨_, _, fun s => by unfold exec execLookaheadAnalysisDone; rfl⟩
  case laGuardRelease => exact .inl ⟨_, _, fun s => by unfold exec execLaGuardRelease; rfl⟩
  case sliceIntake => exact .inl ⟨_, _, fun s => by unfold exec execSliceIntake; rfl⟩
  case displayConcealment => exact .inl ⟨_, _, fun s => by unfold exec execDisplayConcealment; rfl⟩
  case lateLimitExpiry => exact .inl ⟨_, _, fun s => by unfold exec execLateLimitExpiry; rfl⟩
  case concealmentDone => exact .inl ⟨_, _, fun s => by unfold exec execConcealmentDone; rfl⟩
  case recoveryRepeat => exact .inl ⟨_, _, fun s => by unfold exec execRecoveryRepeat; rfl⟩
  case recoverMessageRx => exact .inl ⟨_, _, fun s => by unfold exec execRecoverMessageRx; rfl⟩
  case comparatorFire => exact .inr (.inl ⟨_, _, _, fun s => by unfold exec execComparatorFire; rfl⟩)
  case flFrameEdge => exact .inr (.inl ⟨_, _, _, fun s => by unfold exec execFlFrameEdge; rfl⟩)
  case flLineEdge => exact .inr (.inl ⟨_, _, _, fun s => by unfold exec execFlLineEdge; rfl⟩)
  case flFlywheelTimeout => exact .inr (.inl ⟨_, _, _, fun s => by unfold exec execFlFlywheelTimeout; rfl⟩)
  case flChangeApply => exact .inr (.inl ⟨_, _, _, fun s => by unfold exec execFlChangeApply; rfl⟩)
  case flAnchorTx => exact .inr (.inl ⟨_, _, _, fun s => by unfold exec execFlAnchorTx; rfl⟩)
  case flAnchorRx => exact .inl ⟨_, _, fun s => by unfold exec execFlAnchorRx; rfl⟩
  case relayAnchorTimeout => exact .inr (.inl ⟨_, _, _, fun s => by unfold exec execRelayAnchorTimeout; rfl⟩)
  case capEdge => exact .inr (.inl ⟨_, _, _, fun s => by unfold exec execCapEdge; rfl⟩)
  case syncTx => exact .inl ⟨_, _, fun s => by unfold exec execSyncTx; rfl⟩
  case syncRx => exact .inl ⟨_, _, fun s => by unfold exec execSyncRx; rfl⟩
  case followUpRx => exact .inl ⟨_, _, fun s => by unfold exec execFollowUpRx; rfl⟩
  case delayReqRx => exact .inl ⟨_, _, fun s => by unfold exec execDelayReqRx; rfl⟩
  case delayRspRx => exact .inl ⟨_, _, fun s => by unfold exec execDelayRspRx; rfl⟩
  case syncMissHoldover => exact .inl ⟨_, _, fun s => by unfold exec execSyncMissHoldover; rfl⟩
  case residualSlewDone => exact .inl ⟨_, _, fun s => by unfold exec execResidualSlewDone; rfl⟩
  case arbitrationAttempt => exact .inl ⟨_, _, fun s => by unfold exec execArbitrationAttempt; rfl⟩
  case frameReceive => exact .inl ⟨_, _, fun s => by unfold exec execFrameReceive; rfl⟩
  case creditRx => exact .inl ⟨_, _, fun s => by unfold exec execCreditRx; rfl⟩
  case flowOpenRx => exact .inl ⟨_, _, fun s => by unfold exec execFlowOpenRx; rfl⟩
  case flowOpenRepeat => exact .inl ⟨_, _, fun s => by unfold exec execFlowOpenRepeat; rfl⟩
  case creditRefresh => exact .inl ⟨_, _, fun s => by unfold exec execCreditRefresh; rfl⟩
  case holdoffExpiry => exact .inl ⟨_, _, fun s => by unfold exec execHoldoffExpiry; rfl⟩
  case dedupAgeExpiry => exact .inl ⟨_, _, fun s => by unfold exec execDedupAgeExpiry; rfl⟩
  case headFrameAged => exact .inl ⟨_, _, fun s => by unfold exec execHeadFrameAged; rfl⟩
  case openTimeoutExpiry => exact .inl ⟨_, _, fun s => by unfold exec execOpenTimeoutExpiry; rfl⟩
  case hostTimeLaunch => exact .inl ⟨_, _, fun s => by unfold exec execHostTimeLaunch; rfl⟩
  case integrationDone => exact .inl ⟨_, _, fun s => by unfold exec execIntegrationDone; rfl⟩
  case portDisableAtIdle => exact .inl ⟨_, _, fun s => by unfold exec execPortDisableAtIdle; rfl⟩
  case busoffRecoveryDone => exact .inl ⟨_, _, fun s => by unfold exec execBusoffRecoveryDone; rfl⟩
  case stuckDominantCutoff => exact .inl ⟨_, _, fun s => by unfold exec execStuckDominantCutoff; rfl⟩
  case lineHeldDominant => exact .inl ⟨_, _, fun s => by unfold exec execLineHeldDominant; rfl⟩
  case dataDriverRunaway => exact .inl ⟨_, _, fun s => by unfold exec execDataDriverRunaway; rfl⟩
  case busWakeDetect => exact .inl ⟨_, _, fun s => by unfold exec execBusWakeDetect; rfl⟩
  case heartbeatTx => exact .inl ⟨_, _, fun s => by unfold exec execHeartbeatTx; rfl⟩
  case heartbeatRx => exact .inl ⟨_, _, fun s => by unfold exec execHeartbeatRx; rfl⟩
  case primarySilentSwitch => exact .inl ⟨_, _, fun s => by unfold exec execPrimarySilentSwitch; rfl⟩
  case partnerSilent => exact .inl ⟨_, _, fun s => by unfold exec execPartnerSilent; rfl⟩
  case anchorTakeoverCheck => exact .inl ⟨_, _, fun s => by unfold exec execAnchorTakeoverCheck; rfl⟩
  case gopRequestRx => exact .inl ⟨_, _, fun s => by unfold exec execGopRequestRx; rfl⟩
  case globalOpRx => exact .inl ⟨_, _, fun s => by unfold exec execGlobalOpRx; rfl⟩
  case globalOpExecute => exact .inl ⟨_, _, fun s => by unfold exec execGlobalOpExecute; rfl⟩
  case globalIssueTimeout => exact .inl ⟨_, _, fun s => by unfold exec execGlobalIssueTimeout; rfl⟩
  case barrierReportRx => exact .inl ⟨_, _, fun s => by unfold exec execBarrierReportRx; rfl⟩
  case barrierTimeout => exact .inl ⟨_, _, fun s => by unfold exec execBarrierTimeout; rfl⟩
  case enrollRecordRx => exact .inl ⟨_, _, fun s => by unfold exec execEnrollRecordRx; rfl⟩
  case enrollTimeout => exact .inl ⟨_, _, fun s => by unfold exec execEnrollTimeout; rfl⟩
  case gateEntryBoundary => exact .inl ⟨_, _, fun s => by unfold exec execGateEntryBoundary; rfl⟩
  case checkFeedPacket => exact .inr (.inl ⟨_, _, _, fun s => by unfold exec execCheckFeedPacket; rfl⟩)
  case faultMessage => exact .inr (.inl ⟨_, _, _, fun s => by unfold exec execFaultMessage; rfl⟩)
  case faultVerdictTimeout => exact .inr (.inl ⟨_, _, _, fun s => by unfold exec execFaultVerdictTimeout; rfl⟩)
  case logIntakeDrain => exact .inl ⟨_, _, fun s => by unfold exec execLogIntakeDrain; rfl⟩
  case xfPairChange => exact .inr (.inl ⟨_, _, _, fun s => by unfold exec execXfPairChange; rfl⟩)
  case xfBrokenExpiry => exact .inr (.inl ⟨_, _, _, fun s => by unfold exec execXfBrokenExpiry; rfl⟩)
  case fltReadbackMismatch => exact .inl ⟨_, _, fun s => by unfold exec execFltReadbackMismatch; rfl⟩
  case sysrefReturn => exact .inl ⟨_, _, fun s => by unfold exec execSysrefReturn; rfl⟩
  case mainDomainResetRelease => exact .inl ⟨_, _, fun s => by unfold exec execMainDomainResetRelease; rfl⟩
  case hbmTrainingDone => exact .inl ⟨_, _, fun s => by unfold exec execHbmTrainingDone; rfl⟩
  case holdOffLevelReset => exact .inl ⟨_, _, fun s => by unfold exec execHoldOffLevelReset; rfl⟩
  case lineIdleAfterHold => exact .inl ⟨_, _, fun s => by unfold exec execLineIdleAfterHold; rfl⟩
  case memberHeartbeatAgeOut => exact .inl ⟨_, _, fun s => by unfold exec execMemberHeartbeatAgeOut; rfl⟩
  case tjThresholdCrossing => exact .inr (.inl ⟨_, _, _, fun s => by unfold exec execTjThresholdCrossing; rfl⟩)
  case fltReadbackRestored => exact .inl ⟨_, _, fun s => by unfold exec execFltReadbackRestored; rfl⟩
  case hostLinkRetrain => exact .inl ⟨_, _, fun s => by unfold exec execHostLinkRetrain; rfl⟩

end Sys2Proof.Machine
end

