-- ==== Sys2Proof/Tests/Slice0.lean ====
section
/-! SUPPORT. Tests: an ill-formed term for each check of WellFormed, worked examples of the spec run for one step, and
for every obligation with hypotheses a state and operands that meet all of them. -/

set_option maxRecDepth 100000

namespace Sys2Proof.Tests

open Sys2Proof Sys2Proof.Machine Sys2Proof.Safety

/-! ### Small states -/

/-- The engine in PISTE with the link up, as the tests begin. -/
def base : State :=
  { eng := .piste, resetN := false, trust := { fwRuns := true, pcbOk := true }
    link := { up := true, perst := false, fns := [(0, { mbx := { ready := true } })], warden := { ready := true } }
    fc := { running := true } }

/-- A request of the PF at FRC 10, and one of the warden. -/
def hd : Hdr := { time := 10, fn := 0, warden := false, tag := 0, rsvd := false, fence := false, noInt := false, room := 4096 }
def hw : Hdr := { hd with warden := true }

/-- A queue of the PF whose words are zero, alone in the engine as queue 5. -/
def qw : QWords := ⟨0, 0, 0, 0, 0, 0, 0⟩
def q0 : Queue := { w := qw }
def withQ (y : Queue) : State := { base with qm := { queues := [(5, y)] } }

/-- An encode and a decode stream of the PF, and one of them alone in the engine as stream 3. -/
def st0 : Stream := { owner := 0, kind := .encode }
def dec0 : Stream := { owner := 0, kind := .decode }
def withS (x : Stream) : State := { base with arr := { streams := [(3, x)] } }

/-- A live port, and OA in a given state. -/
def live : Port := { enabled := true, integrated := true }
def withA (v : Port) : State := { base with bus := { oa := v } }
/-- The state after a command, and after a step. -/
def nextOf (o : Host.Outcome State Fault Refusal) : State := match o with | .next t => t | _ => {}
def exec1 (c : Instr) (s : State) : State := nextOf (exec c s)
def step1 (s : State) : State := nextOf (step s)

/-- Small records that the states below are made of. -/
def area0 : Area := ⟨1, 0, 0, 0, 0, 0, 0, 0, false, none, 0, true, 0⟩
def bus0 : BusInfo := { src := 7, flow := 0, cls := 2, seq := 0, stamp := 0, port := .oa, dkind := 0, dst := 0, urg := 0, recvFrc := 0, auth := false }
def pkt0 : Pkt := { seq := 0, cells := [], closed := true, visible := true, bus := some bus0 }
def frame0 : Frame :=
  { urg := 512, cls := 2, src := 7, fdf := false, dkind := 0, dst := 0xFFF0, flow := 1, seq := 0, frag := 3, len := 0, auth := false, kph := false, hcrcOk := true, bodyOk := true, tagOk := true, payload := [] }
def cu0 : CheckUnit := { owner := 0, f := [], p := ⟨8, 7, 0, false, false, 0, false⟩, strip := false, ctx := ⟨0, [], 0, false⟩ }
def rec0 : FaultRec :=
  { source := 64, kind := 1, held := false, severity := 1, sameCycle := false, transient := false, live := false, verdictDue := false, acked := false, reaction := 0, state := .piste, address := 0, frc := 0, logIndex := 0, count := 1 }
def run0 : Run := { stream := 3, job := 0, start := 0, busyFrom := 0, second := false, firstDur := 0, pixels := 64, lastRep := 0, estAt := 0, rate := 0, fin := 0, load := false }
/-- The first 504 bytes of the header of a container of one STORED chunk (08 Table 8-2). -/
def hacFront : List Byte :=
  [0x48, 0x41, 0x43, 0x31, 1, 0, 0, 0] ++ leBytes 8 8248 ++ leBytes 4 1 ++ leBytes 4 0 ++ leBytes 16 9 ++ leBytes 8 4096 ++
  leBytes 4 32 ++ List.replicate 28 0 ++ leBytes 8 512 ++ leBytes 4 64 ++ List.replicate 412 0
/-- CRC-64/WE of those bytes (14 Table 14-3). -/
def hacCrc : Nat :=
  let p : CrcParams := ⟨64, 0x42F0E1EBA9EA3693, 0xFFFFFFFFFFFFFFFF, false, false, 0xFFFFFFFFFFFFFFFF, false⟩
  crcFinal p (crcFeed p 0 p.init hacFront)
def hac1 : HacFacts :=
  { header := hacFront ++ leBytes 8 hacCrc, table := leBytes 8 8192 ++ leBytes 4 56 ++ leBytes 4 1 ++ List.replicate 16 0, blobOk := true, expiry := 0
    headerTagOk := true, tableTagOk := true }
theorem hacFront_length : hacFront.length = 504 := by decide +kernel
theorem hacCrc_lt : hacCrc < 256 ^ 8 := by
  rw [show (256 : Nat) ^ 8 = 2 ^ 64 from by decide]
  unfold hacCrc
  generalize hacFront = l
  have h := crcFeed_lt ⟨64, 0x42F0E1EBA9EA3693, 0xFFFFFFFFFFFFFFFF, false, false, 0xFFFFFFFFFFFFFFFF, false⟩ 0
    0xFFFFFFFFFFFFFFFF l (by decide) (by decide)
  exact Nat.xor_lt_two_pow h (by decide)
/-- A header that ends in its own check value is accepted (08 Table 8-2). -/
theorem magic_of_front (l : List Byte) (f : HacFacts) (c : Nat) (hf : f.header = l ++ leBytes 8 c) (hl : l.length = 504)
    (hc : c < 256 ^ 8) (h0 : leAt l 0 4 = 0x31434148) (h4 : leAt l 4 2 = 1)
    (h : ∀ p, presetOf 3 = some p → c = crcFinal p (crcFeed p 0 p.init l)) : hacMagicOk f = true := by
  have a : leAt (l ++ leBytes 8 c) 504 8 = c := by rw [← hl]; exact leAt_append_leBytes l 8 c hc
  have b : (l ++ leBytes 8 c).take 504 = l := List.take_left' hl
  have e : (l ++ leBytes 8 c).length = 512 := by simp [hl]
  have t0 : leAt (l ++ leBytes 8 c) 0 4 = leAt l 0 4 := by
    unfold leAt; rw [List.drop_zero, List.drop_zero, List.take_append_of_le_length (by omega)]
  have t4 : leAt (l ++ leBytes 8 c) 4 2 = leAt l 4 2 := by
    unfold leAt; rw [List.drop_append_of_le_length (by omega), List.take_append_of_le_length (by simp; omega)]
  unfold hacMagicOk
  rw [hf, a, b, e, t0, t4, h0, h4]
  cases hp : presetOf 3 with
  | none => simp [presetOf] at hp
  | some p => simp [h p hp]
theorem hac1_magic : hacMagicOk hac1 = true := by
  refine magic_of_front hacFront hac1 hacCrc rfl hacFront_length hacCrc_lt (by decide +kernel) (by decide +kernel) ?_
  intro p hp
  unfold hacCrc
  generalize hacFront = l
  simp only [presetOf, Option.some.injEq] at hp
  subst hp
  rfl
/-- The bytes of a run's chain: a record and a tile group OBU of one byte (05 Table 5-8, R128). -/
def enc1 : List Byte := List.replicate 32 0 ++ [0x22, 1, 0x80]
def rep0 : RunReport :=
  { hdrBits := 0, intraBits := 0, interBits := 0, damage := 0, dirty := [], shown := true, fastpath := 0, outOk := true, grain := false, wholeOut := none }

/-! ### Well-formedness -/

/-- A header that names no function. -/
def hb : Hdr := { hd with fn := 64 }

/-- One ill-formed command or event for each check of `Instr.wf` on its own fields. -/
def illFormed1 : List Instr :=
  [.devConfig hd 65536 false none, .timeSelect hd 256, .timeAdjust hd 256 false false 0 0, .timeServoSet hd 256 [],
   .timePortSet hd 256 [], .timeFlSet hd 256 [], .timeCmpArm hd 256 [], .timeCmpDisarm hd 256, .timeTrigSet hd 256 [],
   .timeCapSet hd 256 0 [], .timeCapRead hd 256 0, .timeCapRead hd 0 256, .queueCreate hd (some 65536) qw, .queueSet
   hd 65536 0 qw, .queueSet hd 0 65536 qw, .queueQuery hd 65536, .queueDestroy hd 65536 false, .queueAck hd 65536 0,
   .queueAck hd 0 65536, .queueQuotaSet hd 256 0, .queueQuotaSet hd 0 4294967296, .queueStatsRead hd 65536 false,
   .queueHistSet hd 65536 0 [], .queueHistSet hd 0 256 [], .queueHistRead hd 65536 false, .streamSet hd 65536 false
   [], .streamDestroy hd 65536 false, .streamStatsRead hd 65536 false, .streamRecover hd 65536 0 0 0, .streamRecover
   hd 0 4294967296 0 0, .streamRecover hd 0 0 65536 0, .streamRecover hd 0 0 0 65536, .streamConceal hd 65536 0 0,
   .streamConceal hd 0 256 0, .streamConceal hd 0 0 4294967296, .assetVolumeOpen hd 256 0 0 0 0 (⟨true, 512, false,
   false, 1⟩), .assetVolumeOpen hd 0 256 0 0 0 (⟨true, 512, false, false, 1⟩), .assetVolumeOpen hd 0 0 4294967296 0 0
   (⟨true, 512, false, false, 1⟩), .assetVolumeOpen hd 0 0 0 18446744073709551616 0 (⟨true, 512, false, false, 1⟩),
   .assetVolumeOpen hd 0 0 0 0 18446744073709551616 (⟨true, 512, false, false, 1⟩)]

/-- One ill-formed command or event for each check of `Instr.wf` on its own fields. -/
def illFormed2 : List Instr :=
  [.assetVolumeClose hd 65536 false, .assetContainerOpen hd 65536 0 hac1, .assetContainerOpen hd 0
   18446744073709551616 hac1, .assetContainerClose hd 65536 false, .assetInstall hd 65536 0 0 0 hac1 false false,
   .assetInstall hd 0 65536 0 0 hac1 false false, .assetInstall hd 0 0 18446744073709551616 0 hac1 false false,
   .assetInstall hd 0 0 0 18446744073709551616 hac1 false false, .assetStatsRead hd 256 false, .busPortSet hd 256 [],
   .busPortQuery hd 256, .busPortRecover hd 256, .busWake hd 256, .busFlowSet hd 256 0 [], .busFlowSet hd 0 65536 [],
   .busFlowResume hd 256 false 0, .busFlowResume hd 0 false 65536, .busFlowDestroy hd 256 false 0, .busFlowDestroy hd
   0 false 65536, .busFlowStats hd 256 false 0, .busFlowStats hd 0 false 65536, .busMbSet hd 256 0 [], .busMbSet hd 0
   256 [], .busMbSend hd 256 0 0 [], .busMbSend hd 0 256 0 [], .busMbSend hd 0 0 256 [], .busMbRead hd 256 0,
   .busMbRead hd 0 256, .busMbRelease hd 256 0, .busMbRelease hd 0 256, .busFilterSet hd 256 0 [], .busFilterSet hd 0
   65536 [], .busInspectVerdict hd 256 0 0, .busInspectVerdict hd 0 256 0, .busInspectVerdict hd 0 0 65536,
   .busStatsRead hd 256 false, .busAnchorQuery hd 256, .busAnchorTakeover hd 256, .busGlobalIssue hd 256 0,
   .busGlobalIssue hd 0 18446744073709551616]

/-- One ill-formed command or event for each check of `Instr.wf` on its own fields. -/
def illFormed3 : List Instr :=
  [.busBarrierArrive hd 65536, .busPortStatsClear hd 256, .schedFnSet hd 256 false [], .schedShaperSet hd (some 65536)
   [], .schedShaperBind hd (some 65536) 0 0 0, .schedShaperBind hd none 256 0 0, .schedShaperBind hd none 0 256 0,
   .schedShaperBind hd none 0 0 65536, .schedShaperReset hd 65536, .schedShaperRelease hd 65536, .schedPolicerSet hd
   (some 65536) [], .schedPolicerReset hd 65536 false, .schedGateSet hd 256 (⟨0, 0, ⟨0, 0, 0⟩, 65536000, 0, []⟩),
   .schedGateStart hd 256, .schedGateStop hd 256, .schedGateClass hd 256 0 none, .schedGateClass hd 0 256 none,
   .schedGateClass hd 0 0 (some 256), .schedLatencySet hd 65536 0, .schedLatencySet hd 0 4294967296, .schedLatencyRead
   hd 65536 false false, .checkSet hd (some 256) [], .checkRun hd 256 false false false 0 0 [] false false, .checkRun
   hd 0 false false false 256 0 [] false false, .checkRun hd 0 false false false 0 18446744073709551616 [] false
   false, .checkStateRead hd 256, .checkStateWrite hd 256 cu0.ctx, .checkStateWrite hd 0 ⟨18446744073709551616, [], 0,
   false⟩, .checkStateWrite hd 0 ⟨0, List.replicate 256 0, 0, false⟩, .checkStateWrite hd 0 ⟨0, [], 281474976710656,
   false⟩, .checkRelease hd 256 false, .trustLifecycleAdvance hd 256 0 0 false false, .trustKeyLoad hd (some 256)
   (⟨true, 1, 1, true, true, false, 0, false, 0, 0⟩), .trustKeyGenerate hd (some 256), .trustKeyErase hd 256,
   .trustAuthoritySet hd 256 0, .trustAuthoritySet hd 0 65536, .trustNodeRevoke hd 256 0 0, .trustNodeRevoke hd 0
   65536 0, .trustNodeRevoke hd 0 0 340282366920938463463374607431768211456]

/-- One ill-formed command or event for each check of `Instr.wf` on its own fields. -/
def illFormed4 : List Instr :=
  [.trustSessionOpen hd 0 false false 65536, .trustSessionClose hd 4294967296, .faultSet hd 65536 0 0 0 0, .faultSet
   hd 0 65536 0 0 0, .faultSet hd 0 0 256 0 0, .faultSet hd 0 0 0 256 0, .faultSet hd 0 0 0 0 65536,
   .faultThresholdSet hd 256 0, .faultThresholdSet hd 0 256, .faultRead hd 256, .faultLogRead hd 256 0, .faultLogRead
   hd 0 256, .faultAck hd 65536 0, .faultAck hd 0 65536, .faultCountRead hd 65536 0 false, .faultCountRead hd 0 65536
   false, .faultVerdict hd 4294967296 0, .faultVerdict hd 0 256, .faultXfSet hd 256, .powerCapSet hd 4294967296,
   .powerTelemetrySet hd 65536 0 0 0, .powerTelemetrySet hd 0 256 0 0, .powerTelemetrySet hd 0 0 256 0,
   .powerTelemetrySet hd 0 0 0 256, .pinClaim hd 256 none, .pinClaim hd 0 (some 65536), .pinRelease hd 256 false 0,
   .pinRelease hd 0 false 65536, .pinQuery hd 256 0, .pinQuery hd 0 65536, .pinGpioSet hd 256 0 0, .pinGpioSet hd 0
   256 0, .pinGpioSet hd 0 0 256, .pinGpioRead hd 256 false, .diagTraceRead hd 4294967296 0, .diagTraceRead hd 0
   18446744073709551616, .mbxDoorbellWrite 0 64 false 0 [], .mbxDoorbellWrite 0 1 true 0 [], .stalePhaseRetry 0 64
   false (⟨0, 0, 0, false, false, false, false, false, true⟩), .stalePhaseRetry 0 1 true (⟨0, 0, 0, false, false,
   false, false, false, true⟩)]

/-- One ill-formed command or event for each check of `Instr.wf` on its own fields. -/
def illFormed5 : List Instr :=
  [.mbxEnableSet 0 64 false 0, .mbxEnableSet 0 1 true 0, .mbxEnableClear 0 64 false, .mbxEnableClear 0 1 true,
   .mbxRspHeadWrite 0 64 false 0, .mbxRspHeadWrite 0 1 true 0, .queueDoorbellWrite 0 64 0 0, .queueDoorbellWrite 0 0
   8192 0, .registerWrite 0 64 0 0 0, .registerWrite 0 0 18446744073709551616 0 0, .registerWrite 0 0 0 9 0,
   .submissionFetch 0 32768 (⟨[], [], 0, []⟩), .packetDelivery 0 32768 0 0, .packetDelivery 0 0 18446744073709551616
   0, .packetDelivery 0 0 0 4294967296, .msixHoldoffEnd 0 64 0, .msixHoldoffEnd 0 0 256, .vfEnable 0 64,
   .vfReturnExpiry 0 64, .functionLevelReset 0 64, .tamperTrip 0 0x1F, .tamperTrip 0 0x25, .cellWrite 0 32768 (⟨true,
   true, false, [], 0, none, false, false, false⟩), .cellRead 0 32768 false, .dropRest 0 32768 false,
   .queueRebuildDone 0 32768 [], .progressReport 0 16 0, .runCommit 0 16 rep0, .coreFault 0 16 0 0, .coreFault 0 0 0
   6, .coreFault 0 0 5 0, .runWatchdogExpiry 0 16, .laneTestDone 0 16 0 false, .laneTestDone 0 0 6 false,
   .thermalEvaluation 0 16 0, .slowCoreCheck 0 16 (⟨0, false⟩), .lookaheadAnalysisDone 0 65536 0 0,
   .lookaheadAnalysisDone 0 0 4294967296 0, .laGuardRelease 0 65536 0, .sliceIntake 0 65536 0 []]

/-- One ill-formed command or event for each check of `Instr.wf` on its own fields. -/
def illFormed6 : List Instr :=
  [.displayConcealment 0 65536, .lateLimitExpiry 0 65536, .concealmentDone 0 65536, .recoveryRepeat 0 65536,
   .comparatorFire 0 ⟨64, false⟩, .flFrameEdge 0 16 0, .flLineEdge 0 16 0, .flFlywheelTimeout 0 16, .flChangeApply 0
   16, .flAnchorTx 0 16, .relayAnchorTimeout 0 16, .capEdge 0 4 false 0, .arbitrationAttempt 0 .oa [] ⟨.slot true true
   0, 64, 0⟩, .frameReceive 0 .oa { frame0 with urg := 1024 } none, .frameReceive 0 .oa { frame0 with cls := 64 }
   none, .frameReceive 0 .oa { frame0 with src := 65536 } none, .frameReceive 0 .oa { frame0 with dkind := 4 } none,
   .frameReceive 0 .oa { frame0 with dst := 65536 } none, .frameReceive 0 .oa { frame0 with flow := 32768 } none,
   .frameReceive 0 .oa { frame0 with seq := 65536 } none, .frameReceive 0 .oa { frame0 with frag := 4 } none,
   .frameReceive 0 .oa { frame0 with len := 4096 } none, .creditRx 0 .oa 65536 0 0 0, .creditRx 0 .oa 0 65536 0 0,
   .flowOpenRx 0 .oa 65536 0 0 0 false, .flowOpenRx 0 .oa 0 65536 0 0 false, .flowOpenRepeat 0 .oa 65536,
   .creditRefresh 0 .oa 65536, .holdoffExpiry 0 .oa 65536, .dedupAgeExpiry 0 .oa 65536 0, .dedupAgeExpiry 0 .oa 0
   65536, .headFrameAged 0 .oa 65536, .openTimeoutExpiry 0 .oa 65536, .hostTimeLaunch 0 .oa 65536, .globalOpExecute 0
   65536 0, .globalOpExecute 0 0 65536, .globalIssueTimeout 0 65536, .barrierReportRx 0 .oa 65536 0 false,
   .barrierReportRx 0 .oa 0 65536 false, .barrierTimeout 0 65536]

/-- One ill-formed command or event for each check of `Instr.wf` on its own fields. -/
def illFormed7 : List Instr :=
  [.enrollTimeout 0 .oa 65536, .checkFeedPacket 0 ⟨8, true⟩, .faultMessage 0 [⟨1024, 1, false, 0⟩],
   .faultVerdictTimeout 0 1024, .xfPairChange 0 4 false false, .xfBrokenExpiry 0 4, .memberHeartbeatAgeOut 0 .oa
   65536, .tjThresholdCrossing 0 24 0]

theorem test_wf_refuses_illFormed1 : illFormed1.all (fun i => !i.wf) = true := by decide

theorem test_wf_refuses_illFormed2 : illFormed2.all (fun i => !i.wf) = true := by decide

theorem test_wf_refuses_illFormed3 : illFormed3.all (fun i => !i.wf) = true := by decide

theorem test_wf_refuses_illFormed4 : illFormed4.all (fun i => !i.wf) = true := by decide

theorem test_wf_refuses_illFormed5 : illFormed5.all (fun i => !i.wf) = true := by decide

theorem test_wf_refuses_illFormed6 : illFormed6.all (fun i => !i.wf) = true := by decide

theorem test_wf_refuses_illFormed7 : illFormed7.all (fun i => !i.wf) = true := by decide

theorem test_wf_header :
    Hdr.wf hd = true ∧ Hdr.wf hw = true ∧ Hdr.wf { hd with fn := 64 } = false ∧ Hdr.wf { hw with fn := 1 } = false ∧
    Hdr.wf { hd with tag := 65536 } = false ∧ Hdr.wf { hd with room := 4294967296 } = false := by decide

/-- Each request with a header that names no function. -/
def badHeader1 : List Instr :=
  [.devInfo hb, .devConfig hb 0 false none, .engineReset hb, .timeRead hb, .timeSelect hb 0, .timeAdjust hb 0 false
   false 0 0, .timeServoSet hb 0 [], .timePortSet hb 0 [], .timeFlSet hb 0 [], .timeCmpArm hb 0 [], .timeCmpDisarm hb
   0, .timeTrigSet hb 0 [], .timeCapSet hb 0 0 [], .timeCapRead hb 0 0, .queueCreate hb none qw, .queueSet hb 0 0 qw,
   .queueQuery hb 0, .queueDestroy hb 0 false, .queueAck hb 0 0, .queueQuotaSet hb 0 0, .queueStatsRead hb 0 false,
   .queueHistSet hb 0 0 [], .queueHistRead hb 0 false, .queueRingSet hb (⟨0, 0, 6, 0, 0, 0, 0, 0⟩), .streamCreate hb
   [], .streamSet hb 0 false [], .streamDestroy hb 0 false, .streamStatsRead hb 0 false, .streamRecover hb 0 0 0 0,
   .streamConceal hb 0 0 0, .assetVolumeOpen hb 0 0 0 0 0 (⟨true, 512, false, false, 1⟩), .assetVolumeClose hb 0
   false, .assetContainerOpen hb 0 0 hac1, .assetContainerClose hb 0 false, .assetRead hb (⟨0, 0, false, false, false,
   0, 1, 0, 0, 0, 0, 0, 0, 0⟩), .assetInstall hb 0 0 0 0 hac1 false false, .assetStatsRead hb 0 false, .busPortSet hb
   0 [], .busPortQuery hb 0, .busPortRecover hb 0]

/-- Each request with a header that names no function. -/
def badHeader2 : List Instr :=
  [.busWake hb 0, .busFlowCreate hb [], .busFlowSet hb 0 0 [], .busFlowResume hb 0 false 0, .busFlowDestroy hb 0 false
   0, .busFlowStats hb 0 false 0, .busMbSet hb 0 0 [], .busMbSend hb 0 0 0 [], .busMbRead hb 0 0, .busMbRelease hb 0
   0, .busFilterSet hb 0 0 [], .busInspectVerdict hb 0 0 0, .busStatsRead hb 0 false, .busTraverseSet hb [],
   .busAnchorSet hb [], .busAnchorQuery hb 0, .busAnchorTakeover hb 0, .busGlobalIssue hb 0 0, .busBarrierArrive hb 0,
   .busPortStatsClear hb 0, .schedHostSet hb [], .schedFnSet hb 0 false [], .schedShaperSet hb none [],
   .schedShaperBind hb none 0 0 0, .schedShaperReset hb 0, .schedShaperRelease hb 0, .schedPolicerSet hb none [],
   .schedPolicerReset hb 0 false, .schedGateSet hb 0 (⟨0, 0, ⟨0, 0, 0⟩, 65536000, 0, []⟩), .schedGateStart hb 0,
   .schedGateStop hb 0, .schedGateClass hb 0 0 none, .schedStatsRead hb false, .schedLatencySet hb 0 0,
   .schedLatencyRead hb 0 false false, .checkSet hb none [], .checkRun hb 0 false false false 0 0 [] false false,
   .checkStateRead hb 0, .checkStateWrite hb 0 cu0.ctx, .checkRelease hb 0 false]

/-- Each request with a header that names no function. -/
def badHeader3 : List Instr :=
  [.trustInfo hb, .trustProvision hb 0 (⟨true, 1, 1, true, true, false, 0, false, 0, 0⟩) false 0,
   .trustLifecycleAdvance hb 0 0 0 false false, .trustDebugUnlock hb 0 false false, .trustFwStage hb false 0 0 0,
   .trustFwActivate hb, .trustFwCommit hb, .trustFwRecover hb false 0 0 0, .trustPcbSet hb false 0, .trustKeyLoad hb
   none (⟨true, 1, 1, true, true, false, 0, false, 0, 0⟩), .trustKeyGenerate hb none, .trustKeyErase hb 0,
   .trustAuthoritySet hb 0 0, .trustNodeRevoke hb 0 0 0, .trustSessionChallenge hb, .trustSessionOpen hb 0 false false
   0, .trustSessionClose hb 0, .trustAttest hb 0 0, .trustTimeSet hb 0 false 0, .faultSet hb 0 0 0 0 0,
   .faultThresholdSet hb 0 0, .faultRead hb 0, .faultLogRead hb 0 0, .faultAck hb 0 0, .faultCountRead hb 0 0 false,
   .faultVerdict hb 0 0, .faultXfSet hb 0, .powerCapSet hb 0, .powerQuery hb, .powerTelemetrySet hb 0 0 0 0, .pinClaim
   hb 0 none, .pinRelease hb 0 false 0, .pinQuery hb 0 0, .pinGpioSet hb 0 0 0, .pinGpioRead hb 0 false,
   .diagCoreStats hb false, .diagSelftest hb [], .diagTempRead hb, .diagTraceRead hb 0 0]

theorem test_wf_refuses_badHeader1 : badHeader1.all (fun i => !i.wf) = true := by decide

theorem test_wf_refuses_badHeader2 : badHeader2.all (fun i => !i.wf) = true := by decide

theorem test_wf_refuses_badHeader3 : badHeader3.all (fun i => !i.wf) = true := by decide

/-- Data longer than LEN can count. -/
theorem test_wf_refuses_long_data (l : List Byte) (h : 4294967296 ≤ l.length) :
    Instr.wf (.busMbSend hd 0 0 0 l) = false ∧ Instr.wf (.checkRun hd 0 false false false 0 0 l true true) = false := by
  have : ¬ l.length < 4294967296 := by omega
  constructor <;> simp only [Instr.wf, decide_eq_false this, Bool.and_false]

/-! ### Worked examples of the spec -/

/-- FL4 of 02 "Worked example: a synthetic 8K120 raster". -/
def fl4 : FallLine :=
  { f := [(0x2901, .num 1), (0x2902, .num 4500), (0x2903, .num 8333333), (0x2904, .num 1), (0x2905, .num 3),
          (0x2906, .time (1700000000000 * 65536)), (0x2907, .num 0)] }

/-- 02: time to position, and position to time of the deadline and of the target of CMP13. -/
theorem test_raster :
    flIdxAt fl4 (1742000350000 * 65536) = some (posIdx fl4 ⟨5040, 189, 0⟩) ∧
    flTimeOf fl4 (posIdx fl4 ⟨5040, 3456, 0x8000⟩) = some (1742006400925 * 65536 + 0xED09) ∧
    flTimeOf fl4 (posIdx fl4 ⟨5040, 200, 0⟩) = some (1742000370370 * 65536 + 0x5ED1) ∧
    idxPos fl4 (posIdx fl4 ⟨5041, 1980, 0⟩) = ⟨5041, 1980, 0⟩ := by
  decide +kernel

/-- 10 "Worked example: three attempts on one segment": the arbitration fields at t = 0. -/
theorem test_arbitration_fields :
    ([(20, 5, 0x0103), (37, 4, 0x0107), (50, 4, 0x0102), (900, 9, 0x0140)].map (fun c =>
      arbField { kind := .ctl, num := 0, urg := c.1, cls := c.2.1, src := c.2.2, len := 0, auth := false })) =
    [0x05050103, 0x09440107, 0x0C840102, 0xE1090140] := by decide

/-- 09 "Worked example: one data phase": 852 UI of 0.5 ns after a longest header of 152 bits of 20 ns and before the
commit slot (R335). -/
theorem test_data_phase :
    framePs base { f := [(0x9702, .num 50), (0x9707, .num 2000), (0x9708, .num 128)] } true 64 false =
      152 * 20000 + 852 * 500 + 20000 := by decide

/-- The unit of 14 "Worked example: one unit, two messages", in the message whose running value is `v`. -/
def smbus (v bytes : Nat) (o : Bool) : CheckUnit :=
  { owner := 0, f := [(0xE402, .num 4)], p := unitParams [(0xE402, .num 4)], strip := false, ctx := ⟨v, [], bytes, o⟩ }

/-- The context of unit 3 after a command. -/
def ctx3 (o : Host.Outcome State Fault Refusal) : Option CrcCtx := (tget (nextOf o).checks 3).map (fun u => u.ctx)

/-- 14, step 1: the first four bytes of message A. -/
theorem test_check_start :
    ctx3 (exec (.checkRun hd 3 true false false 0 0x41000 [0x31, 0x32, 0x33, 0x34] true true)
      { base with checks := [(3, smbus 0 0 false)] }) = some ⟨0xC2, [], 4, true⟩ := by decide

/-- 14, step 3: message B, one byte, with its check value written behind it. -/
theorem test_check_one_byte :
    (nextOf (exec (.checkRun hd 3 true true false 0 0x42000 [0x01] true true)
      { base with checks := [(3, smbus 0xC2 4 true)] })).link.writes.map (fun w => (w.addr, w.data)) =
    [(0x42001, [0x07])] := by decide

/-- 14, step 4: the context of step 2 is loaded. -/
theorem test_check_load :
    ctx3 (exec (.checkStateWrite hd 3 ⟨0xC2, [], 4, true⟩) { base with checks := [(3, smbus 0x07 1 false)] }) =
      some ⟨0xC2, [], 4, true⟩ := by decide

/-- 14, step 5: the rest of message A. -/
theorem test_check_finish :
    (nextOf (exec (.checkRun hd 3 false true false 0 0x41004 [0x35, 0x36, 0x37, 0x38, 0x39] true true)
      { base with checks := [(3, smbus 0xC2 4 true)] })).link.writes.map (fun w => (w.addr, w.data)) =
    [(0x41009, [0xF4])] := by decide

/-- 17 "Worked example: one encode stream". -/
def encodeRecs : List Rec :=
  [⟨0x0001, .num 0⟩, ⟨0x4301, .num 0⟩, ⟨0x4302, .num 2000⟩, ⟨0x4305, .num 300⟩, ⟨0x4306, .num 0x600000⟩,
   ⟨0x5301, .num 0⟩, ⟨0x5302, .num 0⟩, ⟨0x5304, .num 0x32⟩, ⟨0x5305, .num 1920⟩, ⟨0x5306, .num 1080⟩,
   ⟨0x5312, .num 128⟩, ⟨0x5319, .num 2001⟩, ⟨0x6102, .num 25000000⟩]

/-- The stream of the example, on FL0 with queues 2000 (HOST to CORE) and 2001 (CORE to HOST_DMA), is created. -/
theorem test_stream_create :
    ((nextOf (exec (.streamCreate hd encodeRecs)
      { base with tu := { fls := [(0, { f := [(0x2901, .num 1)] })] }
                  qm := { queues := [(2000, { w := ⟨0, 0x30100, 0, 0, 0, 0, 0⟩ }),
                                     (2001, { w := ⟨0x1000000, 0x20400, 0, 0, 0, 0, 0⟩ })] } })).arr.streams.map
      (fun e => (e.1, e.2.kind, fnat e.2.f 0x6102 0))) = [(0, .encode, 25000000)] := by decide

/-- 18 "Worked example: two faults in one cycle": 0x104 waits for its verdict and is ranked first. -/
theorem test_two_faults :
    (let t := nextOf (exec (.faultMessage 10 [⟨0x104, 1, false, 0x1000007D1⟩, ⟨0x05B, 1, false, 0x500000003F⟩])
      { base with fc := { running := true, nextLog := 1205, srcs := [(0x104, { host := true })] } })
     (t.fc.first.map (fun r => (r.source, r.logIndex, r.verdictDue, r.reaction, r.sameCycle)),
      t.fc.last.map (fun r => (r.source, r.logIndex, r.sameCycle)))) =
    (some (0x104, 1205, true, 0xFF, true), some (0x05B, 1206, true)) := by decide

/-- 19 "Worked example: a sag on VKEEL_A": the keel runs on B and 0x000 is raised, held. -/
theorem test_keel_sag :
    (let t := nextOf (exec (.keelFeedOutOfWindow 10 .a) base)
     (t.keel.onB, t.fc.last.map (fun r => (r.source, r.held)))) = (true, some (0x000, true)) := by decide

/-- 19: 50 ms of a good VKEEL_A take the keel back, and 0x002 is raised. -/
theorem test_keel_revert :
    (let t := nextOf (exec (.keelRevertExpiry 81040000)
      { base with keel := { onB := true, aGoodSince := some 31040000 } })
     (t.keel.onB, (tget t.fc.srcs 0x002).map (fun x => x.count))) = (false, some 1) := by decide

/-- A broadcast frame of an idle flow, ready to be sent, for 11 "Worked example: a node with a failed data receiver". -/
def sender (tec : Nat) (conf : Confine) : State :=
  withA { enabled := true, integrated := true, tec := tec, conf := conf, passiveWait := false, outSince := 0
          ctl := [{ frame0 with src := 0xFFF0, cls := 2, dkind := 2, dst := 0, flow := 9, seq := 412 }] }

/-- A NAK of reason BAD_FRAME (10 Table 10-6) takes the sender's TEC up by 4, until it is 96 (R278); an ACK takes it
down by 1. -/
theorem test_tec :
    (let v (c : Nat) (f : Confine) (r : SlotRead) := (nextOf (exec (.arbitrationAttempt 10 .oa [] ⟨r, 0, 0⟩) (sender c f))).bus.oa
     ((v 0 .errorActive (.slot false false 5)).tec, (v 92 .errorActive (.slot false false 5)).tec,
      (v 92 .errorActive (.slot false false 5)).conf, (v 96 .errorPassive (.slot false false 5)).tec,
      (v 96 .errorPassive (.slot false true 15)).tec, (v 96 .errorPassive (.slot false true 15)).conf)) =
    (4, 96, .errorPassive, 96, 95, .errorActive) := by decide

/-- Reset: START_HUT, RESET_N asserted, nothing waits, and an empty queue is one FRC cycle. -/
theorem test_reset :
    State.reset.eng = .startHut ∧ State.reset.resetN = true ∧ State.reset.pending = [] ∧
    (step1 State.reset).keel.frc = 1 := by decide

/-! ### Witnesses: the hypotheses of each obligation, clause by clause, can be met -/

theorem witness_StepRunsFront :
    (∃ (c : Instr) (rest : List Instr) (s : State),
      s.pending = c :: rest) :=
  ⟨.devInfo hd, [], { base with pending := [.devInfo hd] }, by decide⟩

theorem witness_IdleTick :
    (∃ s : State,
      s.pending = []) :=
  ⟨base, by decide⟩

theorem witness_QueueKept :
    (∃ c s,
      ∃ t, exec c s = .next t) :=
  ⟨.devInfo hd, base, exec1 (.devInfo hd) base, by rfl⟩

theorem witness_RequestWaits :
    (∃ c sp h s,
      request c = some (sp, h) ∧ startable sp h (advance h.time s) = false) :=
  ⟨.timeRead hd, { op := 0x0201, res := 72 }, hd, { base with eng := .startHut }, by decide⟩

theorem witness_FailedCheckNoEffect :
    (∃ c sp h s,
      ∃ e, request c = some (sp, h) ∧ startable sp h (advance h.time s) = true ∧
      checkReq sp (asRead h s) (begun sp h s) = some e) :=
  ⟨.timeRead { hd with room := 71 }, { op := 0x0201, res := 72 }, { hd with room := 71 }, base, .badArg, by decide⟩

theorem witness_CheckOrder :
    (∃ (sp : Spec) (h : Hdr),
      sp.w = true ∧ h.warden = false) ∧
    (∃ (sp : Spec) (h : Hdr),
      sp.pf = true ∧ h.fn ≠ 0) ∧
    (∃ (sp : Spec) (h : Hdr) (s : State),
      (sp.w = true → h.warden = true) ∧ (sp.pf = true → h.fn = 0) ∧ stateServes sp h s = false) ∧
    (∃ (sp : Spec) (h : Hdr) (s : State),
      (sp.w = true → h.warden = true) ∧ (sp.pf = true → h.fn = 0) ∧ stateServes sp h s = true ∧ h.rsvd = true) ∧
    (∃ (sp : Spec) (h : Hdr) (s : State),
      (sp.w = true → h.warden = true) ∧ (sp.pf = true → h.fn = 0) ∧ stateServes sp h s = true ∧ 24 < sp.res ∧
      h.room < sp.res) ∧
    (∃ (sp : Spec) (h : Hdr) (s : State),
      (sp.w = true → h.warden = true) ∧ (sp.pf = true → h.fn = 0) ∧ stateServes sp h s = true ∧ h.rsvd = false ∧
      (24 < sp.res → sp.res ≤ h.room)) :=
  ⟨⟨{ op := 0x0306, w := true }, hd, by decide⟩,
    ⟨{ op := 0x0102, pf := true }, { hd with fn := 63 }, by decide⟩,
    ⟨{ op := 0x0306, w := true }, hw, { base with eng := .halted }, by decide⟩,
    ⟨{ op := 0x0306, w := true }, { hw with rsvd := true }, base, by decide⟩,
    ⟨{ op := 0x0503, res := 25 }, { hd with room := 24 }, base, by decide⟩,
    ⟨{ op := 0x0201, res := 72 }, { hd with room := 72 }, base, by decide⟩⟩

theorem witness_StatesServe :
    (∃ s : State,
      s.eng = .startHut) ∧
    (∃ s : State,
      s.eng = .snowplough) ∧
    (∃ s : State,
      s.eng = .piste) ∧
    (∃ s : State,
      s.eng = .halted ∧ s.trust.fwRuns = true) ∧
    (∃ s : State,
      s.eng = .halted ∧ s.trust.fwRuns = false) :=
  ⟨⟨{}, by decide⟩,
    ⟨{ base with eng := .snowplough }, by decide⟩,
    ⟨base, by decide⟩,
    ⟨{ base with eng := .halted }, by decide⟩,
    ⟨{ base with eng := .halted, trust := {} }, by decide⟩⟩

theorem witness_StartFrame :
    (∃ c sp h fn w,
      request c = some (sp, h) ∧ (w ≠ h.warden ∨ w = false ∧ fn ≠ h.fn)) :=
  ⟨.timeRead hd, { op := 0x0201, res := 72 }, hd, 63, false, by decide⟩

theorem witness_AnswerFrame :
    (∃ (h : Hdr) (s : State),
      canWrite s (mbxGet s h.fn h.warden) = true) ∧
    (∃ (h : Hdr) (s : State),
      canWrite s (mbxGet s h.fn h.warden) = false) ∧
    (∃ (h : Hdr) (fn : Nat) (w : Bool),
      w ≠ h.warden ∨ w = false ∧ fn ≠ h.fn) :=
  ⟨⟨hd, base, by decide⟩,
    ⟨hd, { base with link := {} }, by decide⟩,
    ⟨hd, 0, true, by decide⟩⟩

theorem witness_OnlyStops :
    (∃ c s,
      ∃ r, exec c s = .refused r) ∧
    (∃ c s,
      ∃ f, exec c s = .fault f) ∧
    (∃ c : Instr,
      Instr.wf c = true ∧ ∀ t fn off w v, c = .registerWrite t fn off w v → debugHit (advance t base) fn off w = false) :=
  ⟨⟨.registerWrite 10 0 0x2000000 4 0, base, .debugWindow, by rfl⟩,
    ⟨.comparatorFire 10 ⟨64, false⟩, base, .noSuchObject, by rfl⟩,
    ⟨.resetNAssert 10, by exact ⟨by decide, nofun⟩⟩⟩

theorem witness_FrcNeverGoesBack :
    (∃ c s,
      ∃ t, exec c s = .next t) :=
  ⟨.devInfo hd, base, exec1 (.devInfo hd) base, by rfl⟩

theorem witness_FusesOnlyBurn :
    (∃ s,
      ∃ t, FuseGroupsLegal s ∧ step s = .next t ∧ lifecycle s.trust ≠ 0) :=
  ⟨{ base with trust := { lcProv := 8 } }, step1 { base with trust := { lcProv := 8 } },
   by refine ⟨⟨by decide, by decide, by decide⟩, rfl, by decide⟩⟩

theorem witness_DevCommands :
    (∃ (h : _) (s : State),
      Served (.devInfo h) s) ∧
    (∃ (h key v : _) (s : State),
      Served (.devConfig h key false v) s ∧ 1 ≤ key ∧ key ≤ 7) ∧
    (∃ (h v : _) (s : State),
      Served (.devConfig h 6 true (some v)) s ∧ 1 ≤ v ∧ v ≤ 60) ∧
    (∃ (h : _) (s : State),
      Served (.engineReset h) s ∧
      (let b := started (.engineReset h) s
       b.link.perst = false)) :=
  ⟨⟨hd, base, by decide⟩,
    ⟨hd, 7, none, base, by decide⟩,
    ⟨hd, 60, base, by decide⟩,
    ⟨hw, base, by decide⟩⟩

theorem witness_TimeReadLatch :
    (∃ (h : _) (s : State),
      Served (.timeRead h) s) :=
  ⟨{ hd with room := 72 }, base, by decide⟩

theorem witness_TimeSettings :
    (∃ (h : _) (s : State),
      Served (.timeSelect h 0) s) ∧
    (∃ (h : _) (s : State),
      Served (.timeSelect h 1) s) ∧
    (∃ (h : _) (s : State),
      Served (.timeSelect h 2) s) ∧
    (∃ (h r : _) (s : State),
      Served (.timeAdjust h 0 false true r 0) s ∧
      (let b := started (.timeAdjust h 0 false true r 0) s
       fnat b.tu.servoA.f 0x2301 0 = 1)) ∧
    (∃ (h recs : _) (s : State),
      Served (.timeServoSet h 0 recs) s ∧ recsOk servoFields recs = .ok () ∧ names recs 0x2309 = false) ∧
    (∃ (h tx rx asym : _) (s : State),
      (let c : Instr := .timePortSet h 1 [⟨0x2601, .num tx⟩, ⟨0x2602, .num rx⟩, ⟨0x2603, .num asym⟩]
       Served c s ∧ 0 ≤ tx ∧ tx < 65536 ∧ 0 ≤ rx ∧ rx < 65536 ∧ -32768 ≤ asym ∧ asym < 32768)) ∧
    (∃ (h fl recs : _) (s : State),
      Served (.timeFlSet h fl recs) s ∧
      (let b := started (.timeFlSet h fl recs) s
       let f := { flGet b fl with f := fapply (flGet b fl).f ((flGet b fl).pending ++ recs) }
       fl < 16 ∧ recsOk flFields recs = .ok () ∧ anchorOutOk recs = true ∧ flResultOk fl f = true ∧
       flSource (flGet b fl) = 3 ∧ flSource f ≠ 3)) :=
  ⟨⟨hd, base, by decide⟩,
    ⟨hd, base, by decide⟩,
    ⟨hd, base, by decide⟩,
    ⟨hd, -5, { base with tu := { servoA := { f := [(0x2301, .num 1)] } } }, by decide⟩,
    ⟨hd, [⟨0x2304, .num 15⟩], base, by decide⟩,
    ⟨hd, 65535, 0, -32768, base, by decide⟩,
    ⟨hd, 15, [⟨0x2901, .num 1⟩], base, by decide⟩⟩

theorem witness_TimePins :
    (∃ (h : _) (cmp : Nat) (target : _) (pin : Nat) (s : State),
      (let c : Instr := .timeCmpArm h cmp [⟨0x2A01, .num 0⟩, ⟨0x2A03, .time target⟩, ⟨0x2A05, .num 0⟩, ⟨0x2A06, .num (Int.ofNat pin)⟩]
       Served c s ∧
       (let b := started c s
        cmp < 64 ∧ pin < 8 ∧ (tgetD b.tu.cmps cmp {}).gate = none ∧ (tgetD b.tu.cmps cmp {}).owner = some h.fn ∧
        (tgetD b.tu.cmps cmp {}).armed = false ∧ (tgetD b.tu.trigs pin {}).owner = some h.fn ∧ activeNow b < target))) ∧
    (∃ (h : _) (cmp : Nat) (s : State),
      Served (.timeCmpDisarm h cmp) s ∧
      (let b := started (.timeCmpDisarm h cmp) s
       let c := tgetD b.tu.cmps cmp {}
       cmp < 64 ∧ c.gate = none ∧ c.owner = some h.fn ∧ c.armed = false)) ∧
    (∃ (h : _) (trig : Nat) (w : _) (s : State),
      (let c : Instr := .timeTrigSet h trig [⟨0x2C01, .num w⟩]
       Served c s ∧
       (let b := started c s
        let x := tgetD b.tu.trigs trig {}
        trig < 8 ∧ 4 ≤ w ∧ w ≤ 65535 ∧ x.owner = some h.fn))) ∧
    (∃ (h : _) (fifo : Nat) (edges : _) (s : State),
      Served (.timeCapSet h fifo edges []) s ∧
      (let b := started (.timeCapSet h fifo edges []) s
       let x := tgetD b.tu.caps fifo {}
       fifo < 4 ∧ edges < 4 ∧ x.owner = some h.fn)) :=
  ⟨⟨hd, 63, 1000000, 7,
     { base with tu := { cmps := [(63, { owner := some 0 })], trigs := [(7, { owner := some 0 })] } }, by decide⟩,
    ⟨hd, 63, { base with tu := { cmps := [(63, { owner := some 0 })], trigs := [(7, { owner := some 0 })] } },
     by decide⟩,
    ⟨hd, 7, 65535, { base with tu := { cmps := [(63, { owner := some 0 })], trigs := [(7, { owner := some 0 })] } },
     by decide⟩,
    ⟨hd, 3, 3, { base with tu := { caps := [(3, { owner := some 0 })] } }, by decide⟩⟩

theorem witness_RateChangeNoJump :
    (∃ d e : Dom,
      e ≠ d) :=
  ⟨.ta, .tb, by decide⟩

theorem witness_DomainTime :
    (∃ tdc,
      tdc < 64) :=
  ⟨63, by decide⟩

theorem witness_PositionRoundTrip :
    (∃ (f : FallLine),
      (flSource f = 1 ∨ flSource f = 2) ∧ 64 * flDen f * flLines f ≤ flPeriodNum f) ∧
    (∃ (f : FallLine) (tau : Ticks) (j : Int),
      (flSource f = 1 ∨ flSource f = 2) ∧ 64 * flDen f * flLines f ≤ flPeriodNum f ∧ flIdxAt f tau = some j) :=
  ⟨⟨{ f := [(0x2901, .num 2), (0x2902, .num 1), (0x2903, .num 1000)] }, by decide⟩,
    ⟨{ f := [(0x2901, .num 1)] }, 0, 0, by decide⟩⟩

theorem witness_TrigPulse :
    (∃ (i : Nat) (s : State),
      i < 8 ∧
      (let x := tgetD s.tu.trigs i {}
       x.owner ≠ none ∧ faultRole s i = false)) :=
  ⟨7, { base with tu := { trigs := [(7, { owner := some 0 })] } }, by decide⟩

theorem witness_CaptureFifo :
    (∃ (n : Nat) (s : State),
      n < 8 ∧
      (let x := tgetD s.tu.caps n {}
       x.entries.length < 64)) ∧
    (∃ (n : Nat) (s : State),
      n < 8 ∧
      (let x := tgetD s.tu.caps n {}
       64 ≤ x.entries.length)) ∧
    (∃ (h : _) (fifo n : Nat) (s : State),
      Served (.timeCapRead h fifo n) s ∧
      (let b := started (.timeCapRead h fifo n) s
       let x := tgetD b.tu.caps fifo {}
       fifo < 8 ∧ x.owner = some h.fn ∧ 8 + 24 * (x.entries.take n).length ≤ h.room ∧ 1 ≤ n ∧ n ≤ 16)) ∧
    (∃ (h : _) (fifo n : Nat) (s : State),
      Served (.timeCapRead h fifo n) s ∧
      (let b := started (.timeCapRead h fifo n) s
       let x := tgetD b.tu.caps fifo {}
       fifo < 8 ∧ x.owner = some h.fn ∧ 8 + 24 * (x.entries.take n).length ≤ h.room ∧ (n = 0 ∨ 16 < n))) :=
  ⟨⟨7, { base with tu := { caps := [(7, { owner := some 0, entries := List.replicate 63 ⟨0, 0, 0, 0, 0⟩ })] } },
     by decide⟩,
    ⟨0, { base with tu := { caps := [(0, { owner := some 0, entries := List.replicate 64 ⟨0, 0, 0, 0, 0⟩ })] } },
     by decide⟩,
    ⟨{ hd with room := 32 }, 7, 16,
     { base with tu := { caps := [(7, { owner := some 0, entries := List.replicate 1 ⟨0, 0, 0, 0, 0⟩ })] } },
     by decide⟩,
    ⟨{ hd with room := 8 }, 7, 0, { base with tu := { caps := [(7, { owner := some 0 })] } }, by decide⟩⟩

theorem witness_TimeEdges :
    (∃ (t cmp : Nat) (s : State),
      (let b := advance t s
       let c := tgetD b.tu.cmps cmp {}
       cmp < 64 ∧ tget b.tu.cmps cmp = some c ∧ c.armed = true ∧ c.base = 0 ∧ c.periodic = false ∧ c.action = 0 ∧
       c.target ≤ activeNow b ∧ (∀ i, i ≠ cmp → (tgetD b.tu.cmps i {}).armed = false))) ∧
    (∃ (t cap : Nat) (falling : _) (s : State),
      (let b := advance t s
       let x := tgetD b.tu.caps cap {}
       cap < 4 ∧ x.owner ≠ none ∧ bitOf x.edges (bit01 falling) = true ∧ x.lastRaw = none ∧ x.entries.length < 64)) ∧
    (∃ (t fl : Nat) (s : State),
      (let b := advance t s
       let f := flGet b fl
       fl < 16 ∧ flSource f = 0 ∧ f.started = false ∧ f.fly = false ∧ f.lastEdge = none)) ∧
    (∃ (t fl : Nat) (s : State),
      (let b := advance t s
       let f := flGet b fl
       fl < 16 ∧ flSource f = 0 ∧ f.started = true ∧ f.fly = false ∧ f.frames = [] ∧ f.line + 1 < flLines f)) ∧
    (∃ (t fl i : Nat) (tau : _) (s : State),
      (let b := advance t s
       let f := flGet b fl
       fl < 16 ∧ flSource f = 1 ∧ flNow b fl = some i ∧ flTimeOf f (Int.fdiv i 65536 * 65536) = some tau ∧
       f.lastEdge ≠ some tau)) ∧
    (∃ (t fl : Nat) (e : _) (s : State),
      (let b := advance t s
       let f := flGet b fl
       fl < 16 ∧ flSource f = 0 ∧ f.started = true ∧ f.fly = true ∧ f.lastEdge = some e ∧ f.line + 1 < flLines f ∧
       e + linePeriod f ≤ activeNow b)) :=
  ⟨⟨10, 63, { base with tu := { cmps := [(63, { owner := some 0, armed := true, target := 655360 })] } },
     by refine ⟨by decide, by decide, by decide, by decide, by decide, by decide, by decide, ?_⟩; intro i hi; show (tgetD (α := Cmp) [(63, _)] i {}).armed = false; simp [tgetD, tget, hi.symm]⟩,
    ⟨10, 3, true, { base with tu := { caps := [(3, { owner := some 0, edges := 2 })] } }, by decide⟩,
    ⟨10, 15, { base with tu := { fls := [(15, { f := [(0x2901, .num 0)] })] } }, by decide⟩,
    ⟨10, 15, { base with tu := { fls := [(15, { f := [(0x2901, .num 0)], started := true, line := 1123 })] } },
     by decide⟩,
    ⟨10, 15, 654, 0,
     { base with tu := { fls := [(15, { f := [(0x2901, .num 1), (0x2902, .num 1), (0x2903, .num 1000)] })] } },
     by decide⟩,
    ⟨10, 15, 0,
     { base with tu := { fls := [(15, { f := [(0x2901, .num 0), (0x2903, .num 1125)], started := true, fly := true, lastEdge := some 0 })] } },
     by decide⟩⟩

theorem witness_FallLineEvents :
    (∃ (t fl : Nat) (s : State),
      (let b := advance t s
       fl < 16 ∧ (flGet b fl).pending ≠ [] ∧ (flGet b fl).anchorNext = none ∧ flDue b fl = true)) ∧
    (∃ (t fl : Nat) (s : State),
      (let b := advance t s
       fl < 16 ∧ (flGet b fl).pending ≠ [] ∧ (flGet b fl).anchorNext = none ∧ flDue b fl = false)) ∧
    (∃ (t fl : Nat) (k recs j : _) (s : State),
      (let b := advance t s
       let f := flGet b fl
       fl < 16 ∧ f.pending = [] ∧ f.anchorNext = some (k, recs) ∧ flFrame b fl = some j)) ∧
    (∃ (t fl : Nat) (dk dst : _) (i : Int) (s : State),
      (let b := advance t s
       let f := flGet b fl
       fl < 16 ∧ inService b = true ∧ flist f.f 0x290C = [0, dk, dst] ∧ flNow b fl = some i ∧ f.sentFrame = none)) ∧
    (∃ (t : Nat) (port : BusPort) (a : FlAnchor) (s : State),
      (let b := advance t s
       inService b = true ∧ timeTagOk (portGet b port) a.tagOk = true)) ∧
    (∃ (t fl : Nat) (s : State),
      (let b := advance t s
       let f := flGet b fl
       fl < 16 ∧ flSource f = 2 ∧ 4 * flPeriodNum f ≤ (b.keel.frc - f.lastAnchor) * flDen f)) ∧
    (∃ (t : Nat) (s : State),
      (let b := advance t s
       residualAt b.keel b.keel.frc = 0)) :=
  ⟨⟨10, 15, { base with tu := { fls := [(15, { f := [(0x2901, .num 1)], pending := [⟨0x2902, .num 1⟩] })] } },
     by decide⟩,
    ⟨10, 15,
     { base with tu := { fls := [(15, { f := [(0x2901, .num 1)], pending := [⟨0x2902, .num 1⟩], pendFrame := some 0 })] } },
     by decide⟩,
    ⟨10, 15, 1, [], 0, { base with tu := { fls := [(15, { f := [(0x2901, .num 2)], anchorNext := some (1, []) })] } },
     by decide⟩,
    ⟨10, 15, 2, 0, 654,
     { base with tu := { fls := [(15, { f := [(0x2901, .num 1), (0x2902, .num 1), (0x2903, .num 1000), (0x290C, .list [0, 2, 0])] })] } },
     by decide⟩,
    ⟨10, .oa,
     { src := 0, fl := 0, flywheel := false, frame := 0, time := 0, lines := 1, fpNs := 1000, fpNum := 0, fpDen := 1, tagOk := true },
     base, by decide⟩,
    ⟨70000000, 15, { base with tu := { fls := [(15, { f := [(0x2901, .num 2)] })] } }, by decide⟩,
    ⟨10, base, by decide⟩⟩

theorem witness_TimeExchange :
    (∃ (t : Nat) (port : BusPort) (d : Dom) (s : State),
      (let b := advance t s
       let v := portGet b port
       inService b = true ∧ leadsOn v d = true ∧ tget v.syncAt (domNum d) = none)) ∧
    (∃ (t : Nat) (port : BusPort) (f : TimeFrame) (s : State),
      (let b := advance t s
       inService b = true ∧ timeTagOk (portGet b port) f.tagOk = true ∧ follows b port f.domain = true ∧
       (domSet b.keel f.domain).st = .locked ∧ (domSet b.keel f.domain).epoch = f.epoch ∧
       (∀ n, n < 8 → (tgetD b.tu.caps n {}).sources = []))) ∧
    (∃ (t : Nat) (port : BusPort) (f : TimeFrame) (x : _) (s : State),
      (let b := advance t s
       let sv := servoOf b f.domain
       inService b = true ∧ timeTagOk (portGet b port) f.tagOk = true ∧ follows b port f.domain = true ∧
       sv.twoStep = some x ∧ x.leader = f.src ∧ x.tseq = f.tseq ∧ x.epoch = f.epoch ∧
       (domSet b.keel f.domain).st ≠ .free ∧ (domSet b.keel f.domain).epoch = f.epoch)) ∧
    (∃ (t : Nat) (port : BusPort) (f : TimeFrame) (x : _) (s : State),
      (let b := advance t s
       let sv := servoOf b f.domain
       inService b = true ∧ timeTagOk (portGet b port) f.tagOk = true ∧ follows b port f.domain = true ∧
       sv.twoStep = some x ∧ x.leader = f.src ∧ x.tseq = f.tseq ∧ x.epoch = f.epoch ∧
       (domSet b.keel f.domain).st ≠ .free ∧ (domSet b.keel f.domain).epoch ≠ f.epoch)) ∧
    (∃ (t : Nat) (port : BusPort) (f : TimeFrame) (x : _) (s : State),
      (let b := advance t s
       let sv := servoOf b f.domain
       inService b = true ∧ timeTagOk (portGet b port) f.tagOk = true ∧ follows b port f.domain = true ∧
       sv.twoStep = some x ∧ x.leader = f.src ∧ x.tseq = f.tseq ∧ x.epoch = f.epoch ∧
       (domSet b.keel f.domain).st = .free)) ∧
    (∃ (t : Nat) (port : BusPort) (f : TimeFrame) (s : State),
      (let b := advance t s
       inService b = true ∧ timeTagOk (portGet b port) f.tagOk = true ∧ leadsOn (portGet b port) f.domain = true)) ∧
    (∃ (t : Nat) (port : BusPort) (f : TimeFrame) (node x t1 t3 : _) (s : State),
      (let b := advance t s
       let sv := servoOf b f.domain
       inService b = true ∧ timeTagOk (portGet b port) f.tagOk = true ∧ follows b port f.domain = true ∧
       sv.exch = some x ∧ x.leader = f.src ∧ node = nodeOf port (portGet b port) ∧ x.t1 = some t1 ∧ x.t3 = some t3 ∧
       x.tseq = f.tseq ∧ x.epoch = f.epoch ∧ f.capable = true ∧ b.keel.frc ≤ x.sentAt + syncNs sv ∧ f.domain = .tb ∧
       fnat sv.f 0x2301 0 = 0)) ∧
    (∃ (t : Nat) (d : Dom) (s : State),
      (let b := advance t s
       let sv := servoOf b d
       (domSet b.keel d).st = .locked ∧ sv.lastSync + fnat sv.f 0x2308 3 * syncNs sv ≤ b.keel.frc)) :=
  ⟨⟨10, .oa, .ta, withA { anchor := { f := [(0xC402, .num 1)] } }, by decide⟩,
    ⟨10, .oa,
     { src := 7, domain := .tb, twoStep := true, holdover := false, epoch := 0, tseq := 0, stampNs := 0, stampTdc := 0, origin := 0, step := 0, rateHint := 0, tagOk := true, capable := true },
     { base with keel := { tb := { st := .locked } } }, by decide⟩,
    ⟨10, .oa,
     { src := 7, domain := .tb, twoStep := true, holdover := false, epoch := 0, tseq := 0, stampNs := 0, stampTdc := 0, origin := 0, step := 0, rateHint := 0, tagOk := true, capable := true },
     ⟨7, 0, 0, 0, 0⟩,
     { base with keel := { tb := { st := .locked } }, tu := { servoB := { twoStep := some ⟨7, 0, 0, 0, 0⟩ } } },
     by decide⟩,
    ⟨10, .oa,
     { src := 7, domain := .tb, twoStep := true, holdover := false, epoch := 0, tseq := 0, stampNs := 0, stampTdc := 0, origin := 0, step := 0, rateHint := 0, tagOk := true, capable := true },
     ⟨7, 0, 0, 0, 0⟩,
     { base with keel := { tb := { st := .acquire, epoch := 1 } }, tu := { servoB := { twoStep := some ⟨7, 0, 0, 0, 0⟩ } } },
     by decide⟩,
    ⟨10, .oa,
     { src := 7, domain := .tb, twoStep := true, holdover := false, epoch := 0, tseq := 0, stampNs := 0, stampTdc := 0, origin := 0, step := 0, rateHint := 0, tagOk := true, capable := true },
     ⟨7, 0, 0, 0, 0⟩, { base with keel := { tb := {} }, tu := { servoB := { twoStep := some ⟨7, 0, 0, 0, 0⟩ } } },
     by decide⟩,
    ⟨10, .oa,
     { src := 7, domain := .tb, twoStep := true, holdover := false, epoch := 0, tseq := 0, stampNs := 0, stampTdc := 0, origin := 0, step := 0, rateHint := 0, tagOk := true, capable := true },
     withA { anchor := { f := [(0xC402, .num 2)] } }, by decide⟩,
    ⟨10, .oa,
     { src := 7, domain := .tb, twoStep := true, holdover := false, epoch := 0, tseq := 0, stampNs := 0, stampTdc := 0, origin := 0, step := 0, rateHint := 0, tagOk := true, capable := true },
     0xFFF0, ⟨7, 0, 0, some 0, 0, some 0, 0⟩, 0, 0,
     { base with tu := { servoB := { exch := some ⟨7, 0, 0, some 0, 0, some 0, 0⟩ } } }, by decide⟩,
    ⟨3000000, .ta, { base with keel := { ta := { st := .locked } } }, by decide⟩⟩

theorem witness_ServoLoop :
    (∃ theta,
      -microTicks ≤ theta ∧ theta ≤ microTicks) :=
  ⟨65536000, by decide⟩

theorem witness_QueueCommands :
    (∃ (h q d n : _) (s : State),
      Served (.queueCreate h q d) s ∧
      (let b := started (.queueCreate h q d) s
       (∀ k, q = some k → k < 32768) ∧ qConfigOk d = true ∧ qFn d = h.fn ∧ fnExists b h.fn = true ∧
       newQueue b q = .ok n ∧ minSum b.qm h.fn none + qMin d ≤ quotaOf b.qm h.fn)) ∧
    (∃ (h n mask d x : _) (s : State),
      Served (.queueSet h n mask d) s ∧
      (let b := started (.queueSet h n mask d) s
       let w := mergeWords mask x.w d
       n < 32768 ∧ mask < 128 ∧ qGet b n = some x ∧ qFn x.w = h.fn ∧ x.stopped = false ∧ qConfigOk w = true ∧
       qFn w = h.fn ∧ (qMin w ≤ qMin x.w ∨ minSum b.qm h.fn (some n) + qMin w ≤ quotaOf b.qm h.fn) ∧
       qProducer w = qProducer x.w ∧ qConsumer w = qConsumer x.w ∧ qReservedOk (mergeWords mask zeroWords d) = true)) ∧
    (∃ (h n x : _) (s : State),
      Served (.queueQuery h n) s ∧
      (let b := started (.queueQuery h n) s
       n < 32768 ∧ qGet b n = some x ∧ qFn x.w = h.fn)) ∧
    (∃ (h n x : _) (s : State),
      Served (.queueDestroy h n true) s ∧
      (let b := started (.queueDestroy h n true) s
       n < 32768 ∧ qGet b n = some x ∧ qFn x.w = h.fn ∧ x.stopped = false ∧ qNamed b n = false)) ∧
    (∃ (h n x : _) (s : State),
      Served (.queueAck h n 0xFF) s ∧
      (let b := started (.queueAck h n 0xFF) s
       n < 32768 ∧ qGet b n = some x ∧ qFn x.w = h.fn ∧ x.stopped = false ∧ (∀ i, flagFresh x b.keel.frc i = false))) ∧
    (∃ (h n x : _) (s : State) (i : _),
      Served (.queueAck h n 0xFF) s ∧
      (let b := started (.queueAck h n 0xFF) s
       n < 32768 ∧ qGet b n = some x ∧ qFn x.w = h.fn ∧ x.stopped = false ∧ i < 8 ∧ bitOf x.status i = true ∧
       flagFresh x b.keel.frc i = true)) ∧
    (∃ (h fn cells : _) (s : State),
      Served (.queueQuotaSet h fn cells) s ∧
      (let b := started (.queueQuotaSet h fn cells) s
       fn < 64 ∧ cells < 2 ^ 32 ∧ fnExists b fn = true ∧ minSum b.qm fn none ≤ cells ∧ b.qm.waiters = [])) :=
  ⟨⟨hd, none, ⟨0x10000, 0x20100, 0, 10, 8, 0, 0⟩, 0, base, by decide⟩,
    ⟨hd, 5, 127, ⟨0x10000, 0x20100, 0, 10, 8, 0, 0⟩, { w := ⟨0x10000, 0x20100, 0, 10, 8, 0, 0⟩ },
     withQ { w := ⟨0x10000, 0x20100, 0, 10, 8, 0, 0⟩ }, by decide⟩,
    ⟨hd, 5, q0, withQ q0, by decide⟩,
    ⟨hd, 5, q0, withQ q0, by decide⟩,
    ⟨hd, 5, q0, withQ q0, by and_intros <;> first | decide | exact fun i => rfl⟩,
    ⟨hd, 5, { q0 with status := 128, flagAt := [(7, 10)] }, withQ { q0 with status := 128, flagAt := [(7, 10)] }, 7,
     by decide⟩,
    ⟨hw, 0, 4294967295, base, by decide⟩⟩

theorem witness_QueueReads :
    (∃ (h n x : _) (s : State),
      Served (.queueStatsRead h n true) s ∧
      (let b := started (.queueStatsRead h n true) s
       n < 32768 ∧ qGet b n = some x ∧ qFn x.w = h.fn)) ∧
    (∃ (h n metric edges x k : _) (s : State),
      Served (.queueHistSet h n metric edges) s ∧
      (let b := started (.queueHistSet h n metric edges) s
       n < 32768 ∧ metric < 2 ∧ edges.length = 7 ∧ ascending edges = true ∧ (∀ e, e ∈ edges → e < 2 ^ 32) ∧
       qGet b n = some x ∧ qFn x.w = h.fn ∧ x.stopped = false ∧ qHistOk x.w = true ∧ x.histSlot = none ∧
       tfree b.qm.hists 0 1024 = some k)) ∧
    (∃ (h n x k r : _) (s : State),
      Served (.queueHistRead h n true) s ∧
      (let b := started (.queueHistRead h n true) s
       n < 32768 ∧ qGet b n = some x ∧ qFn x.w = h.fn ∧ x.stopped = false ∧ x.histSlot = some k ∧
       tget b.qm.hists k = some r)) ∧
    (∃ (h a x : _) (s : State),
      Served (.queueRingSet h a) s ∧
      (let b := started (.queueRingSet h a) s
       a.side = 0 ∧ a.queue < 32768 ∧ a.addr ≠ 0 ∧ ringArgsOk h.fn a = true ∧ qGet b a.queue = some x ∧
       qFn x.w = h.fn ∧ qProducer x.w = 1 ∧ x.stopped = false ∧ x.sub = none ∧ doorbellBound b h.fn a.doorbell = false)) :=
  ⟨⟨hd, 5, q0, withQ q0, by decide⟩,
    ⟨hd, 5, 1, [0, 1, 2, 3, 4, 5, 4294967295], { w := ⟨0x8, 0, 0, 10, 0, 0, 0⟩ }, 0,
     withQ { w := ⟨0x8, 0, 0, 10, 0, 0, 0⟩ }, by decide⟩,
    ⟨hd, 5, { q0 with histSlot := some 0 }, 0, ⟨5, true, [], []⟩,
     { base with qm := { queues := [(5, { q0 with histSlot := some 0 })], hists := [(0, ⟨5, true, [], []⟩)] } },
     by decide⟩,
    ⟨hd, { queue := 5, doorbell := 8191, log2 := 16, vector := 0, gather := 1, batch := 1, side := 0, addr := 4096 },
     { w := ⟨0x10000, 0x20100, 0, 10, 8, 0, 0⟩ }, withQ { w := ⟨0x10000, 0x20100, 0, 10, 8, 0, 0⟩ }, by decide⟩⟩

theorem witness_StreamCommands :
    (∃ (h recs n : _) (s : State),
      Served (.streamCreate h recs) s ∧
      (let b := started (.streamCreate h recs) s
       let specs := createFields ++ dispatchFields ++ decFields
       let f := fapply [] recs
       recNum recs 1 = some 1 ∧ recsOk specs recs = .ok () ∧ recsHave specs recs = .ok () ∧ decCodecOk f = true ∧
       decFieldsOk f = true ∧ flSource (flGet b (fnat f 0x4301 0)) ≠ 3 ∧ b.eng = .piste ∧
       decQueues b h.fn f = .ok () ∧ newStream b recs = .ok n)) ∧
    (∃ (h n off x : _) (s : State),
      (let c : Instr := .streamSet h n false [⟨0x4304, .num off⟩]
       Served c s ∧
       (let b := started c s
        n < 4096 ∧ stGet b n = some x ∧ x.owner = h.fn ∧ x.kind = .decode ∧ x.stopped = false ∧ -(2 ^ 47) ≤ off ∧
        off < 2 ^ 47 ∧
        decFieldsOk (fapply (fapply x.f (x.staged.map (fun e => ⟨e.1, e.2⟩))) [⟨0x4304, .num off⟩]) = true))) ∧
    (∃ (h n x : _) (s : State),
      Served (.streamDestroy h n false) s ∧
      (let b := started (.streamDestroy h n false) s
       n < 4096 ∧ stGet b n = some x ∧ x.owner = h.fn ∧ x.kind = .encode ∧ x.jobs = [] ∧
       (b.arr.streams.any (fun e => e.2.kind == .encode && fnat e.2.f 0x5308 0 == 1 && fopt e.2.f 0x530C == some n)) = false)) ∧
    (∃ (h n x : _) (s : State),
      Served (.streamStatsRead h n true) s ∧
      (let b := started (.streamStatsRead h n true) s
       n < 4096 ∧ stGet b n = some x ∧ x.owner = h.fn ∧ x.kind = .encode)) ∧
    (∃ (h n pic l k x : _) (s : State),
      Served (.streamRecover h n pic l k) s ∧
      (let b := started (.streamRecover h n pic l k) s
       n < 4096 ∧ stGet b n = some x ∧ x.owner = h.fn ∧ x.kind = .encode ∧ x.stopped = false)) ∧
    (∃ (h n verdict id x a : _) (s : State),
      Served (.streamConceal h n verdict id) s ∧
      (let b := started (.streamConceal h n verdict id) s
       n < 4096 ∧ verdict < 4 ∧ stGet b n = some x ∧ x.owner = h.fn ∧ x.kind = .decode ∧ x.stopped = false ∧
       x.dec.areas.find? (fun a => a.id == id && a.waiting) = some a ∧
       (∀ p, a.deadline = some p → reached b a.fl p 0 = false))) :=
  ⟨⟨hd,
     [⟨1, .num 1⟩, ⟨0x4301, .num 0⟩, ⟨0x4302, .num 5⟩, ⟨0x7201, .num 0⟩, ⟨0x7202, .num 0⟩, ⟨0x7204, .num 20⟩, ⟨0x7205, .num 8192⟩, ⟨0x7206, .num 4352⟩, ⟨0x720D, .num 1⟩],
     0,
     { base with qm := { queues := [(5, { w := ⟨0, 0x30100, 0, 0, 0, 0, 0⟩ })] }, tu := { fls := [(0, { f := [(0x2901, .num 1)] })] } },
     by decide⟩,
    ⟨hd, 3, -140737488355328, { dec0 with f := [(0x7206, .num 1), (0x720D, .num 1)] },
     withS { dec0 with f := [(0x7206, .num 1), (0x720D, .num 1)] }, by decide⟩,
    ⟨hd, 3, st0, withS st0, by decide⟩,
    ⟨hd, 3, st0, withS st0, by decide⟩,
    ⟨hd, 3, 0, 0, 0, st0, withS st0, by decide⟩,
    ⟨hd, 3, 3, 1, { dec0 with dec := { areas := [area0] } }, area0, withS { dec0 with dec := { areas := [area0] } },
     by decide⟩⟩

theorem witness_AssetObjects :
    (∃ (h slot nsid first count ns k : _) (s : State),
      (let c : Instr := .assetVolumeOpen h 1 slot nsid first count ns
       Served c s ∧
       (let b := started c s
        slot < 128 ∧ stServes b .s1 = true ∧ keysAllowed b = .ok () ∧ tget b.keel.vault.slots slot = some k ∧
        k.owner = h.fn ∧ k.kind = 2 ∧ ns.present = true ∧ ns.meta_ = false ∧ ns.prot = false ∧
        (ns.lbaSize = 512 ∨ ns.lbaSize = 4096) ∧ first + count ≤ ns.lbas ∧
        b.asset.volumes.countP (fun e => e.2.port == .s1) < 4))) ∧
    (∃ (h n v : _) (s : State),
      Served (.assetVolumeClose h n true) s ∧
      (let b := started (.assetVolumeClose h n true) s
       n < 65536 ∧ tget b.asset.volumes n = some v ∧ v.owner = h.fn)) ∧
    (∃ (h volume offset : _) (f : HacFacts) (v : _) (s : State),
      (let c : Instr := .assetContainerOpen h volume offset f
       Served c s ∧
       (let b := started c s
        volume < 65536 ∧ tget b.asset.volumes volume = some v ∧ v.owner = h.fn ∧ offset % 4096 = 0 ∧
        stServes b v.port = true ∧ keysAllowed b = .ok () ∧ b.asset.containers.length < 256 ∧ hacMagicOk f = true ∧
        hacPolicy f < 32 ∧ (bitOf (hacPolicy f) 3 && v.port == .s1) = false ∧ f.blobOk = true ∧
        expired b (bitOf (hacPolicy f) 4) f.expiry = false ∧ f.headerTagOk = true ∧ f.tableTagOk = true ∧
        hacShapeOk f = true ∧ tableOk (hacBytes f) (hacTable f) = true))) ∧
    (∃ (h n k : _) (s : State),
      Served (.assetContainerClose h n true) s ∧
      (let b := started (.assetContainerClose h n true) s
       n < 65536 ∧ tget b.asset.containers n = some k ∧ k.owner = h.fn)) :=
  ⟨⟨hd, 127, 1, 0, 16, { present := true, lbaSize := 4096, meta_ := false, prot := false, lbas := 16 }, ⟨0, 2, 0⟩,
     { base with trust := { fwRuns := true, pcbOk := true, lcProv := 8 }, keel := { vault := { slots := [(127, ⟨0, 2, 0⟩)] } }, asset := { s1 := { present := true, enumd := true } } },
     by decide⟩,
    ⟨hd, 0, ⟨0, .s1, 127, 1, 0, 16, 512⟩, { base with asset := { volumes := [(0, ⟨0, .s1, 127, 1, 0, 16, 512⟩)] } },
     by decide⟩,
    ⟨hd, 0, 4096, hac1, ⟨0, .s1, 127, 1, 0, 16, 512⟩,
     { base with trust := { fwRuns := true, pcbOk := true, lcProv := 8 }, asset := { s1 := { present := true, enumd := true }, volumes := [(0, ⟨0, .s1, 127, 1, 0, 16, 512⟩)] } },
     by and_intros <;> first | with_reducible exact hac1_magic | (simp only [hacCheck, hac1_magic]; decide +kernel) | decide +kernel⟩,
    ⟨hd, 0, ⟨0, 0, 0, 0, 9, false, 0, [⟨8192, 56, 1, 0, 0, 0⟩]⟩,
     { base with asset := { containers := [(0, ⟨0, 0, 0, 0, 9, false, 0, [⟨8192, 56, 1, 0, 0, 0⟩]⟩)] } }, by decide⟩⟩

theorem witness_AssetData :
    (∃ (h a k v : _) (s : State),
      Served (.assetRead h a) s ∧
      (let b := started (.assetRead h a) s
       a.container < 65536 ∧ tget b.asset.containers a.container = some k ∧ k.owner = h.fn ∧
       tget b.asset.volumes k.volume = some v ∧ readFieldsOk a = true ∧ readArgsOk a k.table = true ∧
       stServes b v.port = true ∧ a.hostDecomp = false ∧ a.texHost = false ∧ a.session = false ∧
       bitOf k.policy 2 = false ∧ b.asset.reqs.countP (fun e => e.2.h.fn == h.fn) < 256 ∧ b.asset.reqs.length < 1024)) ∧
    (∃ (h src dst off lba f crc a d : _) (s : State),
      (let c : Instr := .assetInstall h src dst off lba f true crc
       Served c s ∧
       (let b := started c s
        src < 65536 ∧ dst < 65536 ∧ tget b.asset.volumes src = some a ∧ tget b.asset.volumes dst = some d ∧
        a.owner = h.fn ∧ d.owner = h.fn ∧ a.port = .s0 ∧ d.port = .s1 ∧ off % 4096 = 0 ∧ stServes b .s0 = true ∧
        stServes b .s1 = true ∧ keysAllowed b = .ok () ∧ hacCheck b .s0 f = none ∧ bitOf (hacPolicy f) 3 = false ∧
        d.scratchFirst ≤ lba ∧ lba + (hacBytes f + d.lba - 1) / max 1 d.lba ≤ d.scratchFirst + d.scratchCount))) ∧
    (∃ (h : _) (s : State),
      Served (.assetStatsRead h 0 true) s) :=
  ⟨⟨hd, ⟨0, 3, false, false, false, 0, 1, 0, 1, 0, 0, 0, 0, 0⟩, ⟨0, 0, 0, 0, 9, false, 0, [⟨8192, 56, 1, 0, 0, 0⟩]⟩,
     ⟨0, .s1, 127, 1, 0, 16, 512⟩,
     { base with asset := { s1 := { present := true, enumd := true }, volumes := [(0, ⟨0, .s1, 127, 1, 0, 16, 512⟩)], containers := [(0, ⟨0, 0, 0, 0, 9, false, 0, [⟨8192, 56, 1, 0, 0, 0⟩]⟩)] } },
     by decide⟩,
    ⟨hd, 0, 1, 4096, 0, hac1, true, ⟨0, .s0, 127, 1, 0, 16, 512⟩, ⟨0, .s1, 127, 1, 0, 64, 512⟩,
     { base with trust := { fwRuns := true, pcbOk := true, lcProv := 8 }, asset := { s0 := { present := true, enumd := true }, s1 := { present := true, enumd := true }, volumes := [(0, ⟨0, .s0, 127, 1, 0, 16, 512⟩), (1, ⟨0, .s1, 127, 1, 0, 64, 512⟩)] } },
     by and_intros <;> first | with_reducible exact hac1_magic | (simp only [hacCheck, hac1_magic]; decide +kernel) | decide +kernel⟩,
    ⟨{ hd with room := 112 }, base, by decide⟩⟩

theorem witness_ContainerChecks :
    (∃ (f : HacFacts),
      hacMagicOk f = false) :=
  ⟨{ hac1 with header := [] }, by decide⟩

theorem witness_BusPortCommands :
    (∃ (h n : _) (p : BusPort) (mask : _) (s : State),
      (let c : Instr := .busPortSet h n [⟨0xAC02, .num mask⟩]
       Served c s ∧
       (let b := started c s
        let v := portGet b p
        portOf n = some p ∧ inRange (.int 0 (2 ^ 64 - 1) 1) (.num mask) = true ∧
        (let f := tput v.f 0xAC02 (.num mask)
         timingOk b f = true ∧ nodeOk p f = true ∧
         (slotOf p f == 1 && slotOf (otherPort p) (portGet b (otherPort p)).f == 1) = false ∧
         portFits b { v with f := f } (boundLists v) = true)))) ∧
    (∃ (h : _) (s : State),
      Served (.busPortQuery h 0) s) ∧
    (∃ (h n : _) (p : BusPort) (s : State),
      Served (.busPortRecover h n) s ∧
      (let b := started (.busPortRecover h n) s
       portOf n = some p ∧ (portGet b p).conf = .busOff)) ∧
    (∃ (h n : _) (p : BusPort) (s : State),
      Served (.busWake h n) s ∧
      (let b := started (.busWake h n) s
       portOf n = some p ∧ portLive b (portGet b p) = true)) ∧
    (∃ (h n : _) (p : BusPort) (s : State),
      Served (.busStatsRead h n true) s ∧ portOf n = some p) ∧
    (∃ (h n : _) (p : BusPort) (s : State),
      Served (.busPortStatsClear h n) s ∧ portOf n = some p) :=
  ⟨⟨hd, 1, .ob, 18446744073709551615, base, by decide⟩,
    ⟨{ hd with room := 88 }, base, by decide⟩,
    ⟨hd, 0, .oa, withA { conf := .busOff }, by decide⟩,
    ⟨hd, 0, .oa, withA live, by decide⟩,
    ⟨{ hd with room := 416 }, 1, .ob, base, by decide⟩,
    ⟨hd, 1, .ob, base, by decide⟩⟩

theorem witness_BusFlowCommands :
    (∃ (h recs : _) (p : BusPort) (q : _) (s : State),
      Served (.busFlowCreate h recs) s ∧
      (let b := started (.busFlowCreate h recs) s
       let f := fapply [] recs
       let n := fnat f 0xA902 0
       let fl : Flow := { owner := h.fn, f := f, refreshAt := b.keel.frc }
       recsOk flowFields recs = .ok () ∧ recsHave flowFields recs = .ok () ∧ portOf (fnat f 0xA901 0) = some p ∧
       n ≠ 32767 ∧ queueFor b h.fn (fnat f 0xA903 0) = .ok q ∧ qConsumer q.w = 6 + portNum p ∧
       qProducer q.w ≠ 6 + portNum p ∧ (rxOnly.any (fun i => names recs i)) = false ∧ flowRules true f = .ok () ∧
       thas (portGet b p).tx n = false ∧ thas (portGet b p).rx n = false ∧
       (portGet b p).tx.length + (portGet b p).rx.length < 8192 ∧ sideFree b (fnat f 0xA903 0) true = .ok () ∧
       flowFits b (portGet b p) fl = true)) ∧
    (∃ (h n flow recs : _) (p : BusPort) (f : _) (s : State),
      Served (.busFlowSet h n flow recs) s ∧
      (let b := started (.busFlowSet h n flow recs) s
       let v := portGet b p
       let g := fapply (f.staged.foldl (fun g e => tput g e.1 e.2) f.f) recs
       portOf n = some p ∧ 1 ≤ flow ∧ flow ≤ 32767 ∧ thas v.tx flow = false ∧ tget v.tx flow = none ∧
       tget v.rx flow = some f ∧ f.owner = h.fn ∧ f.stopped = false ∧ recsOk flowSetFields recs = .ok () ∧
       recsFree flowSetFields recs = .ok () ∧ (txOnly.any (fun i => names recs i)) = false ∧
       flowRules false g = .ok ())) ∧
    (∃ (h n flow : _) (p : BusPort) (f : _) (s : State),
      Served (.busFlowResume h n true flow) s ∧
      (let b := started (.busFlowResume h n true flow) s
       portOf n = some p ∧ 1 ≤ flow ∧ flow ≤ 32767 ∧ flowGet (portGet b p) flow = some f ∧ f.owner = h.fn ∧
       f.stopped = false ∧ f.stalled.isSome = true)) ∧
    (∃ (h n flow : _) (p : BusPort) (f x : _) (s : State),
      Served (.busFlowDestroy h n true flow) s ∧
      (let b := started (.busFlowDestroy h n true flow) s
       portOf n = some p ∧ 1 ≤ flow ∧ flow ≤ 32767 ∧ flowGet (portGet b p) flow = some f ∧ f.owner = h.fn ∧
       queueShared b p flow (flowQueue f) = false ∧ qGet b (flowQueue f) = some x ∧ x.stopped = false)) ∧
    (∃ (h n flow : _) (p : BusPort) (f : _) (s : State),
      Served (.busFlowStats h n false flow) s ∧
      (let b := started (.busFlowStats h n false flow) s
       portOf n = some p ∧ 1 ≤ flow ∧ flow ≤ 32767 ∧ flowGet (portGet b p) flow = some f ∧ f.owner = h.fn)) :=
  ⟨⟨hd,
     [⟨0xA901, .num 0⟩, ⟨0xA902, .num 32766⟩, ⟨0xA903, .num 5⟩, ⟨0xA904, .num 0⟩, ⟨0xA905, .num 1⟩, ⟨0xA909, .num 0⟩],
     .oa, { w := ⟨0, 0x60100, 0, 0, 0, 0, 0⟩ }, withQ { w := ⟨0, 0x60100, 0, 0, 0, 0, 0⟩ }, by decide⟩,
    ⟨hd, 0, 32767, [⟨0xA913, .num 1⟩], .oa, { owner := 0, f := [(0xA912, .list [7])] },
     withA { rx := [(32767, { owner := 0, f := [(0xA912, .list [7])] })] }, by decide⟩,
    ⟨hd, 0, 1, .oa, { owner := 0, f := [], stalled := some 1 },
     withA { tx := [(1, { owner := 0, f := [], stalled := some 1 })] }, by decide⟩,
    ⟨hd, 0, 1, .oa, { owner := 0, f := [(0xA903, .num 5)] }, q0,
     { withA { tx := [(1, { owner := 0, f := [(0xA903, .num 5)] })] } with qm := { queues := [(5, q0)] } }, by decide⟩,
    ⟨hd, 0, 1, .oa, { owner := 0, f := [] }, withA { tx := [(1, { owner := 0, f := [] })] }, by decide⟩⟩

theorem witness_BusMessageBuffers :
    (∃ (h n mb : _) (p : BusPort) (q : _) (s : State),
      (let c : Instr := .busMbSet h n mb [⟨0x0011, .num 1⟩]
       Served c s ∧
       (let b := started c s
        let v := portGet b p
        portOf n = some p ∧ mb < 64 ∧ tget v.mbs mb = none ∧ mbTake h.fn (mbNum p mb) b.qm = some q))) ∧
    (∃ (h n mb len pay : _) (p : BusPort) (m : _) (s : State),
      Served (.busMbSend h n mb len pay) s ∧
      (let b := started (.busMbSend h n mb len pay) s
       let v := portGet b p
       portOf n = some p ∧ len ≤ 64 ∧ pay.length = len ∧ mb < 64 ∧ tget v.mbs mb = some m ∧ m.owner = h.fn ∧
       m.tx = true ∧ m.pend = none ∧ m.flow = 0 ∧
       ((boundLists v).all (fitsList b v m.cls (framePs b v false len m.auth))) = true)) ∧
    (∃ (h n mb : _) (p : BusPort) (m i : _) (s : State),
      Served (.busMbRead h n mb) s ∧
      (let b := started (.busMbRead h n mb) s
       let v := portGet b p
       portOf n = some p ∧ mb < 64 ∧ tget v.mbs mb = some m ∧ m.owner = h.fn ∧ m.tx = false ∧ m.full = true ∧
       m.bus = some i ∧ (22 + m.payload.length ≤ 24 ∨ 22 + m.payload.length ≤ h.room))) ∧
    (∃ (h n mb : _) (p : BusPort) (m : _) (s : State),
      Served (.busMbRelease h n mb) s ∧
      (let b := started (.busMbRelease h n mb) s
       let v := portGet b p
       portOf n = some p ∧ mb < 64 ∧ tget v.mbs mb = some m ∧ m.owner = h.fn ∧ m.pend = none)) :=
  ⟨⟨hd, 0, 63, .oa, (mbTake 0 63 base.qm).getD base.qm, base, by and_intros <;> first | decide | rfl⟩,
    ⟨hd, 0, 63, 64, List.replicate 64 0, .oa, { owner := 0, tx := true },
     withA { mbs := [(63, { owner := 0, tx := true })] }, by decide⟩,
    ⟨{ hd with room := 24 }, 0, 63, .oa, { owner := 0, tx := false, full := true, bus := some bus0 }, bus0,
     withA { mbs := [(63, { owner := 0, tx := false, full := true, bus := some bus0 })] }, by decide⟩,
    ⟨hd, 0, 63, .oa, { owner := 0, tx := true }, withA { mbs := [(63, { owner := 0, tx := true })] }, by decide⟩⟩

theorem witness_BusTreeCommands :
    (∃ (h n entry x : _) (p : BusPort) (s : State),
      (let c : Instr := .busFilterSet h n entry [⟨0xAB01, .num 0⟩]
       Served c s ∧
       (let b := started c s
        let v := portGet b p
        portOf n = some p ∧ 16 ≤ entry ∧ entry < 1024 ∧ tget v.filters entry = some x ∧ x.owner = h.fn))) ∧
    (∃ (h n flow : _) (p : BusPort) (i q x bi : _) (s : State),
      Served (.busInspectVerdict h n 2 flow) s ∧
      (let b := started (.busInspectVerdict h n 2 flow) s
       portOf n = some p ∧ flow ≤ 32767 ∧ fopt (portGet b p).f 0xAC05 = some i ∧ queueFor b h.fn i = .ok q ∧
       qHead q = some x ∧ hasBad x = false ∧ x.bus = some bi)) ∧
    (∃ (h : _) (s : State),
      (let c : Instr := .busTraverseSet h [⟨0xC201, .num 0⟩]
       Served c s)) ∧
    (∃ (h n partner : _) (p : BusPort) (s : State),
      (let recs : List Rec := [⟨0xC401, .num n⟩, ⟨0xC402, .num 2⟩, ⟨0xC403, .num partner⟩]
       let c : Instr := .busAnchorSet h recs
       Served c s ∧
       (let b := started c s
        let v := portGet b p
        recsOk anchorFields recs = .ok () ∧ recsHave anchorFields recs = .ok () ∧ portOf n.toNat = some p ∧
        anchorRole v = 0 ∧ v.anchor.link = false ∧ fopt (fapply v.anchor.f recs) 0xC403 = some partner.toNat))) ∧
    (∃ (h n : _) (p : BusPort) (s : State),
      Served (.busAnchorQuery h n) s ∧
      (let b := started (.busAnchorQuery h n) s
       let ms := (portGet b p).members.filter (fun e => within3ms b (some e.2.frc))
       portOf n = some p ∧ 1 + 8 * ms.length ≤ h.room)) ∧
    (∃ (h n : _) (p : BusPort) (s : State),
      Served (.busAnchorTakeover h n) s ∧
      (let b := started (.busAnchorTakeover h n) s
       let v := portGet b p
       portOf n = some p ∧ anchorRole v = 2 ∧ within3ms b (anchorHeard v false) = false ∧ v.anchor.acting = false)) ∧
    (∃ (h msg arg : _) (p : BusPort) (s : State),
      Served (.busGlobalIssue h msg arg) s ∧
      (let b := started (.busGlobalIssue h msg arg) s
       (msg = 0x19 ∨ msg = 0x1D ∨ msg = 0x1E) ∧ arg < 2 ^ 64 ∧ gopOpen b = true ∧ rootPort b = some p ∧
       b.bus.ops.length < 16)) ∧
    (∃ (h id : _) (s : State),
      Served (.busBarrierArrive h id) s ∧
      (let b := started (.busBarrierArrive h id) s
       id < 65536 ∧ tget b.bus.barriers id = none)) :=
  ⟨⟨hd, 0, 1023, ⟨0, []⟩, .oa, withA { filters := [(1023, ⟨0, []⟩)] }, by decide⟩,
    ⟨hd, 0, 32767, .oa, 5, { q0 with pkts := [pkt0] }, pkt0, bus0,
     { withA { f := [(0xAC05, .num 5)] } with qm := { queues := [(5, { q0 with pkts := [pkt0] })] } }, by decide⟩,
    ⟨hd, base, by decide⟩,
    ⟨hd, 0, 1, .oa, base, by decide⟩,
    ⟨{ hd with room := 1 }, 1, .ob, base, by decide⟩,
    ⟨hd, 0, .oa, withA { anchor := { f := [(0xC402, .num 2)] } }, by decide⟩,
    ⟨{ hd with time := 60000000000 }, 0x1E, 18446744073709551615, .oa,
     withA { anchor := { f := [(0xC402, .num 1)], acting := true } }, by decide⟩,
    ⟨hd, 65535, base, by decide⟩⟩

theorem witness_SchedShapers :
    (∃ (h w : _) (s : State),
      (let c : Instr := .schedHostSet h [⟨0xD101, .num w⟩]
       Served c s ∧ recsOk hostFields [⟨0xD101, .num w⟩] = .ok ())) ∧
    (∃ (h fn : _) (s : State),
      (let c : Instr := .schedFnSet h fn true []
       Served c s ∧
       (let b := started c s
        let x := tgetD b.sched.fns fn {}
        fn < 64 ∧ fnExists b fn = true ∧ (∀ k, x.b = some k → k.rate ≠ 0)))) ∧
    (∃ (h rate n : _) (s : State),
      (let c : Instr := .schedShaperSet h none [⟨0xD202, .num rate⟩]
       Served c s ∧
       (let b := started c s
        recsOk shaperFields [⟨0xD202, .num rate⟩] = .ok () ∧ rateOk [⟨0xD202, .num rate⟩] 0xD202 = true ∧
        tfree b.sched.shapers 0 4096 = some n))) ∧
    (∃ (h n port flow : _) (p : BusPort) (x f : _) (s : State),
      (let c : Instr := .schedShaperBind h (some n) port 0 flow
       Served c s ∧
       (let b := started c s
        let v := portGet b p
        n < 4096 ∧ portOf port = some p ∧ tget b.sched.shapers n = some x ∧ x.owner = h.fn ∧
        (x.port = none ∨ x.port = some p) ∧ tget v.tx flow = some f ∧ f.owner = h.fn ∧ f.stopped = false))) ∧
    (∃ (h n x : _) (s : State),
      Served (.schedShaperReset h n) s ∧
      (let b := started (.schedShaperReset h n) s
       n < 4096 ∧ tget b.sched.shapers n = some x ∧ x.owner = h.fn)) ∧
    (∃ (h n x : _) (s : State),
      Served (.schedShaperRelease h n) s ∧
      (let b := started (.schedShaperRelease h n) s
       n < 4096 ∧ tget b.sched.shapers n = some x ∧ x.owner = h.fn ∧ shaperBound b n = false ∧
       (b.arr.streams.any (fun e => e.2.kind == .encode && fopt e.2.f 0x6111 == some n)) = false)) ∧
    (∃ (h rate n : _) (s : State),
      (let c : Instr := .schedPolicerSet h none [⟨0xD302, .num rate⟩]
       Served c s ∧
       (let b := started c s
        recsOk policerFields [⟨0xD302, .num rate⟩] = .ok () ∧ tfree b.sched.policers 0 2048 = some n))) ∧
    (∃ (h n x : _) (s : State),
      Served (.schedPolicerReset h n false) s ∧
      (let b := started (.schedPolicerReset h n false) s
       n < 2048 ∧ tget b.sched.policers n = some x ∧ x.owner = h.fn)) :=
  ⟨⟨hw, 255, base, by decide⟩,
    ⟨hw, 0, base, by decide⟩,
    ⟨hd, 8000, 0, base, by decide⟩,
    ⟨hd, 4095, 0, 1, .oa, { owner := 0, b := ⟨0, 256, 0, 0, 0⟩, overhead := 16 }, { owner := 0, f := [] },
     { withA { tx := [(1, { owner := 0, f := [] })] } with sched := { shapers := [(4095, { owner := 0, b := ⟨0, 256, 0, 0, 0⟩, overhead := 16 })] } },
     by decide⟩,
    ⟨hd, 4095, { owner := 0, b := ⟨0, 256, 0, 0, 0⟩, overhead := 16 },
     { base with sched := { shapers := [(4095, { owner := 0, b := ⟨0, 256, 0, 0, 0⟩, overhead := 16 })] } }, by decide⟩,
    ⟨hd, 4095, { owner := 0, b := ⟨0, 256, 0, 0, 0⟩, overhead := 16 },
     { base with sched := { shapers := [(4095, { owner := 0, b := ⟨0, 256, 0, 0, 0⟩, overhead := 16 })] } }, by decide⟩,
    ⟨hd, 2000000000, 0, base, by decide⟩,
    ⟨hd, 2047, { owner := 0, b := ⟨0, 256, 0, 0, 0⟩ },
     { base with sched := { policers := [(2047, { owner := 0, b := ⟨0, 256, 0, 0, 0⟩ })] } }, by decide⟩⟩

theorem witness_SchedGates :
    (∃ (h n g : _) (p : BusPort) (s : State),
      Served (.schedGateSet h n g) s ∧
      (let b := started (.schedGateSet h n g) s
       let v := portGet b p
       portOf n = some p ∧ gateListOk b g = true ∧ v.gates.pending = none ∧ portFits b v [g] = true ∧
       v.gates.running = false)) ∧
    (∃ (h n g : _) (p : BusPort) (s : State),
      Served (.schedGateSet h n g) s ∧
      (let b := started (.schedGateSet h n g) s
       let v := portGet b p
       portOf n = some p ∧ gateListOk b g = true ∧ v.gates.pending = none ∧ portFits b v [g] = true ∧
       v.gates.running = true ∧ atCycleStart b v = false)) ∧
    (∃ (h n g : _) (p : BusPort) (i : _) (s : State),
      Served (.schedGateStart h n) s ∧
      (let b := started (.schedGateStart h n) s
       let v := portGet b p
       portOf n = some p ∧ v.gates.cur = some g ∧ g.base < 3 ∧ v.gates.running = false ∧ gateArmed b p = false ∧
       freeCmp b = some i)) ∧
    (∃ (h n : _) (p : BusPort) (s : State),
      Served (.schedGateStop h n) s ∧
      (let b := started (.schedGateStop h n) s
       let v := portGet b p
       portOf n = some p ∧ v.gates.running = true ∧ v.gates.pendStop = false ∧ v.gates.pending = none ∧
       atCycleStart b v = false)) ∧
    (∃ (h n cls : _) (p : BusPort) (s : State),
      Served (.schedGateClass h n cls none) s ∧
      (let b := started (.schedGateClass h n cls none) s
       let v := portGet b p
       let w := { v with gates := { v.gates with classes := tdel v.gates.classes cls } }
       portOf n = some p ∧ 2 ≤ cls ∧ cls < 63 ∧ portFits b w (boundLists v) = true)) ∧
    (∃ (t : _) (p : BusPort) (g x c : _) (s : State),
      (let b := advance t s
       let v := portGet b p
       v.gates.cur = some g ∧ v.gates.running = true ∧ gatePoint b g = some (x, c) ∧ v.gates.pendCycle < c)) ∧
    (∃ (h : _) (s : State),
      Served (.schedStatsRead h false) s ∧
      (let b := started (.schedStatsRead h false) s
       h.fn ≠ 0 ∧ (∀ e, e ∈ b.sched.policers → e.2.owner ≠ h.fn) ∧ 48 ≤ h.room)) ∧
    (∃ (h q limit x : _) (s : State),
      Served (.schedLatencySet h q limit) s ∧
      (let b := started (.schedLatencySet h q limit) s
       q < 32768 ∧ limit < 2 ^ 32 ∧ qGet b q = some x ∧ qFn x.w = h.fn ∧ x.stopped = false ∧
       (qConsumer x.w = 2 ∨ qConsumer x.w = 6 ∨ qConsumer x.w = 7))) ∧
    (∃ (h q x : _) (s : State),
      Served (.schedLatencyRead h q false false) s ∧
      (let b := started (.schedLatencyRead h q false false) s
       q < 32768 ∧ qGet b q = some x ∧ qFn x.w = h.fn ∧ x.stopped = false ∧
       (qConsumer x.w = 2 ∨ qConsumer x.w = 6 ∨ qConsumer x.w = 7))) :=
  ⟨⟨hd, 0, ⟨0, 0, ⟨0, 0, 0⟩, 65536000, 255, [⟨0, 0, 0, 0, 255⟩]⟩, .oa, base, by decide⟩,
    ⟨hd, 0, ⟨0, 0, ⟨0, 0, 0⟩, 65536000, 255, [⟨0, 0, 0, 0, 255⟩]⟩, .oa, withA { gates := { running := true } },
     by decide⟩,
    ⟨hd, 0, ⟨0, 0, ⟨0, 0, 0⟩, 65536000, 255, [⟨0, 0, 0, 0, 255⟩]⟩, .oa, 0,
     withA { gates := { cur := some ⟨0, 0, ⟨0, 0, 0⟩, 65536000, 255, [⟨0, 0, 0, 0, 255⟩]⟩ } }, by decide⟩,
    ⟨hd, 0, .oa, withA { gates := { running := true } }, by decide⟩,
    ⟨hd, 0, 62, .oa, base, by decide⟩,
    ⟨3000, .oa, ⟨0, 0, ⟨0, 0, 0⟩, 65536000, 255, [⟨0, 0, 0, 0, 255⟩]⟩, 0, 3,
     withA { gates := { cur := some ⟨0, 0, ⟨0, 0, 0⟩, 65536000, 255, [⟨0, 0, 0, 0, 255⟩]⟩, running := true, pendCycle := 2 } },
     by decide⟩,
    ⟨{ hd with fn := 1, room := 48 },
     { base with link := { up := true, perst := false, numVfs := 1, fns := [(1, { mbx := { ready := true } })] } },
     by decide⟩,
    ⟨hd, 5, 4294967295, { w := ⟨0, 0x60100, 0, 0, 0, 0, 0⟩ }, withQ { w := ⟨0, 0x60100, 0, 0, 0, 0, 0⟩ }, by decide⟩,
    ⟨hd, 5, { w := ⟨0, 0x60100, 0, 0, 0, 0, 0⟩ }, withQ { w := ⟨0, 0x60100, 0, 0, 0, 0, 0⟩ }, by decide⟩⟩

theorem witness_BucketNoLoss :
    (∃ (b : Bucket) (x y : _),
      b.upd ≤ x ∧ x ≤ y) :=
  ⟨⟨0, 256, 0, 0, 0⟩, 0, 0, by decide⟩

theorem witness_PolicerNeverInDebt :
    (∃ (n : _) (s : State) (x : _),
      tget s.sched.policers n = some x) :=
  ⟨0, { base with sched := { policers := [(0, { owner := 0, b := ⟨0, 256, 0, 0, 0⟩ })] } },
   { owner := 0, b := ⟨0, 256, 0, 0, 0⟩ }, by decide⟩

theorem witness_GateMask :
    (∃ (s : State) (g : GateList) (x : Int) (l : List GateEntry) (e : GateEntry) (r : List GateEntry),
      g.entries = l ++ e :: r ∧ entryOff s g e ≤ x ∧ ∀ k, k ∈ r → x < entryOff s g k) :=
  ⟨base, ⟨0, 0, ⟨0, 0, 0⟩, 65536000, 255, [⟨0, 0, 0, 0, 255⟩, ⟨65536, 0, 0, 0, 1⟩]⟩, 65535, [], ⟨0, 0, 0, 0, 255⟩,
   [⟨65536, 0, 0, 0, 1⟩], by decide⟩

theorem witness_CheckCommands :
    (∃ (h n u code : _) (s : State),
      (let c : Instr := .checkSet h (some n) [⟨0xE402, .num code⟩]
       Served c s ∧
       (let b := started c s
        let f := unitFields u.f [⟨0xE402, .num code⟩]
        n < 8 ∧ 1 ≤ code ∧ code ≤ 8 ∧ tget b.checks n = some u ∧ u.owner = h.fn ∧ fopt f 0xE40B = none))) ∧
    (∃ (h n u addr data : _) (s : State),
      (let c : Instr := .checkRun h n true true true 0 addr data true true
       Served c s ∧
       (let b := started c s
        n < 8 ∧ data.length ≤ 16777216 ∧ tget b.checks n = some u ∧ u.owner = h.fn ∧ unitFeed u = none ∧
        unitStrip u.f = false))) ∧
    (∃ (h n u : _) (s : State),
      Served (.checkStateRead h n) s ∧
      (let b := started (.checkStateRead h n) s
       n < 8 ∧ tget b.checks n = some u ∧ u.owner = h.fn ∧ unitFeed u = none)) ∧
    (∃ (h n u k : _) (s : State),
      Served (.checkStateWrite h n k) s ∧
      (let b := started (.checkStateWrite h n k) s
       n < 8 ∧ tget b.checks n = some u ∧ u.owner = h.fn ∧ unitFeed u = none ∧ u.ctx.open_ = true ∧
       k.value < 2 ^ u.p.width ∧ k.held.length ≤ valueBytes u.p)) ∧
    (∃ (h n u : _) (s : State),
      Served (.checkRelease h n true) s ∧
      (let b := started (.checkRelease h n true) s
       n < 8 ∧ tget b.checks n = some u ∧ u.owner = h.fn)) ∧
    (∃ (t n u q y : _) (p : Pkt) (s : State),
      (let b := advance t s
       n < 8 ∧ tget b.checks n = some u ∧ unitFeed u = some q ∧ qGet b q = some y ∧ inService b = true ∧
       y.stopped = false ∧ y.blocked = false ∧ qHead y = some p ∧ (∀ k, k ∈ p.cells → k.bad = false) ∧
       p.abort = none ∧ p.closed = true)) :=
  ⟨⟨hd, 7, cu0, 8, { base with checks := [(7, cu0)] }, by decide⟩,
    ⟨hd, 7, cu0, 0, [], { base with checks := [(7, cu0)] }, by decide⟩,
    ⟨hd, 7, cu0, { base with checks := [(7, cu0)] }, by decide⟩,
    ⟨hd, 7, { cu0 with ctx := ⟨0, [], 0, true⟩ }, ⟨255, [0], 0, true⟩,
     { base with checks := [(7, { cu0 with ctx := ⟨0, [], 0, true⟩ })] }, by decide⟩,
    ⟨hd, 7, cu0, { base with checks := [(7, cu0)] }, by decide⟩,
    ⟨10, 7, { cu0 with f := [(0xE40B, .num 5)] }, 5, { q0 with pkts := [pkt0] }, pkt0,
     { withQ { q0 with pkts := [pkt0] } with checks := [(7, { cu0 with f := [(0xE40B, .num 5)] })] }, by decide⟩⟩

theorem witness_CheckParts :
    (∃ (b : List Byte),
      b ≠ []) ∧
    (∃ (u : CheckUnit),
      (let p := unitParams u.f
       unitStrip u.f = true ∧ 1 ≤ p.width ∧ p.width ≤ 64 ∧ p.init < 2 ^ p.width ∧ p.poly < 2 ^ p.width ∧
       p.xorout < 2 ^ p.width)) :=
  ⟨⟨[0], by decide⟩,
    ⟨{ cu0 with f := [(0xE40A, .num 1)] }, by decide⟩⟩

theorem witness_TrustDevice :
    (∃ (h : _) (s : State),
      Served (.trustInfo h) s) ∧
    (∃ (h root blob svn : _) (s : State),
      Served (.trustProvision h root blob true svn) s ∧
      (let b := started (.trustProvision h root blob true svn) s
       lifecycle b.trust = 0 ∧ blob.formOk = true ∧ blob.kind = 3 ∧ blob.wrap = 2 ∧ blob.deviceOk = true ∧
       blob.tagOk = true ∧ blob.minSvn ≤ b.trust.svn ∧ expired b blob.expires blob.expiry = false ∧
       max b.trust.fuseCfg b.keel.shadowCfg ≤ svn)) ∧
    (∃ (h oem neyth ok : _) (s : State),
      (let c : Instr := .trustLifecycleAdvance h 2 oem neyth true ok
       Served c s ∧
       (let b := started c s
        lifecycle b.trust = 1 ∧ b.trust.es = false ∧ challengeOk b false oem = true))) ∧
    (∃ (h oem neyth : _) (s : State),
      (let c : Instr := .trustLifecycleAdvance h 3 oem neyth true true
       Served c s ∧
       (let b := started c s
        lifecycle b.trust = 2 ∧ challengeOk b false oem = true ∧ challengeOk b false neyth = true))) ∧
    (∃ (h chal ok : _) (s : State),
      Served (.trustDebugUnlock h chal true ok) s ∧
      (let b := started (.trustDebugUnlock h chal true ok) s
       lifecycle b.trust = 1 ∧ challengeOk b false chal = true)) ∧
    (∃ (h lc svn meas : _) (s : State),
      Served (.trustFwStage h true lc svn meas) s ∧
      (let b := started (.trustFwStage h true lc svn meas) s
       imageAllowed b lc svn = true ∧ b.trust.runB = false)) ∧
    (∃ (h : _) (s : State),
      Served (.trustFwActivate h) s ∧
      (let b := started (.trustFwActivate h) s
       b.trust.staged = true)) ∧
    (∃ (h : _) (s : State),
      Served (.trustFwCommit h) s) ∧
    (∃ (h lc svn meas : _) (s : State),
      Served (.trustFwRecover h true lc svn meas) s ∧
      (let b := started (.trustFwRecover h true lc svn meas) s
       imageAllowed b lc svn = true)) ∧
    (∃ (h svn : _) (s : State),
      Served (.trustPcbSet h true svn) s ∧
      (let b := started (.trustPcbSet h true svn) s
       max b.trust.fuseCfg b.keel.shadowCfg ≤ svn)) :=
  ⟨⟨{ hd with room := 348 }, base, by decide⟩,
    ⟨hw, 7,
     { formOk := true, kind := 3, wrap := 2, deviceOk := true, tagOk := true, test := true, minSvn := 0, expires := false, expiry := 0, key := 1 },
     32, base, by decide⟩,
    ⟨hw, 5, 0, true,
     { base with trust := { fwRuns := true, pcbOk := true, lcProv := 8, challenges := [⟨5, 0, false⟩, ⟨6, 0, false⟩] } },
     by decide⟩,
    ⟨hw, 5, 6,
     { base with trust := { fwRuns := true, pcbOk := true, lcField := 8, challenges := [⟨5, 0, false⟩, ⟨6, 0, false⟩] } },
     by decide⟩,
    ⟨hw, 5, true,
     { base with trust := { fwRuns := true, pcbOk := true, lcProv := 8, challenges := [⟨5, 0, false⟩, ⟨6, 0, false⟩] } },
     by decide⟩,
    ⟨hw, 1, 0, 3, base, by decide⟩,
    ⟨hw, { base with trust := { fwRuns := true, pcbOk := true, staged := true } }, by decide⟩,
    ⟨hw, base, by decide⟩,
    ⟨hw, 1, 0, 3, { base with eng := .halted, trust := {} }, by decide⟩,
    ⟨hw, 0, base, by decide⟩⟩

theorem witness_TrustKeys :
    (∃ (h n blob : _) (s : State),
      Served (.trustKeyLoad h (some n) blob) s ∧
      (let b := started (.trustKeyLoad h (some n) blob) s
       n < 128 ∧ keysAllowed b = .ok () ∧ blob.formOk = true ∧ (blob.kind = 1 ∨ blob.kind = 2) ∧
       tget b.keel.vault.slots n = none ∧ blobCheck b blob = .ok ())) ∧
    (∃ (h n : _) (s : State),
      Served (.trustKeyGenerate h (some n)) s ∧
      (let b := started (.trustKeyGenerate h (some n)) s
       n < 128 ∧ tget b.keel.vault.slots n = none)) ∧
    (∃ (h n k : _) (s : State),
      Served (.trustKeyErase h n) s ∧
      (let b := started (.trustKeyErase h n) s
       n < 128 ∧ tget b.keel.vault.slots n = some k ∧ k.owner = h.fn ∧ (∀ e, e ∈ b.asset.volumes → e.2.slot ≠ n))) ∧
    (∃ (h port node : _) (p : BusPort) (s : State),
      Served (.trustAuthoritySet h port node) s ∧ portOf port = some p) ∧
    (∃ (h port node subject : _) (p : BusPort) (s : State),
      (let c : Instr := .trustNodeRevoke h port node subject
       Served c s ∧
       (let b := started c s
        portOf port = some p ∧ tget (portGet b p).enrolls node = none ∧ (portGet b p).revoked.contains subject = false))) ∧
    (∃ (h : _) (s : State),
      Served (.trustSessionChallenge h) s) ∧
    (∃ (h chal key : _) (s : State),
      Served (.trustSessionOpen h chal true true key) s ∧
      (let b := started (.trustSessionOpen h chal true true key) s
       b.trust.debug = false ∧ b.trust.pcbOk = true ∧ b.keel.vault.sessions.length < 64 ∧
       b.keel.vault.sessions.countP (fun e => e.2.owner == h.fn) < 16 ∧ challengeOk b true chal = true ∧
       b.trust.nextSession + 1 < 2 ^ 32)) ∧
    (∃ (h id k : _) (s : State),
      Served (.trustSessionClose h id) s ∧
      (let b := started (.trustSessionClose h id) s
       tget b.keel.vault.sessions id = some k ∧ k.owner = h.fn)) ∧
    (∃ (h nonce data : _) (s : State),
      Served (.trustAttest h nonce data) s) ∧
    (∃ (h chal time : _) (s : State),
      Served (.trustTimeSet h chal true time) s ∧
      (let b := started (.trustTimeSet h chal true time) s
       b.trust.pcbOk = true ∧ challengeOk b false chal = true)) :=
  ⟨⟨hd, 127,
     { formOk := true, kind := 2, wrap := 2, deviceOk := true, tagOk := true, test := true, minSvn := 0, expires := false, expiry := 0, key := 1 },
     { base with trust := { fwRuns := true, pcbOk := true, lcProv := 8 } }, by decide⟩,
    ⟨{ hd with room := 249 }, 127, base, by decide⟩,
    ⟨hd, 127, ⟨0, 2, 0⟩, { base with keel := { vault := { slots := [(127, ⟨0, 2, 0⟩)] } } }, by decide⟩,
    ⟨hw, 1, 5, .ob, base, by decide⟩,
    ⟨hd, 0, 5, 9, .oa, base, by decide⟩,
    ⟨{ hd with room := 32 }, base, by decide⟩,
    ⟨{ hd with room := 613 }, 5, 9,
     { base with trust := { fwRuns := true, pcbOk := true, challenges := [⟨5, 0, true⟩] } }, by decide⟩,
    ⟨hd, 3, ⟨0, 1, 1⟩, { base with keel := { vault := { sessions := [(3, ⟨0, 1, 1⟩)] } } }, by decide⟩,
    ⟨{ hd with room := 768 }, 0, 0, base, by decide⟩,
    ⟨hd, 5, 0, { base with trust := { fwRuns := true, pcbOk := true, challenges := [⟨5, 0, false⟩] } }, by decide⟩⟩

theorem witness_FaultCommands :
    (∃ (h n sev ms : _) (s : State),
      Served (.faultSet h n n sev 0 ms) s ∧ n < 1024 ∧ srcListed n = true ∧ sevLocked n = false ∧ sev < 5 ∧ 1 ≤ ms ∧
      ms ≤ 60000) ∧
    (∃ (h x y : _) (s : State),
      Served (.faultThresholdSet h x y) s ∧ 1 ≤ x ∧ x ≤ 5 ∧ 1 ≤ y ∧ y ≤ 5) ∧
    (∃ (h r : _) (s : State),
      Served (.faultRead h 1) s ∧
      (let b := started (.faultRead h 1) s
       b.fc.last = some r)) ∧
    (∃ (h first n : _) (s : State),
      Served (.faultLogRead h first n) s ∧
      (let b := started (.faultLogRead h first n) s
       let recs := (List.range n).filterMap (fun i => tget b.fc.log ((first + i) % 64))
       first < 64 ∧ 1 ≤ n ∧ n ≤ 64 ∧ 32 * recs.length < h.room)) ∧
    (∃ (h n : _) (s : State),
      Served (.faultAck h n n) s ∧ n < 1024 ∧ srcListed n = true) ∧
    (∃ (h a z : _) (s : State),
      Served (.faultCountRead h a z false) s ∧ a ≤ z ∧ z < 1024 ∧ 4 * (z + 1 - a) ≤ h.room) ∧
    (∃ (h idx act n x v : _) (s : State),
      Served (.faultVerdict h idx act) s ∧
      (let b := started (.faultVerdict h idx act) s
       let holds (e : Nat × Source) : Bool := match e.2.verdict with | some v => v.raises.any (fun r => r.1 == idx) | none => false
       act < 4 ∧ b.fc.srcs.find? holds = some (n, x) ∧ x.verdict = some v ∧ b.keel.frc ≤ v.deadline)) ∧
    (∃ (h e : _) (s : State),
      Served (.faultXfSet h e) s ∧ e < 32) :=
  ⟨⟨hd, 967, 4, 60000, base, by decide⟩,
    ⟨hd, 5, 1, base, by decide⟩,
    ⟨{ hd with room := 32 }, rec0, { base with fc := { running := true, last := some rec0 } }, by decide⟩,
    ⟨{ hd with room := 1 }, 63, 64, base, by decide⟩,
    ⟨hd, 967, base, by decide⟩,
    ⟨{ hd with room := 4 }, 1023, 1023, base, by decide⟩,
    ⟨hd, 3, 3, 64, { verdict := some { logIndex := 3, deadline := 10, raises := [(3, 0, 0)] } },
     { logIndex := 3, deadline := 10, raises := [(3, 0, 0)] },
     { base with fc := { running := true, srcs := [(64, { verdict := some { logIndex := 3, deadline := 10, raises := [(3, 0, 0)] } })] } },
     by decide⟩,
    ⟨hd, 31, base, by decide⟩⟩

theorem witness_PinPowerDiag :
    (∃ (h k i : _) (s : State),
      Served (.pinClaim h k (some i)) s ∧
      (let b := started (.pinClaim h k (some i)) s
       k < 5 ∧ i < pinCount k ∧ pinEngine b k i = false ∧ pinOwner b k i = none)) ∧
    (∃ (h k i : _) (s : State),
      Served (.pinRelease h k true i) s ∧
      (let b := started (.pinRelease h k true i) s
       k < 5 ∧ i < pinCount k ∧ pinEngine b k i = false ∧ pinOwner b k i = some h.fn)) ∧
    (∃ (h k i : _) (s : State),
      Served (.pinQuery h k i) s ∧ k < 5 ∧ i < pinCount k) ∧
    (∃ (h i level : _) (s : State),
      Served (.pinGpioSet h i 1 level) s ∧
      (let b := started (.pinGpioSet h i 1 level) s
       i < 14 ∧ level < 2 ∧ tget b.board.gpioOwner i = some h.fn)) ∧
    (∃ (h i ball : _) (s : State),
      Served (.pinGpioRead h i ball) s ∧
      (let b := started (.pinGpioRead h i ball) s
       i < 14 ∧ tget b.board.gpioOwner i = some h.fn)) ∧
    (∃ (h mw : _) (s : State),
      Served (.powerCapSet h mw) s ∧ 20000 ≤ mw ∧ mw ≤ 58000) ∧
    (∃ (h est tj : _) (s : State),
      Served (.powerQuery h) s ∧
      (let b := started (.powerQuery h) s
       b.arr.estMw = some est ∧ peakAll b = some tj)) ∧
    (∃ (h i addr dev rail : _) (s : State),
      Served (.powerTelemetrySet h i addr dev rail) s ∧ i < 8 ∧ 1 ≤ dev ∧ dev < 3 ∧ rail < 8 ∧ addr < 256) ∧
    (∃ (h clear : _) (s : State),
      Served (.diagCoreStats h clear) s) ∧
    (∃ (h fails : _) (s : State),
      Served (.diagSelftest h fails) s ∧
      (let b := started (.diagSelftest h fails) s
       b.arr.selftest = none)) ∧
    (∃ (h : _) (s : State),
      Served (.diagTempRead h) s ∧
      (let b := started (.diagTempRead h) s
       lifecycle b.trust ≠ 2)) ∧
    (∃ (h n addr : _) (s : State),
      Served (.diagTraceRead h n addr) s ∧
      (let b := started (.diagTraceRead h n addr) s
       lifecycle b.trust ≠ 2)) :=
  ⟨⟨hd, 4, 13, base, by decide⟩,
    ⟨hd, 4, 13, { base with board := { gpioOwner := [(13, 0)] } }, by decide⟩,
    ⟨hd, 0, 63, base, by decide⟩,
    ⟨hd, 13, 1, { base with board := { gpioOwner := [(13, 0)] } }, by decide⟩,
    ⟨hd, 13, true, { base with board := { gpioOwner := [(13, 0)] } }, by decide⟩,
    ⟨hd, 58000, base, by decide⟩,
    ⟨hd, 5, 50, { base with arr := { estMw := some 5, cores := [(15, { peak := some 50 })] } }, by decide⟩,
    ⟨hd, 7, 255, 2, 7, base, by decide⟩,
    ⟨{ hd with room := 1632 }, true, base, by decide⟩,
    ⟨hd, [], base, by decide⟩,
    ⟨{ hd with room := 48 }, base, by decide⟩,
    ⟨hd, 0, 0, base, by decide⟩⟩

theorem witness_MailboxEvents :
    (∃ (t fn : _) (w : Bool) (v : _) (s : State),
      (let b := advance t s
       let m := mbxGet b fn w
       let tail := Word.field v 15 0
       mbxNamed fn w = true ∧ regLive b fn = true ∧ m.ready = true ∧ m.stopped = none ∧ tail ≠ m.reqTail ∧
       2 ^ reqLog m < (tail + 65536 - m.reqHead) % 65536)) ∧
    (∃ (t fn : _) (w : Bool) (v : _) (s : State),
      (let b := advance t s
       let m := mbxGet b fn w
       let tail := Word.field v 15 0
       mbxNamed fn w = true ∧ regLive b fn = true ∧ m.ready = true ∧ m.stopped = none ∧ tail ≠ m.reqTail ∧
       (tail + 65536 - m.reqHead) % 65536 ≤ 2 ^ reqLog m)) ∧
    (∃ (t fn : _) (w : Bool) (e : ReqEntry) (s : State),
      (let b := advance t s
       let m := mbxGet b fn w
       mbxNamed fn w = true ∧ m.stale = true ∧ m.staleAt ≤ b.keel.frc ∧ canWrite b m = true ∧ e.readOk = true ∧
       e.phase ≠ m.reqPhase)) ∧
    (∃ (t fn v : _) (s : State),
      (let b := advance t s
       let m := mbxGet b fn true
       let m2 := { m with size := v &&& sizeMask }
       mbxNamed fn true = true ∧ regLive b fn = true ∧ mbxEnable m = false ∧ enableOk fn true m2 = true ∧
       b.eng = .startHut)) ∧
    (∃ (t fn v : _) (s : State),
      (let b := advance t s
       let m := mbxGet b fn true
       let m2 := { m with size := v &&& sizeMask }
       mbxNamed fn true = true ∧ regLive b fn = true ∧ mbxEnable m = false ∧ enableOk fn true m2 = true ∧
       b.eng ≠ .startHut)) ∧
    (∃ (t fn : _) (w : Bool) (s : State),
      (let b := advance t s
       let m := mbxGet b fn w
       mbxNamed fn w = true ∧ regLive b fn = true ∧ mbxEnable m = true)) ∧
    (∃ (t fn : _) (w : Bool) (s : State),
      (let b := advance t s
       let m := mbxGet b fn w
       mbxNamed fn w = true ∧ regLive b fn = true ∧ m.evtDropped = 0)) ∧
    (∃ (t fn v e : _) (s : State),
      (let b := advance t s
       let x := vecGet b fn v
       fn < 64 ∧ v < 256 ∧ x.holdEnd = some e ∧ e ≤ b.keel.frc)) :=
  ⟨⟨10, 0, false, 257, base, by decide⟩,
    ⟨10, 0, false, 256, base, by decide⟩,
    ⟨10, 0, false, ⟨0, 0, 0, false, false, false, false, false, true⟩,
     { base with link := { up := true, perst := false, fns := [(0, { mbx := { ready := true, stale := true, staleAt := 10 } })] } },
     by decide⟩,
    ⟨10, 0, 0x10888,
     { base with eng := .startHut, link := { up := true, perst := false, warden := { rspBase := 0x1000 } } },
     by decide⟩,
    ⟨10, 0, 0x10888, { base with link := { up := true, perst := false, warden := { rspBase := 0x1000 } } }, by decide⟩,
    ⟨10, 0, false,
     { base with link := { up := true, perst := false, fns := [(0, { mbx := { ready := true, size := 0x10888 } })] } },
     by decide⟩,
    ⟨10, 0, false, base, by decide⟩,
    ⟨10, 63, 255, 10, { base with link := { fns := [(63, { vecs := [(255, { holdEnd := some 10 })] })] } }, by decide⟩⟩

theorem witness_HostLinkEvents :
    (∃ (t fn db : _) (s : State),
      (let b := advance t s
       fn < 64 ∧ db < 8192 ∧ regLive b fn = true ∧ ringOfDoorbell b fn db = none)) ∧
    (∃ (t fn db : _) (s : State) (q del : _),
      (let b := advance t s
       fn < 64 ∧ db < 8192 ∧ regLive b fn = true ∧ ringOfDoorbell b fn db = some (q, del))) ∧
    (∃ (t fn : _) (s : State),
      (let b := advance t s
       fn < 64 ∧ regLive b fn = true)) ∧
    (∃ (t q y r : _) (s : State),
      (let b := advance t s
       qGet b q = some y ∧ y.sub = some r ∧ subReady b q y r = true ∧ y.stopped = true)) ∧
    (∃ (t q bytes y r : _) (s : State),
      (let b := advance t s
       let fn := qFn y.w
       qGet b q = some y ∧ y.del = some r ∧ b.link.compl = [] ∧ fnEligible b fn = true ∧ r.stopped = false ∧
       r.head ≠ r.tail ∧ bytes < qPktMax y.w * 256)) ∧
    (∃ (t q bytes y r : _) (s : State) (p : _),
      (let b := advance t s
       let fn := qFn y.w
       qGet b q = some y ∧ y.del = some r ∧ b.link.compl = [] ∧ fnEligible b fn = true ∧ r.stopped = false ∧
       r.head ≠ r.tail ∧ qPktMax y.w * 256 ≤ bytes ∧ deliverable y = some p ∧ packetFirst b q y p = true)) ∧
    (∃ (t w rest : _) (s : State),
      (let b := advance t s
       b.link.up = true ∧ b.link.perst = false ∧ b.link.compl = w :: rest)) ∧
    (∃ (t gen lanes : _) (s : State),
      (let b := advance t s
       b.link.up = true ∧ b.link.gen ≤ gen ∧ b.link.lanes ≤ lanes)) ∧
    (∃ (s : State) (fn : _),
      regLive s fn = true) ∧
    (∃ t q e y r s,
      (let b := advance t s
       qGet b q = some y ∧ y.sub = some r ∧ subReady b q y r = true ∧
       (match takeSubmission q y r e r.head b with | .accept _ _ => true | _ => false) = true)) :=
  ⟨⟨10, 0, 8191, base, by decide⟩,
    ⟨10, 0, 8191,
     withQ { w := ⟨0x10000, 0x20100, 0, 10, 8, 0, 0⟩, credit := 8, sub := some { doorbell := 8191, log2 := 6, vector := 0, gather := false, batch := false, addr := 4096, tail := 1 }, stopped := false },
     5, false, by decide⟩,
    ⟨10, 0, base, by decide⟩,
    ⟨10, 5,
     { w := ⟨0x10000, 0x20100, 0, 10, 8, 0, 0⟩, credit := 8, sub := some { doorbell := 8191, log2 := 6, vector := 0, gather := false, batch := false, addr := 4096, tail := 1 }, stopped := true },
     { doorbell := 8191, log2 := 6, vector := 0, gather := false, batch := false, addr := 4096, tail := 1 },
     withQ { w := ⟨0x10000, 0x20100, 0, 10, 8, 0, 0⟩, credit := 8, sub := some { doorbell := 8191, log2 := 6, vector := 0, gather := false, batch := false, addr := 4096, tail := 1 }, stopped := true },
     by decide⟩,
    ⟨10, 5, 255,
     { w := ⟨0x10000, 0x20100, 0, 10, 8, 0, 0⟩, del := some { doorbell := 8191, log2 := 6, vector := 0, gather := false, batch := false, addr := 4096, tail := 1 }, pkts := [pkt0] },
     { doorbell := 8191, log2 := 6, vector := 0, gather := false, batch := false, addr := 4096, tail := 1 },
     withQ { w := ⟨0x10000, 0x20100, 0, 10, 8, 0, 0⟩, del := some { doorbell := 8191, log2 := 6, vector := 0, gather := false, batch := false, addr := 4096, tail := 1 }, pkts := [pkt0] },
     by decide⟩,
    ⟨10, 5, 256,
     { w := ⟨0x10000, 0x20100, 0, 10, 8, 0, 0⟩, del := some { doorbell := 8191, log2 := 6, vector := 0, gather := false, batch := false, addr := 4096, tail := 1 }, pkts := [pkt0] },
     { doorbell := 8191, log2 := 6, vector := 0, gather := false, batch := false, addr := 4096, tail := 1 },
     withQ { w := ⟨0x10000, 0x20100, 0, 10, 8, 0, 0⟩, del := some { doorbell := 8191, log2 := 6, vector := 0, gather := false, batch := false, addr := 4096, tail := 1 }, pkts := [pkt0] },
     pkt0, by decide⟩,
    ⟨10, .msix 0 0, [], { base with link := { up := true, perst := false, compl := [.msix 0 0] } }, by decide⟩,
    ⟨10, 5, 16, base, by decide⟩,
    ⟨base, 0, by decide⟩,
    ⟨10, 5, ⟨List.replicate 64 0, [], 0, []⟩,
     { w := ⟨0x10000, 0x20100, 0, 10, 8, 0, 0⟩, credit := 8, sub := some { doorbell := 8191, log2 := 6, vector := 0, gather := false, batch := false, addr := 4096, tail := 1 }, stopped := false },
     { doorbell := 8191, log2 := 6, vector := 0, gather := false, batch := false, addr := 4096, tail := 1 },
     withQ { w := ⟨0x10000, 0x20100, 0, 10, 8, 0, 0⟩, credit := 8, sub := some { doorbell := 8191, log2 := 6, vector := 0, gather := false, batch := false, addr := 4096, tail := 1 }, stopped := false },
     by decide⟩⟩

theorem witness_ResetEvents :
    (∃ (t : _) (s : State),
      (let b := advance t s
       b.resetN = true ∧ b.keel.powered = true)) ∧
    (∃ (t : _) (s : State),
      (let b := advance t s
       b.keel.powered = true ∧ b.resetN = false ∧ b.eng = .startHut ∧ b.trust.fwRuns = false ∧ 1000000 ≤ b.keel.frc)) ∧
    (∃ (t : _) (s : State),
      (let b := advance t s
       b.eng = .startHut ∧ b.warm = false ∧ b.trust.fwRuns = true ∧ b.resetN = false ∧ b.keel.powered = true ∧
       (let u := startCollector (portsStart { b with eng := .snowplough, keel := { b.keel with busWake := false }, board := { b.board with hbmFails := 0 } })
        u.keel.sysrefMissed = false))) ∧
    (∃ (t : _) (s : State),
      (let b := advance t s
       b.eng = .snowplough ∧ b.board.hbmOk = false)) ∧
    (∃ (t : _) (s : State),
      (let b := advance t s
       b.eng = .snowplough ∧ b.board.hbmOk = true)) ∧
    (∃ (t : _) (s : State),
      (let b := advance t s
       b.eng = .startHut ∧ b.warm = true ∧ b.trust.fwRuns = true ∧ b.resetN = false)) ∧
    (∃ (t : _) (s : State),
      (let b := advance t s
       b.link.perst = false)) ∧
    (∃ (t : _) (s : State),
      (let b := advance t s
       b.link.perst = true ∧ mainOff b = true)) ∧
    (∃ (t : _) (s : State),
      (let b := advance t s
       b.link.perst = true ∧ mainOff b = false ∧ b.link.resetDue = false ∧ b.eng ≠ .piste)) ∧
    (∃ (t n : _) (s : State),
      (let b := advance t s
       b.link.up = true ∧ n < 64 ∧ (∀ e, e ∈ b.link.fns → e.2.away = false) ∧ b.link.numVfs ≤ n)) ∧
    (∃ (t v d : _) (s : State),
      (let b := advance t s
       b.link.retDue = some d ∧ d ≤ b.keel.frc ∧ (fnGet b v).away = true ∧ vfReturns b v = false)) ∧
    (∃ (t fn : _) (s : State),
      (let b := advance t s
       fn < 64 ∧ b.link.up = true ∧ fnExists b fn = true)) :=
  ⟨⟨10, { base with resetN := true }, by decide⟩,
    ⟨1000000, { base with eng := .startHut, trust := {} }, by decide⟩,
    ⟨10, { base with eng := .startHut }, by decide⟩,
    ⟨10, { base with eng := .snowplough }, by decide⟩,
    ⟨10, { base with eng := .snowplough, board := { hbmOk := true } }, by decide⟩,
    ⟨10, { base with eng := .startHut, warm := true }, by decide⟩,
    ⟨10, base, by decide⟩,
    ⟨10, { base with resetN := true, link := {} }, by decide⟩,
    ⟨10, { base with eng := .snowplough, link := {} }, by decide⟩,
    ⟨10, 63, base, by decide⟩,
    ⟨10, 63, 10,
     { base with link := { up := true, perst := false, retDue := some 10, fns := [(63, { away := true })] } },
     by decide⟩,
    ⟨10, 63, { base with link := { up := true, perst := false, numVfs := 63 } }, by decide⟩⟩

theorem witness_KeelEvents :
    (∃ (t : _) (s : State),
      (let b := advance t s
       b.keel.powered = true ∧ b.keel.aGood = true ∧ b.keel.onB = false ∧ b.keel.bGood = true)) ∧
    (∃ (t : _) (s : State),
      (let b := advance t s
       b.keel.powered = true ∧ b.keel.bGood = false ∧ b.keel.holdSince = none)) ∧
    (∃ (t g : _) (s : State),
      (let b := advance t s
       b.keel.powered = true ∧ b.keel.onB = true ∧ b.keel.aGood = true ∧ b.keel.aGoodSince = some g ∧
       g + 50000000 ≤ b.keel.frc)) ∧
    (∃ (t g : _) (s : State),
      (let b := advance t s
       b.keel.holdSince = some g ∧ g + 20000 ≤ b.keel.frc)) ∧
    (∃ (t : _) (s : State),
      (let b := advance t s
       b.keel.powered = true ∧ b.keel.sysref = true ∧ mainOff b = false)) ∧
    (∃ (t src : _) (s : State),
      (let b := advance t s
       0x020 ≤ src ∧ src ≤ 0x024 ∧ armed b src = true ∧ mainOff b = false ∧ b.eng ≠ .startHut)) ∧
    (∃ (t sensor temp : _) (s : State),
      (let b := advance t s
       16 ≤ sensor ∧ sensor < 24 ∧ mainOff b = false ∧ b.board.hot = false ∧
       (let temps := tput b.board.temps sensor temp
        (∀ e, e ∈ temps → e.2 < 105)))) :=
  ⟨⟨10, base, by decide⟩,
    ⟨10, { base with keel := { bGood := false } }, by decide⟩,
    ⟨50000000, 0, { base with keel := { onB := true, aGoodSince := some 0 } }, by decide⟩,
    ⟨20000, 0, { base with keel := { holdSince := some 0 } }, by decide⟩,
    ⟨10, base, by decide⟩,
    ⟨10, 0x021, base, by decide⟩,
    ⟨10, 23, 104, base, by decide⟩⟩

theorem witness_ResetNLeaves :
    (∃ t s,
      ∃ u, exec (.resetNAssert t) s = .next u) :=
  ⟨10, base, exec1 (.resetNAssert 10) base, by rfl⟩

theorem witness_StorageEvents :
    (∃ (t : _) (p : StPort) (id media x : _) (s : State),
      (let b := advance t s
       let left := (stPort b p).cmds.filter (fun y => !(y.id == id))
       (stPort b p).cmds.find? (fun y => y.id == id) = some x ∧ chunkIn b x.req x.chunk .reading = true ∧
       media = false ∧ (left.any (fun y => y.req == x.req && y.chunk == x.chunk)) = true)) ∧
    (∃ (t : _) (p : StPort) (id media x : _) (s : State) (q e : _),
      (let b := advance t s
       let left := (stPort b p).cmds.filter (fun y => !(y.id == id))
       (stPort b p).cmds.find? (fun y => y.id == id) = some x ∧ chunkIn b x.req x.chunk .reading = true ∧
       media = false ∧ (left.any (fun y => y.req == x.req && y.chunk == x.chunk)) = false ∧ reqGet b x.req = some q ∧
       chunkEntry q x.chunk = some e)) ∧
    (∃ (t : _) (p : StPort) (id media x : _) (s : State),
      (let b := advance t s
       (stPort b p).cmds.find? (fun y => y.id == id) = some x ∧ chunkIn b x.req x.chunk .reading = true ∧
       media = true ∧ x.mediaFails < 2)) ∧
    (∃ (t : _) (p : StPort) (id media x : _) (s : State),
      (let b := advance t s
       (stPort b p).cmds.find? (fun y => y.id == id) = some x ∧ chunkIn b x.req x.chunk .reading = true ∧
       media = true ∧ 2 ≤ x.mediaFails)) ∧
    (∃ (t : _) (p : StPort) (id x : _) (s : State),
      (let b := advance t s
       (stPort b p).cmds.find? (fun y => y.id == id) = some x ∧ x.issued + 500000000 ≤ b.keel.frc ∧
       completes b p id = false ∧ x.timeouts < 2)) ∧
    (∃ (t : _) (p : StPort) (id x : _) (s : State),
      (let b := advance t s
       (stPort b p).cmds.find? (fun y => y.id == id) = some x ∧ x.issued + 500000000 ≤ b.keel.frc ∧
       completes b p id = false ∧ x.timeouts = 2)) ∧
    (∃ (t r q c e : _) (s : State),
      (let b := advance t s
       b.eng = .piste ∧ issueTurn b = some (r, q) ∧ nextChunk q = some c ∧
       expired b q.hac.expires q.hac.expiry = false ∧ chunkEntry q c = some e ∧
       b.asset.staging + e.stored ≤ stagingSize b)) ∧
    (∃ (t r c q : _) (s : State),
      (let b := advance t s
       reqGet b r = some q ∧ b.eng = .piste ∧ chunkIn b r c .staged = true)) ∧
    (∃ (t r c q x u : _) (s : State),
      (let b := advance t s
       reqGet b r = some q ∧ chunkGet q c = some x ∧ x.unit = some u ∧ b.eng = .piste ∧ x.st = .verified)) ∧
    (∃ (t r q : _) (s : State),
      (let b := advance t s
       reqGet b r = some q ∧ reqWhole q = true)) ∧
    (∃ (t : _) (s : State),
      (let b := advance t s
       mainOff b = false ∧ b.asset.s0.gone = false)) ∧
    (∃ (t : _) (s : State),
      (let b := advance t s
       mainOff b = false ∧ b.asset.s0.present = false ∧ b.eng ≠ .piste)) ∧
    (∃ (t d : _) (s : State),
      (let b := advance t s
       mainOff b = false ∧ b.asset.s0.present = false ∧
       (let u := startWindow (setStPort b .s0 { stPort b .s0 with gone := false })
        let w := enumerate .s0 d u
        b.eng = .piste ∧ w.asset.s0.enumd = true))) ∧
    (∃ (t d : _) (s : State),
      (let b := advance t s
       mainOff b = false ∧ b.asset.s0.present = false ∧
       (let u := startWindow (setStPort b .s0 { stPort b .s0 with gone := false })
        let w := enumerate .s0 d u
        b.eng = .piste ∧ w.asset.s0.enumd = false))) ∧
    (∃ (t : _) (s : State),
      (let b := advance t s
       mainOff b = false ∧ b.asset.s1.present = true)) :=
  ⟨⟨10, .s0, 4, false, ⟨4, 0, 0, 0, 0, 0, false⟩,
     { base with asset := { s0 := { present := true, enumd := true, cmds := [⟨4, 0, 0, 0, 0, 0, false⟩, ⟨5, 0, 0, 0, 0, 0, false⟩] }, reqs := [(0, { h := hd, a := ⟨0, 3, false, false, false, 0, 1, 0, 1, 0, 0, 0, 0, 0⟩, hac := ⟨0, 0, 0, 0, 9, false, 0, [⟨8192, 56, 1, 0, 0, 0⟩]⟩, port := .s0, order := 0, chunks := [{ chunk := 0, st := .reading }] })] } },
     by decide⟩,
    ⟨10, .s0, 4, false, ⟨4, 0, 0, 0, 0, 0, false⟩,
     { base with asset := { s0 := { present := true, enumd := true, cmds := [⟨4, 0, 0, 0, 0, 0, false⟩] }, reqs := [(0, { h := hd, a := ⟨0, 3, false, false, false, 0, 1, 0, 1, 0, 0, 0, 0, 0⟩, hac := ⟨0, 0, 0, 0, 9, false, 0, [⟨8192, 56, 1, 0, 0, 0⟩]⟩, port := .s0, order := 0, chunks := [{ chunk := 0, st := .reading }] })] } },
     { h := hd, a := ⟨0, 3, false, false, false, 0, 1, 0, 1, 0, 0, 0, 0, 0⟩, hac := ⟨0, 0, 0, 0, 9, false, 0, [⟨8192, 56, 1, 0, 0, 0⟩]⟩, port := .s0, order := 0, chunks := [{ chunk := 0, st := .reading }] },
     ⟨8192, 56, 1, 0, 0, 0⟩, by decide⟩,
    ⟨10, .s0, 4, true, ⟨4, 0, 0, 0, 0, 0, false⟩,
     { base with asset := { s0 := { present := true, enumd := true, cmds := [⟨4, 0, 0, 0, 0, 0, false⟩] }, reqs := [(0, { h := hd, a := ⟨0, 3, false, false, false, 0, 1, 0, 1, 0, 0, 0, 0, 0⟩, hac := ⟨0, 0, 0, 0, 9, false, 0, [⟨8192, 56, 1, 0, 0, 0⟩]⟩, port := .s0, order := 0, chunks := [{ chunk := 0, st := .reading }] })] } },
     by decide⟩,
    ⟨10, .s0, 4, true, ⟨4, 0, 0, 0, 0, 2, false⟩,
     { base with asset := { s0 := { present := true, enumd := true, cmds := [⟨4, 0, 0, 0, 0, 2, false⟩] }, reqs := [(0, { h := hd, a := ⟨0, 3, false, false, false, 0, 1, 0, 1, 0, 0, 0, 0, 0⟩, hac := ⟨0, 0, 0, 0, 9, false, 0, [⟨8192, 56, 1, 0, 0, 0⟩]⟩, port := .s0, order := 0, chunks := [{ chunk := 0, st := .reading }] })] } },
     by decide⟩,
    ⟨500000000, .s0, 4, ⟨4, 0, 0, 0, 1, 0, false⟩,
     { base with asset := { s0 := { present := true, enumd := true, cmds := [⟨4, 0, 0, 0, 1, 0, false⟩] } } },
     by decide⟩,
    ⟨500000000, .s0, 4, ⟨4, 0, 0, 0, 2, 0, false⟩,
     { base with asset := { s0 := { present := true, enumd := true, cmds := [⟨4, 0, 0, 0, 2, 0, false⟩] } } },
     by decide⟩,
    ⟨10, 0,
     { h := hd, a := ⟨0, 3, false, false, false, 0, 1, 0, 1, 0, 0, 0, 0, 0⟩, hac := ⟨0, 0, 0, 0, 9, false, 0, [⟨8192, 56, 1, 0, 0, 0⟩]⟩, port := .s0, order := 0 },
     0, ⟨8192, 56, 1, 0, 0, 0⟩,
     { base with asset := { s0 := { present := true, enumd := true, queues := 1 }, reqs := [(0, { h := hd, a := ⟨0, 3, false, false, false, 0, 1, 0, 1, 0, 0, 0, 0, 0⟩, hac := ⟨0, 0, 0, 0, 9, false, 0, [⟨8192, 56, 1, 0, 0, 0⟩]⟩, port := .s0, order := 0 })] } },
     by decide⟩,
    ⟨10, 0, 0,
     { h := hd, a := ⟨0, 3, false, false, false, 0, 1, 0, 1, 0, 0, 0, 0, 0⟩, hac := ⟨0, 0, 0, 0, 9, false, 0, [⟨8192, 56, 1, 0, 0, 0⟩]⟩, port := .s0, order := 0, chunks := [{ chunk := 0, st := .staged }] },
     { base with asset := { s0 := { present := true, enumd := true }, reqs := [(0, { h := hd, a := ⟨0, 3, false, false, false, 0, 1, 0, 1, 0, 0, 0, 0, 0⟩, hac := ⟨0, 0, 0, 0, 9, false, 0, [⟨8192, 56, 1, 0, 0, 0⟩]⟩, port := .s0, order := 0, chunks := [{ chunk := 0, st := .staged }] })] } },
     by decide⟩,
    ⟨10, 0, 0,
     { h := hd, a := ⟨0, 3, false, false, false, 0, 1, 0, 1, 0, 0, 0, 0, 0⟩, hac := ⟨0, 0, 0, 0, 9, false, 0, [⟨8192, 56, 1, 0, 0, 0⟩]⟩, port := .s0, order := 0, chunks := [{ chunk := 0, st := .verified, unit := some 15 }] },
     { chunk := 0, st := .verified, unit := some 15 }, 15,
     { base with asset := { s0 := { present := true, enumd := true }, reqs := [(0, { h := hd, a := ⟨0, 3, false, false, false, 0, 1, 0, 1, 0, 0, 0, 0, 0⟩, hac := ⟨0, 0, 0, 0, 9, false, 0, [⟨8192, 56, 1, 0, 0, 0⟩]⟩, port := .s0, order := 0, chunks := [{ chunk := 0, st := .verified, unit := some 15 }] })] } },
     by decide⟩,
    ⟨10, 0,
     { h := hd, a := ⟨0, 3, false, false, false, 0, 1, 0, 1, 0, 0, 0, 0, 0⟩, hac := ⟨0, 0, 0, 0, 9, false, 0, [⟨8192, 56, 1, 0, 0, 0⟩]⟩, port := .s0, order := 0, stopped := true },
     { base with asset := { s0 := { present := true, enumd := true }, reqs := [(0, { h := hd, a := ⟨0, 3, false, false, false, 0, 1, 0, 1, 0, 0, 0, 0, 0⟩, hac := ⟨0, 0, 0, 0, 9, false, 0, [⟨8192, 56, 1, 0, 0, 0⟩]⟩, port := .s0, order := 0, stopped := true })] } },
     by decide⟩,
    ⟨10, { base with asset := { s0 := { present := true, enumd := true, queues := 1 } } }, by decide⟩,
    ⟨10, { base with eng := .snowplough }, by decide⟩,
    ⟨10, { direct := true, queues := 1 }, base, by decide⟩,
    ⟨10, { direct := false, queues := 1 }, base, by decide⟩,
    ⟨10, { base with asset := { s1 := { present := true } } }, by decide⟩⟩

theorem witness_QueueEvents :
    (∃ (t n : _) (k : CellIn) (y : _) (s : State),
      (let b := advance t s
       qGet b n = some y ∧ y.stopped = false ∧ y.blocked = false ∧ cellShape k = true ∧ k.mismatch = true)) ∧
    (∃ (t n : _) (k : CellIn) (y : _) (s : State),
      (let b := advance t s
       qGet b n = some y ∧ y.stopped = false ∧ y.blocked = false ∧ cellShape k = true ∧ k.mismatch = false ∧
       k.flMismatch = false ∧ qProducer y.w ≠ 4)) ∧
    (∃ (t n y : _) (s : State),
      (let b := advance t s
       qGet b n = some y ∧ y.stopped = false ∧ y.blocked = false ∧ y.awaitDrop = false ∧ qHead y = none)) ∧
    (∃ (t n y : _) (p : Pkt) (c r : _) (s : State),
      (let b := advance t s
       qGet b n = some y ∧ y.stopped = false ∧ y.blocked = false ∧ y.awaitDrop = false ∧ qHead y = some p ∧
       (readable p).drop p.readN = c :: r ∧ c.bad = false ∧ releasesAtRead b n y = true)) ∧
    (∃ (t n y : _) (p : Pkt) (c r : _) (s : State),
      (let b := advance t s
       qGet b n = some y ∧ y.stopped = false ∧ y.blocked = false ∧ y.awaitDrop = false ∧ qHead y = some p ∧
       (readable p).drop p.readN = c :: r ∧ c.bad = false ∧ releasesAtRead b n y = false)) ∧
    (∃ (t n y : _) (s : State),
      (let b := advance t s
       qGet b n = some y ∧ y.stopped = false ∧ y.blocked = false ∧ releasesAtRead b n y = true)) ∧
    (∃ (t n y : _) (s : State),
      (let b := advance t s
       qGet b n = some y ∧ y.blocked = true ∧ y.endDue = none ∧
       (∀ p, p ∈ y.pkts → restored y (intactEntries n y [] b.qm) p = true))) ∧
    (∃ (q : Queue),
      q.blocked = false) ∧
    (∃ (q : Queue),
      q.blocked = true) ∧
    (∃ (t : _) (s : State),
      (let b := advance t s
       b.qm.waiters = [])) ∧
    (∃ (t : _) (s : State),
      (let b := advance t s
       inService b = true ∧ b.qm.sampleAt + b.link.samplingUs * 1000 ≤ b.keel.frc)) ∧
    (∃ (y : Queue) (k : CellIn),
      y.blocked = false ∧ cellShape k = true ∧ k.mismatch = false ∧ k.flMismatch = false ∧ qProducer y.w ≠ 4 ∧
      qOpen y = none ∧ k.first = true ∧ y.credit = 0) ∧
    (∃ (y : Queue) (k : CellIn),
      y.blocked = false ∧ cellShape k = true ∧ k.mismatch = false ∧ k.flMismatch = false ∧ qProducer y.w ≠ 4 ∧
      qOpen y = none ∧ k.first = true ∧ y.credit ≠ 0 ∧ k.err = false) ∧
    (∃ (y : Queue) (k : CellIn),
      y.blocked = false ∧ cellShape k = true ∧ k.mismatch = false ∧ k.flMismatch = false ∧ qProducer y.w ≠ 4 ∧
      qOpen y = none ∧ k.first = false ∧ y.discard = 0) :=
  ⟨⟨10, 5,
     { first := true, last := true, err := false, data := [1], job := 0, core := none, bad := false, mismatch := true, flMismatch := false },
     q0, withQ q0, by decide⟩,
    ⟨10, 5,
     { first := true, last := true, err := false, data := [1], job := 0, core := none, bad := false, mismatch := false, flMismatch := false },
     q0, withQ q0, by decide⟩,
    ⟨10, 5, q0, withQ q0, by decide⟩,
    ⟨10, 5,
     { q0 with w := ⟨0, 0x40300, 0, 0, 0, 0, 0⟩, pkts := [{ seq := 0, cells := [⟨0, [1], false, true, false, 0⟩], closed := true, visible := true }] },
     { seq := 0, cells := [⟨0, [1], false, true, false, 0⟩], closed := true, visible := true },
     ⟨0, [1], false, true, false, 0⟩, [],
     withQ { q0 with w := ⟨0, 0x40300, 0, 0, 0, 0, 0⟩, pkts := [{ seq := 0, cells := [⟨0, [1], false, true, false, 0⟩], closed := true, visible := true }] },
     by decide⟩,
    ⟨10, 5,
     { q0 with pkts := [{ seq := 0, cells := [⟨0, [1], false, true, false, 0⟩], closed := true, visible := true }] },
     { seq := 0, cells := [⟨0, [1], false, true, false, 0⟩], closed := true, visible := true },
     ⟨0, [1], false, true, false, 0⟩, [],
     withQ { q0 with pkts := [{ seq := 0, cells := [⟨0, [1], false, true, false, 0⟩], closed := true, visible := true }] },
     by decide⟩,
    ⟨10, 5, { q0 with w := ⟨0, 0x40300, 0, 0, 0, 0, 0⟩ }, withQ { q0 with w := ⟨0, 0x40300, 0, 0, 0, 0, 0⟩ },
     by decide⟩,
    ⟨10, 5, { q0 with blocked := true }, withQ { q0 with blocked := true }, by decide⟩,
    ⟨q0, by decide⟩,
    ⟨{ q0 with blocked := true }, by decide⟩,
    ⟨10, base, by decide⟩,
    ⟨100000, base, by decide⟩,
    ⟨q0,
     { first := true, last := true, err := false, data := [1], job := 0, core := none, bad := false, mismatch := false, flMismatch := false },
     by decide⟩,
    ⟨{ q0 with credit := 1 },
     { first := true, last := true, err := false, data := [1], job := 0, core := none, bad := false, mismatch := false, flMismatch := false },
     by decide⟩,
    ⟨q0,
     { first := false, last := true, err := false, data := [1], job := 0, core := none, bad := false, mismatch := false, flMismatch := false },
     by decide⟩⟩

theorem witness_CoreEvents :
    (∃ (t mem : _) (s : State),
      (let b := advance t s
       inService b = true ∧
       (let u := (List.range 16).foldl (fun s c => flushDue c s) (streamsGoOn b)
        let v := firstRuns mem 16 (releaseWaiting (selftestRun 17 u))
        v.eng = .piste))) ∧
    (∃ (t mem : _) (s : State),
      (let b := advance t s
       inService b = true ∧
       (let u := (List.range 16).foldl (fun s c => flushDue c s) (streamsGoOn b)
        let v := firstRuns mem 16 (releaseWaiting (selftestRun 17 u))
        v.eng ≠ .piste))) ∧
    (∃ (t c px r : _) (s : State),
      (let b := advance t s
       let k := coreGet b c
       c < 16 ∧ k.run = some r ∧ r.lastRep + 4000 ≤ b.keel.frc ∧ r.done ≤ px)) ∧
    (∃ (t c run x j : _) (s : State) (q : _),
      (let b := advance t s
       c < 16 ∧ (coreGet b c).run = some run ∧ stGet b run.stream = some x ∧ jobGet x run.job = some j ∧
       rivalFirst b c run = false ∧ commitStalls b x = false ∧ outputWhole b x run c = true ∧ x.kind = .encode ∧
       outQueue x = some q)) ∧
    (∃ (t c rep run x j : _) (s : State),
      (let b := advance t s
       c < 16 ∧ (coreGet b c).run = some run ∧ stGet b run.stream = some x ∧ jobGet x run.job = some j ∧
       rivalFirst b c run = false ∧ commitStalls b x = false ∧ outputWhole b x run c = true ∧ x.kind = .decode ∧
       runDamage (jobView x j) j run rep = 0)) ∧
    (∃ (t c rep run x j : _) (s : State),
      (let b := advance t s
       c < 16 ∧ (coreGet b c).run = some run ∧ stGet b run.stream = some x ∧ jobGet x run.job = some j ∧
       rivalFirst b c run = false ∧ commitStalls b x = false ∧ outputWhole b x run c = true ∧ x.kind = .decode ∧
       runDamage (jobView x j) j run rep ≠ 0)) ∧
    (∃ (t c run x j : _) (s : State),
      (let b := advance t s
       c < 16 ∧ (coreGet b c).run = some run ∧ stGet b run.stream = some x ∧ jobGet x run.job = some j ∧
       rivalFirst b c run = false ∧ commitStalls b x = false ∧ outputWhole b x run c = true ∧ x.kind = .texture)) ∧
    (∃ (n core x j run r q y ch : _) (s : State),
      (coreGet s core).run = some run ∧ stGet s n = some x ∧ qGet s q = some y ∧ jobGet x run.job = some j ∧
      chainOf y run.job core = some ch ∧ run.cache = [] ∧ ch.done = true ∧
      (let run2 := { run with freed := true }
       let u := coreSet s core { coreGet s core with run := some run2 }
       contentOk u x j r ch.data = true ∧ passesCap u x j run2 ch.data.length = false)) ∧
    (∃ (t c lane : _) (s : State),
      (let b := advance t s
       c < 16 ∧ lane < 6 ∧ (coreGet b c).st ≠ .offline)) ∧
    (∃ (t c r : _) (s : State),
      (let b := advance t s
       c < 16 ∧ (coreGet b c).run = some r ∧ r.start + max (4 * r.firstDur) 50000000 ≤ b.keel.frc ∧
       commitDue b c = false)) ∧
    (∃ (t c r : _) (s : State),
      (let b := advance t s
       c < 16 ∧ (coreGet b c).run = some r ∧ r.start + max (4 * r.firstDur) 50000000 ≤ b.keel.frc ∧
       commitDue b c = true)) ∧
    (∃ (t c lane : _) (s : State),
      (let b := advance t s
       c < 16 ∧ lane < 4 ∧ (coreGet b c).st = .testing)) ∧
    (∃ (t c temp : _) (s : State),
      (let b := advance t s
       let u := settle c b
       let k := coreGet u c
       c < 16 ∧ b.eng = .piste ∧ k.hot = false ∧ k.step < 2 ∧ 100 ≤ temp ∧ temp < 104 ∧ k.peak = none)) ∧
    (∃ (t c rate decode : _) (s : State),
      (let b := advance t s
       let k := coreGet b c
       c < 16 ∧ inService b = true ∧ k.st ≠ .offline ∧
       scaleRate b c (if decode = true then 2000000000 else 1000000000) ≤ 2 * rate ∧ k.slow = false)) ∧
    (∃ (t onDie : _) (s : State),
      (let b := advance t s
       b.eng = .piste ∧ b.board.telem = [] ∧ onDie ≤ b.arr.capMw ∧ b.arr.capMw < onDie + 2000)) ∧
    (∃ (t n pic x : _) (s : State),
      (let b := advance t s
       stGet b n = some x ∧ x.kind = .encode ∧ fnat x.f 0x610E 0 ≠ 0 ∧ stHeight x ≤ tgetD x.recon pic 0)) ∧
    (∃ (t n job x j k : _) (s : State),
      (let b := advance t s
       stGet b n = some x ∧ jobGet x job = some j ∧ j.st = .waiting ∧ j.laWait = true ∧ laReady x j = false ∧
       j.deadline.bind (slackOf b (jobFl x j)) = some k ∧ k ≤ Int.ofNat (fnat (jobView x j).f 0x610F 64 * 65536))) :=
  ⟨⟨10, [], base, by decide⟩,
    ⟨10, [], { base with eng := .snowplough }, by decide⟩,
    ⟨4000, 15, 64, run0, { base with arr := { cores := [(15, { run := some run0 })] } }, by decide⟩,
    ⟨10, 15, run0,
     { st0 with f := [(0x6104, .num 100000), (0x5319, .num 5)], jobs := [{ seq := 0, st := .waiting, picture := 0, first := 0, count := 1, slice := 1, eop := true }] },
     { seq := 0, st := .waiting, picture := 0, first := 0, count := 1, slice := 1, eop := true },
     { base with arr := { streams := [(3, { st0 with f := [(0x6104, .num 100000), (0x5319, .num 5)], jobs := [{ seq := 0, st := .waiting, picture := 0, first := 0, count := 1, slice := 1, eop := true }] })], cores := [(15, { run := some run0 })] }, qm := { queues := [(5, { q0 with chains := [{ job := 0, core := 15, cells := [], done := true, data := enc1 }] })] } },
     5, by decide⟩,
    ⟨10, 15, rep0, run0,
     { dec0 with f := [(0x7207, .num 0)], jobs := [{ seq := 0, st := .waiting, picture := 0, first := 0, count := 1, slice := 0, eop := true }] },
     { seq := 0, st := .waiting, picture := 0, first := 0, count := 1, slice := 0, eop := true },
     { base with arr := { streams := [(3, { dec0 with f := [(0x7207, .num 0)], jobs := [{ seq := 0, st := .waiting, picture := 0, first := 0, count := 1, slice := 0, eop := true }] })], cores := [(15, { run := some run0 })] } },
     by decide⟩,
    ⟨10, 15, { rep0 with damage := 5 }, run0,
     { dec0 with f := [(0x7207, .num 0)], jobs := [{ seq := 0, st := .waiting, picture := 0, first := 0, count := 1, slice := 0, eop := true }] },
     { seq := 0, st := .waiting, picture := 0, first := 0, count := 1, slice := 0, eop := true },
     { base with arr := { streams := [(3, { dec0 with f := [(0x7207, .num 0)], jobs := [{ seq := 0, st := .waiting, picture := 0, first := 0, count := 1, slice := 0, eop := true }] })], cores := [(15, { run := some run0 })] } },
     by decide⟩,
    ⟨10, 15, run0,
     { st0 with kind := .texture, jobs := [{ seq := 0, st := .waiting, picture := 0, first := 0, count := 1, slice := 0, eop := true }] },
     { seq := 0, st := .waiting, picture := 0, first := 0, count := 1, slice := 0, eop := true },
     { base with arr := { streams := [(3, { st0 with kind := .texture, jobs := [{ seq := 0, st := .waiting, picture := 0, first := 0, count := 1, slice := 0, eop := true }] })], cores := [(15, { run := some run0 })] } },
     by decide⟩,
    ⟨3, 15,
     { st0 with f := [(0x6104, .num 100000), (0x5319, .num 5)], jobs := [{ seq := 0, st := .waiting, picture := 0, first := 0, count := 1, slice := 1, eop := true }] },
     { seq := 0, st := .waiting, picture := 0, first := 0, count := 1, slice := 1, eop := true }, run0, rep0, 5,
     { q0 with chains := [{ job := 0, core := 15, cells := [], done := true, data := enc1 }] },
     { job := 0, core := 15, cells := [], done := true, data := enc1 },
     { base with arr := { streams := [(3, { st0 with f := [(0x6104, .num 100000), (0x5319, .num 5)], jobs := [{ seq := 0, st := .waiting, picture := 0, first := 0, count := 1, slice := 1, eop := true }] })], cores := [(15, { run := some run0 })] }, qm := { queues := [(5, { q0 with chains := [{ job := 0, core := 15, cells := [], done := true, data := enc1 }] })] } },
     by decide⟩,
    ⟨10, 15, 5, { base with arr := { cores := [(15, { st := .online })] } }, by decide⟩,
    ⟨50000000, 15, run0, { base with arr := { cores := [(15, { run := some run0 })] } }, by decide⟩,
    ⟨50000000, 15, run0,
     { base with arr := { streams := [(3, { st0 with kind := .texture, jobs := [{ seq := 0, st := .waiting, picture := 0, first := 0, count := 1, slice := 0, eop := true }] })], cores := [(15, { run := some run0 })] }, pending := [.runCommit 10 15 rep0] },
     by decide⟩,
    ⟨10, 15, 3, { base with arr := { cores := [(15, { st := .testing })] } }, by decide⟩,
    ⟨10, 15, 100, { base with arr := { cores := [(15, { st := .online, step := 1 })] } }, by decide⟩,
    ⟨10, 15, 1000000000, true, { base with arr := { cores := [(15, { st := .online })] } }, by decide⟩,
    ⟨10, 58000, base, by decide⟩,
    ⟨10, 3, 0, { st0 with f := [(0x610E, .num 1)], recon := [(0, 0)] },
     withS { st0 with f := [(0x610E, .num 1)], recon := [(0, 0)] }, by decide⟩,
    ⟨1100000, 3, 0,
     { st0 with jobs := [{ seq := 0, st := .waiting, picture := 0, first := 0, count := 1, slice := 0, eop := true, laWait := true, deadline := some ⟨1100, 0, 0⟩ }] },
     { seq := 0, st := .waiting, picture := 0, first := 0, count := 1, slice := 0, eop := true, laWait := true, deadline := some ⟨1100, 0, 0⟩ },
     0,
     { withS { st0 with jobs := [{ seq := 0, st := .waiting, picture := 0, first := 0, count := 1, slice := 0, eop := true, laWait := true, deadline := some ⟨1100, 0, 0⟩ }] } with tu := { fls := [(0, { f := [(0x2901, .num 1), (0x2902, .num 1), (0x2903, .num 1000), (0x2904, .num 0)] })] } },
     by decide⟩⟩

theorem witness_DecodeEvents :
    (∃ (t n x u : _) (p : Pkt) (r : _) (s : State),
      (let b := advance t s
       stGet b n = some x ∧ x.kind = .decode ∧ fromHost x = false ∧ x.stopped = false ∧ inService b = true ∧
       headWhole (fnat x.f 0x7208 0) b = (u, some p) ∧ p.abort = none ∧ inRec p = some r)) ∧
    (∃ (t n x : _) (s : State),
      (let b := advance t s
       stGet b n = some x ∧ x.kind = .decode ∧ x.dec.running = true ∧ x.stopped = false ∧ expectedJob x = none ∧
       reached b (expectedDue b x).1 (expectedDue b x).2 0 = true)) ∧
    (∃ (t n x j : _) (s : State),
      (let b := advance t s
       stGet b n = some x ∧ x.kind = .decode ∧ lateJob b n x = some j)) ∧
    (∃ (t n x a since : _) (s : State),
      (let b := takeArea (advance t s)
       concealNow b = some (n, a, since) ∧ stGet b n = some x ∧ since + (stWidth x * a.count + 7) / 8 ≤ b.keel.frc)) ∧
    (∃ (t n x : _) (s : State),
      (let b := advance t s
       stGet b n = some x ∧ x.kind = .decode ∧ fnat x.f 0x721D 50 = 0)) ∧
    (∃ (t n x : _) (s : State),
      (let b := advance t s
       stGet b n = some x ∧ x.kind = .decode ∧ fnat x.f 0x721D 50 ≠ 0)) ∧
    (∃ (t q u : _) (p : Pkt) (n pic x : _) (s : State),
      (let b := advance t s
       b.arr.recoverQ = some q ∧ inService b = true ∧ headWhole q b = (u, some p) ∧ p.abort = none ∧
       parseRecover ((p.cells.map (fun c => c.data)).flatten) = some (n, pic) ∧ stGet (popHead q u) n = some x ∧
       x.kind = .encode)) ∧
    (∃ (t q u : _) (p : Pkt) (n pic x : _) (s : State),
      (let b := advance t s
       b.arr.recoverQ = some q ∧ inService b = true ∧ headWhole q b = (u, some p) ∧ p.abort = none ∧
       parseRecover ((p.cells.map (fun c => c.data)).flatten) = some (n, pic) ∧ stGet (popHead q u) n = some x ∧
       x.kind ≠ .encode)) :=
  ⟨⟨10, 3, { dec0 with f := [(0x7207, .num 1), (0x7208, .num 5)] },
     (headWhole 5 (advance 10 ({ withS { dec0 with f := [(0x7207, .num 1), (0x7208, .num 5)] } with qm := { queues := [(5, { q0 with pkts := [{ seq := 0, cells := [⟨0, [1], false, true, false, 0⟩], closed := true, visible := true }] })] } }))).1,
     { seq := 0, cells := [⟨0, [1], false, true, false, 0⟩], closed := true, visible := true }, ⟨1, 0, 0, false, 0⟩,
     { withS { dec0 with f := [(0x7207, .num 1), (0x7208, .num 5)] } with qm := { queues := [(5, { q0 with pkts := [{ seq := 0, cells := [⟨0, [1], false, true, false, 0⟩], closed := true, visible := true }] })] } },
     by decide⟩,
    ⟨70000000, 3, { dec0 with f := [(0x7206, .num 1)], dec := { running := true, expCount := 1 } },
     { withS { dec0 with f := [(0x7206, .num 1)], dec := { running := true, expCount := 1 } } with tu := { fls := [(0, { f := [(0x2901, .num 1), (0x2902, .num 1), (0x2903, .num 1000), (0x2904, .num 0)] })] } },
     by decide⟩,
    ⟨70000000, 3,
     { dec0 with jobs := [{ seq := 0, st := .waiting, picture := 0, first := 0, count := 1, slice := 0, eop := true, deadline := some ⟨0, 0, 0⟩ }] },
     { seq := 0, st := .waiting, picture := 0, first := 0, count := 1, slice := 0, eop := true, deadline := some ⟨0, 0, 0⟩ },
     { withS { dec0 with jobs := [{ seq := 0, st := .waiting, picture := 0, first := 0, count := 1, slice := 0, eop := true, deadline := some ⟨0, 0, 0⟩ }] } with tu := { fls := [(0, { f := [(0x2901, .num 1), (0x2902, .num 1), (0x2903, .num 1000), (0x2904, .num 0)] })] } },
     by decide⟩,
    ⟨10, 3, { dec0 with dec := { areas := [area0] } }, area0, 0,
     { base with arr := { streams := [(3, { dec0 with dec := { areas := [area0] } })], concealing := some (3, 1, 0) } },
     by decide⟩,
    ⟨10, 3, { dec0 with f := [(0x721D, .num 0)] }, withS { dec0 with f := [(0x721D, .num 0)] }, by decide⟩,
    ⟨10, 3, dec0, withS dec0, by decide⟩,
    ⟨10, 5,
     (headWhole 5 (advance 10 ({ withS st0 with arr := { streams := [(3, st0)], recoverQ := some 5 }, qm := { queues := [(5, { q0 with pkts := [{ seq := 0, cells := [⟨0, [0x20, 0] ++ leBytes 2 3 ++ leBytes 4 0 ++ List.replicate 16 0, false, true, false, 0⟩], closed := true, visible := true }] })] } }))).1,
     { seq := 0, cells := [⟨0, [0x20, 0] ++ leBytes 2 3 ++ leBytes 4 0 ++ List.replicate 16 0, false, true, false, 0⟩], closed := true, visible := true },
     3, 0, st0,
     { withS st0 with arr := { streams := [(3, st0)], recoverQ := some 5 }, qm := { queues := [(5, { q0 with pkts := [{ seq := 0, cells := [⟨0, [0x20, 0] ++ leBytes 2 3 ++ leBytes 4 0 ++ List.replicate 16 0, false, true, false, 0⟩], closed := true, visible := true }] })] } },
     by decide⟩,
    ⟨10, 5,
     (headWhole 5 (advance 10 ({ withS dec0 with arr := { streams := [(3, dec0)], recoverQ := some 5 }, qm := { queues := [(5, { q0 with pkts := [{ seq := 0, cells := [⟨0, [0x20, 0] ++ leBytes 2 3 ++ leBytes 4 0 ++ List.replicate 16 0, false, true, false, 0⟩], closed := true, visible := true }] })] } }))).1,
     { seq := 0, cells := [⟨0, [0x20, 0] ++ leBytes 2 3 ++ leBytes 4 0 ++ List.replicate 16 0, false, true, false, 0⟩], closed := true, visible := true },
     3, 0, dec0,
     { withS dec0 with arr := { streams := [(3, dec0)], recoverQ := some 5 }, qm := { queues := [(5, { q0 with pkts := [{ seq := 0, cells := [⟨0, [0x20, 0] ++ leBytes 2 3 ++ leBytes 4 0 ++ List.replicate 16 0, false, true, false, 0⟩], closed := true, visible := true }] })] } },
     by decide⟩⟩

theorem witness_BusEvents :
    (∃ (t : _) (p : BusPort) (others c : _) (s : State),
      (let b := takeAhead p (advance t s)
       let v := portGet b p
       portLive b v = true ∧ v.closing = false ∧ v.wakeReq = false ∧ (v.passiveWait = false ∨ others = []) ∧
       (let u := prepPort p (setPort b p { v with passiveWait := false })
        bestCand (candidates u p) = some c ∧ others.any (fun o => decide (o < arbField c)) = true))) ∧
    (∃ (t : _) (p : BusPort) (others c : _) (s : State),
      (let b := takeAhead p (advance t s)
       let v := portGet b p
       portLive b v = true ∧ v.closing = false ∧ v.wakeReq = false ∧ (v.passiveWait = false ∨ others = []) ∧
       (let u := prepPort p (setPort b p { v with passiveWait := false })
        bestCand (candidates u p) = some c ∧ others.any (fun o => decide (o < arbField c)) = false))) ∧
    (∃ (t : _) (p : BusPort) (f : Frame) (s : State),
      (let b := advance t s
       let v := portGet b p
       portLive b v = true ∧ v.integratedAt + f.sofNs ≤ b.keel.frc ∧ f.hcrcOk = true ∧
       (let quiet := setPort b p { v with lastAnswer := 0 }
        (f.fdf = false ∨ dataCapable quiet (portGet quiet p) = true)))) ∧
    (∃ (t : _) (p : BusPort) (f : Frame) (s : State),
      (let b := advance t s
       let v := portGet b p
       portLive b v = true ∧ v.integratedAt + f.sofNs ≤ b.keel.frc ∧ f.hcrcOk = true ∧
       (let quiet := setPort b p { v with lastAnswer := 0 }
        f.fdf = true ∧ dataCapable quiet (portGet quiet p) = false))) ∧
    (∃ (t : _) (p : BusPort) (src flow openId : _) (f : Flow) (s : State),
      (let b := advance t s
       let v := portGet b p
       portLive b v = true ∧ tget v.tx flow = some f ∧ f.openId = openId ∧ (flowDests f).contains src = true ∧
       v.mbs = [])) ∧
    (∃ (t : _) (p : BusPort) (flow auth : _) (s : State),
      (let b := advance t s
       let v := portGet b p
       portLive b v = true ∧ (∀ f, tget v.rx flow = some f → fnat f.f 0xA913 0 = 1 → auth = true) ∧
       v.dedup.length < 262144)) ∧
    (∃ (t : _) (p : BusPort) (flow : _) (f : Flow) (s : State),
      (let b := advance t s
       let v := portGet b p
       v.mbs = [] ∧ tget v.tx flow = some f ∧ f.opening = true ∧ f.openSent + 1000000 ≤ b.keel.frc)) ∧
    (∃ (t : _) (p : BusPort) (flow : _) (f : Flow) (s : State),
      (let b := advance t s
       let v := portGet b p
       tget v.rx flow = some f ∧ f.stopped = false ∧ f.refreshAt + fnat v.f 0xAC0A 10 * 1000000 ≤ b.keel.frc)) ∧
    (∃ (t : _) (p : BusPort) (flow : _) (f : Flow) (e : _) (s : State),
      (let b := advance t s
       let v := portGet b p
       tget v.tx flow = some f ∧ f.holdoff = some e ∧ e ≤ b.keel.frc)) ∧
    (∃ (t : _) (p : BusPort) (flow : _) (f : Flow) (h x : _) (s : State),
      (let b := advance t s
       let v := portGet b p
       v.mbs = [] ∧ tget v.tx flow = some f ∧ f.stalled = none ∧ f.head = some h ∧ h.firstSent = some x ∧
       x + fnat v.f 0xAC07 60 * 1000000000 ≤ b.keel.frc)) ∧
    (∃ (t : _) (p : BusPort) (flow : _) (f : Flow) (o : _) (s : State),
      (let b := advance t s
       let v := portGet b p
       tget v.rx flow = some f ∧ f.openSrc = some o ∧ arrives b p o flow = false ∧
       f.openFrc + fnat v.f 0xAC0B 10 * 1000000 ≤ b.keel.frc)) ∧
    (∃ (t : _) (p : BusPort) (flow : _) (f : Flow) (q : _) (x : Pkt) (tau : _) (s : State),
      (let b := advance t s
       let v := portGet b p
       tget v.tx flow = some f ∧ launchMode f = 2 ∧ f.released = false ∧ qGet b (flowQueue f) = some q ∧
       qHead q = some x ∧ x.launch = some tau ∧ tau ≤ activeNow b ∧ activeNow b < tau + 65536)) ∧
    (∃ (t : _) (p : BusPort) (s : State),
      (let b := advance t s
       let v := portGet b p
       inService b = true ∧ v.enabled = true ∧ v.conf ≠ .busOff ∧ v.conf ≠ .stuckOff)) ∧
    (∃ (t : _) (p : BusPort) (s : State),
      (let b := advance t s
       let v := portGet b p
       v.closing = true ∧ v.wireEnd ≤ b.keel.frc)) ∧
    (∃ (t : _) (p : BusPort) (n : _) (s : State),
      (let b := advance t s
       let v := portGet b p
       v.conf = .busOff ∧ v.rcv.counting = true ∧ v.rcv.need ≤ n)) ∧
    (∃ (t : _) (p : BusPort) (n : _) (s : State),
      (let b := advance t s
       let v := portGet b p
       v.conf = .busOff ∧ v.rcv.counting = true ∧ n < v.rcv.need)) ∧
    (∃ (t : _) (p : BusPort) (s : State),
      (let b := advance t s
       let v := portGet b p
       inService b = true ∧ v.enabled = true ∧ v.conf ≠ .stuckOff)) ∧
    (∃ (t : _) (p : BusPort) (s : State),
      (let b := advance t s
       let v := portGet b p
       portLive b v = true ∧ v.lineHeld = false ∧ v.insertEnd = none)) ∧
    (∃ (t : _) (p : BusPort) (s : State),
      (let b := advance t s
       let v := portGet b p
       v.lineHeld = true)) ∧
    (∃ (t : _) (p : BusPort) (s : State),
      (let b := advance t s
       let v := portGet b p
       v.conf ≠ .busOff ∧ v.outSince + 1000000000 ≤ b.keel.frc)) ∧
    (∃ (t ns : _) (s : State),
      (let b := advance t s
       b.keel.powered = true ∧ (b.resetN = true ∨ b.eng = .startHut ∨ b.eng = .halted) ∧ 4000 ≤ ns)) ∧
    (∃ (p : BusPort) (f : Frame) (s : State),
      (portGet s p).lastTx = some f ∧ f.fdf = true) ∧
    (∃ (p : BusPort) (f : Frame) (s : State),
      (portGet s p).lastTx = some f ∧ f.fdf = false) :=
  ⟨⟨10, .oa, [0], { kind := .ctl, num := 0, urg := 512, cls := 2, src := 7, len := 0, auth := false },
     withA { enabled := true, integrated := true, ctl := [frame0] }, by decide⟩,
    ⟨10, .oa, [], { kind := .ctl, num := 0, urg := 512, cls := 2, src := 7, len := 0, auth := false },
     withA { enabled := true, integrated := true, ctl := [frame0] }, by decide⟩,
    ⟨10, .oa, frame0, withA live, by decide⟩,
    ⟨10, .oa, { frame0 with fdf := true }, withA live, by decide⟩,
    ⟨10, .oa, 7, 1, 0, { owner := 0, f := [(0xA905, .num 7)] },
     withA { enabled := true, integrated := true, tx := [(1, { owner := 0, f := [(0xA905, .num 7)] })] }, by decide⟩,
    ⟨10, .oa, 1, true, withA live, by decide⟩,
    ⟨1000000, .oa, 1, { owner := 0, f := [], opening := true },
     withA { enabled := true, integrated := true, tx := [(1, { owner := 0, f := [], opening := true })] }, by decide⟩,
    ⟨10000000, .oa, 1, { owner := 0, f := [] },
     withA { enabled := true, integrated := true, rx := [(1, { owner := 0, f := [] })] }, by decide⟩,
    ⟨10, .oa, 1, { owner := 0, f := [], holdoff := some 10 }, 10,
     withA { enabled := true, integrated := true, tx := [(1, { owner := 0, f := [], holdoff := some 10 })] },
     by decide⟩,
    ⟨60000000000, .oa, 1,
     { owner := 0, f := [], head := some { seq := 0, first := true, last := true, len := 0, firstSent := some 0 } },
     { seq := 0, first := true, last := true, len := 0, firstSent := some 0 }, 0,
     withA { enabled := true, integrated := true, tx := [(1, { owner := 0, f := [], head := some { seq := 0, first := true, last := true, len := 0, firstSent := some 0 } })] },
     by decide⟩,
    ⟨10000000, .oa, 1, { owner := 0, f := [], openSrc := some 7 }, 7,
     withA { enabled := true, integrated := true, rx := [(1, { owner := 0, f := [], openSrc := some 7 })] }, by decide⟩,
    ⟨10, .oa, 1, { owner := 0, f := [(0xA90B, .num 2), (0xA903, .num 5)] },
     { q0 with pkts := [{ seq := 0, cells := [], closed := true, visible := true, launch := some 655360 }] },
     { seq := 0, cells := [], closed := true, visible := true, launch := some 655360 }, 655360,
     { withA { enabled := true, integrated := true, tx := [(1, { owner := 0, f := [(0xA90B, .num 2), (0xA903, .num 5)] })] } with qm := { queues := [(5, { q0 with pkts := [{ seq := 0, cells := [], closed := true, visible := true, launch := some 655360 }] })] } },
     by decide⟩,
    ⟨10, .oa, withA { enabled := true }, by decide⟩,
    ⟨10, .oa, withA { closing := true }, by decide⟩,
    ⟨10, .oa, 129, withA { conf := .busOff, rcv := { counting := true, need := 129 } }, by decide⟩,
    ⟨10, .oa, 128, withA { conf := .busOff, rcv := { counting := true, need := 129 } }, by decide⟩,
    ⟨10, .oa, withA live, by decide⟩,
    ⟨10, .oa, withA live, by decide⟩,
    ⟨10, .oa, withA { lineHeld := true }, by decide⟩,
    ⟨1000000000, .ob, base, by decide⟩,
    ⟨10, 4000, { base with resetN := true }, by decide⟩,
    ⟨.oa, { frame0 with fdf := true }, withA { live with lastTx := some { frame0 with fdf := true } }, by decide⟩,
    ⟨.oa, frame0, withA { live with lastTx := some frame0 }, by decide⟩⟩

theorem witness_TreeEvents :
    (∃ (t : _) (p : BusPort) (x : _) (s : State),
      (let b := advance t s
       let v := portGet b p
       portLive b v = true ∧ v.hbAt = some x ∧ x + 950000 ≤ b.keel.frc)) ∧
    (∃ (t : _) (p : BusPort) (hb : Heartbeat) (s : State),
      (let b := advance t s
       let v := portGet b p
       portLive b v = true ∧ hb.src = nodeOf p v ∧ v.hbSeq ≤ hb.hbSeq)) ∧
    (∃ (t : _) (p : BusPort) (hb : Heartbeat) (m : _) (s : State),
      (let b := advance t s
       let v := portGet b p
       portLive b v = true ∧ hb.src ≠ nodeOf p v ∧ anchorRole v = 0 ∧ bitOf hb.flags 0 = false ∧ p ≠ followPort b ∧
       tget v.members hb.src = some m ∧ within3ms b (some m.frc) = true)) ∧
    (∃ (t : _) (p : BusPort) (s : State),
      (let b := advance t s
       p = followPort b ∧ inService b = true ∧ (beats b p (fun hb => bitOf hb.flags 0 && !(bitOf hb.flags 1))) = false)) ∧
    (∃ (t : _) (p : BusPort) (s : State),
      (let b := advance t s
       let v := portGet b p
       v.anchor.silent = false ∧ within3ms b v.anchor.heardFrc = false ∧ partnerBeats b p = false ∧
       inService b = true ∧ anchorRole v = 1)) ∧
    (∃ (t : _) (p : BusPort) (s : State),
      (let b := advance t s
       let v := portGet b p
       v.anchor.silent = false ∧ within3ms b v.anchor.heardFrc = false ∧ partnerBeats b p = false ∧
       inService b = true ∧ anchorRole v = 2 ∧ v.anchor.acting = false)) ∧
    (∃ (t : _) (p : BusPort) (x : _) (s : State),
      (let b := advance t s
       let v := portGet b p
       anchorRole v = 2 ∧ v.anchor.silent = true ∧ v.anchor.acting = false ∧ v.anchor.checkAt = some x ∧
       x ≤ b.keel.frc ∧ partnerBeats b p = false ∧
       (let followed := v.members.any (fun e => within3ms b (some e.2.frc) && bitOf e.2.flags 2 && some e.2.follows == partnerOf v)
        followed = false ∧ fnat v.anchor.f 0xC404 0 = 0))) ∧
    (∃ (t : _) (p : BusPort) (x : _) (s : State),
      (let b := advance t s
       let v := portGet b p
       anchorRole v = 2 ∧ v.anchor.silent = true ∧ v.anchor.acting = false ∧ v.anchor.checkAt = some x ∧
       x ≤ b.keel.frc ∧ partnerBeats b p = false ∧
       (let followed := v.members.any (fun e => within3ms b (some e.2.frc) && bitOf e.2.flags 2 && some e.2.follows == partnerOf v)
        followed = false ∧ fnat v.anchor.f 0xC404 0 = 1))) ∧
    (∃ (t : _) (p : BusPort) (x : _) (s : State),
      (let b := advance t s
       let v := portGet b p
       anchorRole v = 2 ∧ v.anchor.silent = true ∧ v.anchor.acting = false ∧ v.anchor.checkAt = some x ∧
       x ≤ b.keel.frc ∧ partnerBeats b p = false ∧
       (let followed := v.members.any (fun e => within3ms b (some e.2.frc) && bitOf e.2.flags 2 && some e.2.follows == partnerOf v)
        followed = true))) ∧
    (∃ (t : _) (p : BusPort) (node m : _) (s : State),
      (let b := advance t s
       let v := portGet b p
       tget v.members node = some m ∧ m.frc + 3000000 ≤ b.keel.frc ∧ b.bus.barriers = [] ∧
       tget v.enrolls node = none ∧ (beats b p (fun hb => hb.src == node)) = false)) ∧
    (∃ (t : _) (p : BusPort) (op : GlobalOp) (r : _) (s : State),
      (let b := advance t s
       portLive b (portGet b p) = true ∧ (op.reqType = 0x19 ∨ op.reqType = 0x1D ∨ op.reqType = 0x1E) ∧
       rootPort b = some r ∧ b.bus.ops.length < 16)) ∧
    (∃ (t : _) (p : BusPort) (s : State),
      (let b := advance t s
       portLive b (portGet b p) = true)) ∧
    (∃ (t src id x : _) (s : State),
      (let b := advance t s
       b.bus.ops.find? (fun x => x.op.src == src && x.op.opId == id) = some x ∧
       Int.ofNat x.op.execNs * 65536 ≤ domNow b x.op.dom ∧ domNow b x.op.dom < Int.ofNat x.op.execNs * 65536 + 65536)) ∧
    (∃ (t tag h msg arg due : _) (s : State),
      (let b := advance t s
       tget b.bus.issues tag = some (h, msg, arg, due) ∧ due ≤ b.keel.frc)) ∧
    (∃ (t : _) (p : BusPort) (src id x : _) (s : State),
      (let b := advance t s
       tget b.bus.barriers id = some x ∧ x.expect.contains (p, src) = true ∧ portLive b (portGet b p) = true)) ∧
    (∃ (t id x : _) (p : BusPort) (s : State),
      (let b := advance t s
       tget b.bus.barriers id = some x ∧ rootPort b = some p ∧ x.root = true ∧ x.deadline ≤ b.keel.frc)) ∧
    (∃ (t : _) (p : BusPort) (r : EnrollRec) (e : _) (s : State),
      (let b := advance t s
       let v := portGet b p
       inService b = true ∧ b.trust.pcbOk = true ∧ isAuthority p v = true ∧ r.msg = 0x31 ∧
       tget v.enrolls r.src = some e ∧ e.exchange = r.exchange ∧ e.stage = 1 ∧ refusal b v r = none)) ∧
    (∃ (t : _) (p : BusPort) (r : EnrollRec) (e : _) (s : State) (n : _),
      (let b := advance t s
       let v := portGet b p
       inService b = true ∧ b.trust.pcbOk = true ∧ isAuthority p v = true ∧ r.msg = 0x31 ∧
       tget v.enrolls r.src = some e ∧ e.exchange = r.exchange ∧ e.stage = 1 ∧ refusal b v r = some n)) ∧
    (∃ (t : _) (p : BusPort) (node e : _) (s : State),
      (let b := advance t s
       let v := portGet b p
       tget v.enrolls node = some e ∧ e.since + 100000000 ≤ b.keel.frc ∧ e.stage < 11 ∧ isMember b v node = true ∧
       e.tries < 4)) ∧
    (∃ (t : _) (p : BusPort) (node e : _) (s : State),
      (let b := advance t s
       let v := portGet b p
       tget v.enrolls node = some e ∧ e.since + 100000000 ≤ b.keel.frc ∧ e.stage < 11 ∧
       (isMember b v node = false ∨ 4 ≤ e.tries))) :=
  ⟨⟨950000, .oa, 0, withA { enabled := true, integrated := true, hbAt := some 0 }, by decide⟩,
    ⟨10, .oa, { src := 0xFFF0, flags := 0, follows := 0, epochTa := 0, epochTb := 0, hbSeq := 0, state := 0 },
     withA live, by decide⟩,
    ⟨10, .ob, { src := 7, flags := 0, follows := 0, epochTa := 0, epochTb := 0, hbSeq := 0, state := 0 },
     { flags := 4, follows := 9, state := 0, frc := 0 },
     { base with bus := { oa := live, ob := { enabled := true, integrated := true, members := [(7, { flags := 4, follows := 9, state := 0, frc := 0 })] } } },
     by decide⟩,
    ⟨10, .oa, base, by decide⟩,
    ⟨10, .oa, withA { anchor := { f := [(0xC402, .num 1)] } }, by decide⟩,
    ⟨10, .oa, withA { anchor := { f := [(0xC402, .num 2)] } }, by decide⟩,
    ⟨10, .oa, 10, withA { anchor := { f := [(0xC402, .num 2)], silent := true, checkAt := some 10 } }, by decide⟩,
    ⟨10, .oa, 10,
     withA { anchor := { f := [(0xC402, .num 2), (0xC404, .num 1)], silent := true, checkAt := some 10 } }, by decide⟩,
    ⟨10, .oa, 10,
     withA { members := [(7, { flags := 4, follows := 9, state := 0, frc := 0 })], anchor := { f := [(0xC402, .num 2), (0xC403, .num 9)], silent := true, checkAt := some 10 } },
     by decide⟩,
    ⟨3000000, .oa, 7, { flags := 4, follows := 9, state := 0, frc := 0 },
     withA { members := [(7, { flags := 4, follows := 9, state := 0, frc := 0 })] }, by decide⟩,
    ⟨10, .oa,
     { src := 7, msg := 0x19, dom := .ta, skipLate := false, partial_ := false, timeout := false, opId := 0, execNs := 10, epoch := 0, reqType := 0x1E, arg := 0 },
     .oa,
     { base with bus := { oa := { enabled := true, integrated := true, anchor := { f := [(0xC402, .num 1)] } },  } },
     by decide⟩,
    ⟨10, .oa, withA live, by decide⟩,
    ⟨10, 7, 0,
     ⟨{ src := 7, msg := 0x19, dom := .ta, skipLate := false, partial_ := false, timeout := false, opId := 0, execNs := 10, epoch := 0, reqType := 0x1E, arg := 0 }, .oa⟩,
     { base with bus := { ops := [⟨{ src := 7, msg := 0x19, dom := .ta, skipLate := false, partial_ := false, timeout := false, opId := 0, execNs := 10, epoch := 0, reqType := 0x1E, arg := 0 }, .oa⟩] } },
     by decide⟩,
    ⟨10, 3, hd, 0x19, 0, 10, { base with bus := { issues := [(3, (hd, 0x19, 0, 10))] } }, by decide⟩,
    ⟨10, .oa, 7, 5, { expect := [(.oa, 7)] },
     { withA live with bus := { oa := live, barriers := [(5, { expect := [(.oa, 7)] })] } }, by decide⟩,
    ⟨10, 5, { root := true, deadline := 10 }, .oa,
     { base with bus := { oa := { enabled := true, integrated := true, anchor := { f := [(0xC402, .num 1)] } }, barriers := [(5, { root := true, deadline := 10 })] } },
     by decide⟩,
    ⟨10, .oa,
     { src := 7, exchange := 3, msg := 0x31, chainOk := true, sigOk := true, test := true, macOk := true, subject := 9, node := 7, epoch := 0, key := 0, authKey := 0, authEpoch := 0, reason := 0 },
     ⟨3, 1, 0, 0, 9⟩, withA { enrolls := [(7, ⟨3, 1, 0, 0, 9⟩)] }, by decide⟩,
    ⟨10, .oa,
     { src := 7, exchange := 3, msg := 0x31, chainOk := true, sigOk := false, test := true, macOk := true, subject := 9, node := 7, epoch := 0, key := 0, authKey := 0, authEpoch := 0, reason := 0 },
     ⟨3, 1, 0, 0, 9⟩, withA { enrolls := [(7, ⟨3, 1, 0, 0, 9⟩)] }, 2, by decide⟩,
    ⟨100000000, .oa, 7, ⟨3, 10, 3, 0, 9⟩,
     withA { members := [(7, { flags := 4, follows := 9, state := 0, frc := 100000000 })], enrolls := [(7, ⟨3, 10, 3, 0, 9⟩)] },
     by decide⟩,
    ⟨100000000, .oa, 7, ⟨3, 10, 4, 0, 9⟩, withA { enrolls := [(7, ⟨3, 10, 4, 0, 9⟩)] }, by decide⟩⟩

theorem witness_CollectorEvents :
    (∃ (m : FaultMsg),
      m.source < 1024 ∧ srcListed m.source = true ∧ 1 ≤ m.kind ∧ m.kind < 128 ∧ m.kind ≠ 0x7F) ∧
    (∃ (t : _) (m : FaultMsg) (s : State),
      (let b := advance t s
       m.source < 1024 ∧ srcListed m.source = true ∧ 1 ≤ m.kind ∧ m.kind < 128 ∧ m.kind = 0x7F ∧
       (srcGet b m.source).address = m.address)) ∧
    (∃ (t : _) (m : FaultMsg) (s : State),
      (let b := advance t s
       m.source < 1024 ∧ srcListed m.source = true ∧ 1 ≤ m.kind ∧ m.kind < 128 ∧ m.kind = 0x7F ∧
       (srcGet b m.source).address ≠ m.address)) ∧
    (∃ (t : _) (x y : FaultMsg) (s : State),
      (let b := integrityLoss [x, y] (advance t s)
       x.source < y.source ∧ y.source < 1024 ∧ srcListed x.source = true ∧ srcListed y.source = true ∧ 1 ≤ x.kind ∧
       x.kind < 127 ∧ 1 ≤ y.kind ∧ y.kind < 127 ∧ sevNow b x.source = sevNow b y.source)) ∧
    (∃ (t src v : _) (s : State),
      (let b := advance t s
       src < 1024 ∧ (srcGet b src).verdict = some v ∧ v.deadline ≤ b.keel.frc ∧ verdictComes b v = false)) ∧
    (∃ (t : _) (s : State),
      (let b := advance t s
       b.fc.cycFrc ≠ b.keel.frc)) ∧
    (∃ (t n : _) (s : State),
      (let b := advance t s
       n < 4 ∧ xfSensed b n = true)) ∧
    (∃ (t : _) (s : State),
      (let b := advance t s
       (fltPair b).isSome = true ∧ b.board.fltMismatch = false)) ∧
    (∃ (t : _) (s : State),
      (let b := advance t s
       b.board.fltMismatch = true)) :=
  ⟨⟨⟨967, 126, false, 0⟩, by decide⟩,
    ⟨10, ⟨967, 127, false, 0⟩, base, by decide⟩,
    ⟨10, ⟨967, 127, false, 1⟩, base, by decide⟩,
    ⟨10, ⟨64, 1, false, 0⟩, ⟨65, 126, false, 0⟩, base, by decide⟩,
    ⟨10, 64, { logIndex := 3, deadline := 10, raises := [(3, 0, 0)] },
     { base with fc := { running := true, srcs := [(64, { verdict := some { logIndex := 3, deadline := 10, raises := [(3, 0, 0)] } })] } },
     by decide⟩,
    ⟨10, base, by decide⟩,
    ⟨10, 3, { base with keel := { xfEnable := 8 } }, by decide⟩,
    ⟨10, { base with keel := { xfEnable := 16 } }, by decide⟩,
    ⟨10, { base with board := { fltMismatch := true } }, by decide⟩⟩

end Sys2Proof.Tests
end

section
/-! SUPPORT. A command's own checks: one that holds lets the body go on, one that fails ends it (17 R396, R397). -/

namespace Sys2Proof.Machine

variable {α : Type} {c : Bool} {e : Status}

/-- A check that holds lets the body go on. -/
theorem need_bind_of_true (hc : c = true) (k : Unit → Except Status α) : (need c e >>= k) = k () := by
  subst hc; rfl

/-- A check that fails ends the body with its status. -/
theorem need_bind_of_false (hc : c = false) (k : Unit → Except Status α) : (need c e >>= k) = .error e := by
  subst hc; rfl

/-- The owner of a pin object that the engine does not hold may use it. -/
theorem ownPin_of_owner {h : Hdr} {s : State} {kind i : Nat} (hk : pinEngine s kind i = false)
    (ho : pinOwner s kind i = some h.fn) : ownPin h s kind i = .ok () := by
  simp [ownPin, hk, ho, need]

/-- No capture FIFO is held by the engine. -/
theorem pinEngine_fifoPin (s : State) (fifo : Nat) : pinEngine s (fifoPin fifo).1 (fifoPin fifo).2 = false := by
  unfold fifoPin
  split <;> rfl

/-- The owner of a capture FIFO as a pin object is the FIFO's. -/
theorem pinOwner_fifoPin (s : State) (fifo : Nat) :
    pinOwner s (fifoPin fifo).1 (fifoPin fifo).2 = (tgetD s.tu.caps fifo {}).owner := by
  unfold fifoPin
  split
  · rfl
  · next h => simp only [pinOwner, Nat.add_sub_cancel' (Nat.le_of_not_lt h)]

/-- The owner of a capture FIFO passes the check of its pin object. -/
theorem ownPin_fifoPin_bind {h : Hdr} {s : State} {fifo : Nat} (ho : (tgetD s.tu.caps fifo {}).owner = some h.fn)
    (k : Unit → Except Status α) : (ownPin h s (fifoPin fifo).1 (fifoPin fifo).2 >>= k) = k () := by
  rw [ownPin_of_owner (pinEngine_fifoPin s fifo) ((pinOwner_fifoPin s fifo).trans ho)]; rfl

end Sys2Proof.Machine
end

section
/-! SUPPORT. Domain time at FRC_REF, and the parameter sets of the two domains (02 R30, R31). -/

namespace Sys2Proof.Machine

@[simp] theorem domSet_setDom (k : Keel) (d : Dom) (p : DomSet) : domSet (setDom k d p) d = p := by cases d <;> rfl

theorem domSet_setDom_other (k : Keel) (p : DomSet) : ∀ {d e : Dom}, e ≠ d → domSet (setDom k d p) e = domSet k e
  | .ta, .tb, _ | .tb, .ta, _ => rfl
  | .ta, .ta, h | .tb, .tb, h => absurd rfl h

@[simp] theorem setDom_frc (k : Keel) (d : Dom) (p : DomSet) : (setDom k d p).frc = k.frc := by cases d <;> rfl

/-- A slew has made nothing before its start. -/
theorem slewGained_of_le {d : DomSet} {frc : Nat} (h : frc ≤ d.slewAt) : slewGained d (Int.ofNat frc * tickNs) = 0 := by
  have hx : Int.fdiv (Int.ofNat frc * tickNs) tickNs = Int.ofNat frc := Int.mul_fdiv_cancel _ (by decide)
  have hg : slewGain (Int.toNat (Int.ofNat frc) - d.slewAt) = 0 := by
    rw [show Int.toNat (Int.ofNat frc) = frc from rfl, Nat.sub_eq_zero_of_le h]
    simp [slewGain]
  simp only [slewGained, hx, hg]
  split
  · rfl
  · split
    · next h0 => exact min_eq_right h0
    · next h0 => exact max_eq_right (not_le.1 h0).le

/-- At FRC_REF, with no part of a slew made yet, domain time is OFFSET (R30). -/
theorem domAt_frcRef {d : DomSet} (h : d.frcRef ≤ d.slewAt) : domAt d (Int.ofNat d.frcRef * tickNs) = d.offset := by
  simp only [domAt, slewGained_of_le h, sub_self, zero_mul, Int.zero_fdiv, add_zero]

end Sys2Proof.Machine
end

section
/-! PROOFS. Reading the time views, and changing the rate of a domain (02 R31, R36). -/

namespace Sys2Proof.Machine

/-- Settles O15: the body of TIME.READ answers at once, with every field taken from the one state in which it runs. -/
theorem timeReadLatch : Obligations.TimeReadLatch := by
  intro h s hs
  unfold exec execTimeRead
  exact mbx_answers (r := (.ok, _)) hs rfl

/-- Settles O18: the new parameter set starts at the present FRC from the present domain time, where neither the rate nor
a slew has added anything yet. -/
theorem rateChangeNoJump : Obligations.RateChangeNoJump := by
  intro d r s
  have hset : domSet (setRate d r s).keel d = { rebase s d with rateAdj := clipRate r } := domSet_setDom ..
  have hfrc : (setRate d r s).keel.frc = s.keel.frc := setDom_frc ..
  have hnow : domNow (setRate d r s) d = domNow s d := by
    rw [domNow, frcTicks, hfrc, hset]
    exact domAt_frcRef (d := { rebase s d with rateAdj := clipRate r }) (Nat.le_max_left ..)
  exact ⟨congrArg DomSet.rateAdj hset, hfrc, congrArg DomSet.frcRef hset, congrArg DomSet.offset hset, hnow,
    fun _ => domSet_setDom_other _ _⟩

end Sys2Proof.Machine
end

section
/-! PROOFS. Capture FIFOs: entries written and read (02 R56). -/

namespace Sys2Proof.Machine

open Sys2Proof.Safety

/-- The state with capture FIFO `n` replaced. -/
def setCap (s : State) (n : Nat) (x : CapFifo) : State :=
  { s with tu := { s.tu with caps := tput s.tu.caps n x } }

@[simp] theorem setCap_get (s : State) (n : Nat) (x : CapFifo) : tgetD (setCap s n x).tu.caps n {} = x := tgetD_tput ..

/-- The entry that FIFO `n` takes next, with GAP (FLAGS bit 2) where entries were dropped before it. -/
def nextEntry (s : State) (n source flags : Nat) (time : Ticks) : CapEntry :=
  let x := tgetD s.tu.caps n {}
  { time := time, epoch := activeEpoch s.keel, seq := x.seq, source := source, flags := flags + 4 * bit01 x.gap }

section
variable {n source flags : Nat} {time : Ticks} {s : State} {x : CapFifo} (hx : tgetD s.tu.caps n {} = x)
include hx

/-- A FIFO with space takes the entry at its end, and the gap is told. -/
theorem capWrite_of_space (hl : x.entries.length < 64) :
    capWrite n source flags time s = setCap s n { x with
      entries := x.entries ++ [nextEntry s n source flags time], gap := false, seq := (x.seq + 1) % 65536 } := by
  subst hx
  simp only [capWrite, Nat.not_le.2 hl, if_false]; rfl

/-- A full FIFO drops the entry, counts it, and marks the gap. -/
theorem capWrite_of_full (hl : 64 ≤ x.entries.length) :
    capWrite n source flags time s = raise 0x321 1 0 false
      (setCap s n { x with overflow := satAdd x.overflow 1 (2 ^ 32 - 1), gap := true }) := by
  subst hx
  simp only [capWrite, hl, if_true]; rfl

end

section
variable {h : Hdr} {fifo n : Nat} {s : State} (hs : Served (.timeCapRead h fifo n) s)
include hs

/-- TIME.CAP.READ of 1 to 16 entries by the FIFO's owner, with room for the result: the oldest entries are answered and
leave the FIFO. -/
theorem timeCapRead_answers {b : State} {x : CapFifo} (hb : started (.timeCapRead h fifo n) s = b)
    (hx : tgetD b.tu.caps fifo {} = x) (hf : fifo < 8) (ho : x.owner = some h.fn)
    (hr : 8 + 24 * (x.entries.take n).length ≤ h.room) (h1 : 1 ≤ n) (h16 : n ≤ 16) :
    exec (.timeCapRead h fifo n) s = answeredOk h
      ([Int.ofNat (x.entries.take n).length, Int.ofNat x.overflow] ++ (x.entries.take n).flatMap entryFields)
      (setCap b fifo { x with entries := x.entries.drop n }) := by
  subst hb hx
  have hargs : (decide (fifo < 8) && decide (1 ≤ n) && decide (n ≤ 16)) = true := by simp [hf, h1, h16]
  unfold exec execTimeCapRead
  exact mbx_answers (r := (.ok, _)) hs <| (need_bind_of_true hargs _).trans <|
    (ownPin_fifoPin_bind ho _).trans (need_bind_of_true (decide_eq_true hr) _)

/-- TIME.CAP.READ of no entry, or of more than 16, is refused. -/
theorem timeCapRead_badArg (hn : n = 0 ∨ 16 < n) :
    exec (.timeCapRead h fifo n) s = .next (finish h .badArg [] (started (.timeCapRead h fifo n) s)) := by
  have hargs : (decide (fifo < 8) && decide (1 ≤ n) && decide (n ≤ 16)) = false := by
    simp only [Bool.and_eq_false_iff, decide_eq_false_iff_not]; omega
  unfold exec execTimeCapRead
  exact mbx_fails hs (need_bind_of_false hargs _)

end

/-- Settles O22: a write by whether the FIFO has space, and a read by whether 1 to 16 entries are asked for. -/
theorem captureFifo : Obligations.CaptureFifo := by
  refine ⟨fun n source flags time s _ => ⟨fun hl => ?space, fun hl => ?full⟩, fun h fifo n s hs hf ho hr =>
    ⟨timeCapRead_answers hs rfl rfl hf ho hr, timeCapRead_badArg hs⟩⟩
  case space =>
    rw [capWrite_of_space rfl hl, setCap_get]
    exact ⟨rfl, rfl, nextEntry s n source flags time, rfl, rfl, rfl, rfl, rfl⟩
  case full => exact ⟨(tgetD s.tu.caps n {}).seq, capWrite_of_full rfl hl⟩

end Sys2Proof.Machine
end

section
/-! SUPPORT. Token counts that are not negative, and the judgement of a policer (13 R323, R325). -/

namespace Sys2Proof.Machine

theorem byteTokens_nonneg (n : Nat) : 0 ≤ byteTokens n := Int.natCast_nonneg _

/-- A bucket only gains from being brought up to date, and BURST clips it to no less than zero: it gets into no debt. -/
theorem refill_tokens_nonneg {b : Bucket} (h : 0 ≤ b.tokens) (frc : Nat) : 0 ≤ (refill b frc).tokens :=
  le_min (byteTokens_nonneg _) (add_nonneg h (Int.natCast_nonneg _))

/-- The state with `x` as policer `n`. -/
def setPolicer (s : State) (n : Nat) (x : Policer) : State :=
  { s with sched := { s.sched with policers := tput s.sched.policers n x } }

@[simp] theorem setPolicer_get (s : State) (n : Nat) (x : Policer) : tget (setPolicer s n x).sched.policers n = some x :=
  tget_tput ..

section
variable {n : Nat} {f : Frame} {s : State} {x : Policer} (hx : tget s.sched.policers n = some x)
include hx

/-- A frame whose charge the count covers passes; it is charged and counted as conforming. -/
theorem policeFrame_of_covered (hc : byteTokens (f.len + 16) ≤ (refill x.b s.keel.frc).tokens) :
    policeFrame n f s = (true, setPolicer s n { x with
      b := chargeBucket (refill x.b s.keel.frc) (f.len + 16)
      conformF := satAdd x.conformF 1 (2 ^ 64 - 1), conformB := satAdd x.conformB (f.len + 16) (2 ^ 64 - 1) }) := by
  simp only [policeFrame, hx, hc, decide_true, if_true]; rfl

/-- A frame in excess does not pass; it is counted, and the bucket is brought up to date but not charged. -/
theorem policeFrame_of_excess (hc : ¬ byteTokens (f.len + 16) ≤ (refill x.b s.keel.frc).tokens) :
    policeFrame n f s = (false, setPolicer s n { x with
      b := refill x.b s.keel.frc
      excessF := satAdd x.excessF 1 (2 ^ 64 - 1), excessB := satAdd x.excessB (f.len + 16) (2 ^ 64 - 1) }) := by
  simp only [policeFrame, hx, hc, decide_false, Bool.false_eq_true, if_false]; rfl

end

end Sys2Proof.Machine
end

section
/-! PROOFS. Policers: what passes, what is deducted, and no debt (13 R325). -/

namespace Sys2Proof.Machine

/-- Settles O40: by whether the brought-up count covers the charge. A frame that passes leaves the rest of a count that
covered it, and a frame in excess leaves a refilled count as it is. -/
theorem policerNeverInDebt : Obligations.PolicerNeverInDebt := by
  intro n f s x hx b charge r
  by_cases hc : charge ≤ b.tokens
  case pos =>
    have hr : r = _ := policeFrame_of_covered hx hc
    rw [hr]
    exact ⟨iff_of_true rfl hc, _, setPolicer_get .., rfl, fun _ => sub_nonneg.2 hc⟩
  case neg =>
    have hr : r = _ := policeFrame_of_excess hx hc
    rw [hr]
    exact ⟨iff_of_false Bool.false_ne_true hc, _, setPolicer_get .., rfl, fun h => refill_tokens_nonneg h _⟩

end Sys2Proof.Machine
end

section
/-! SUPPORT. What every operation keeps: the queue of commands, the FRC, and what is burned in fuses. -/

namespace Sys2Proof.Machine

/-- Legal fuse groups: none has more than its 8 bits set (R354). -/
def GroupsLegal (a : Trust) : Prop := a.lcProv ≤ 8 ∧ a.lcField ≤ 8 ∧ a.lcRma ≤ 8

/-- No group of `b` has fewer bits set than that of `a`. -/
def GroupsLe (a b : Trust) : Prop := a.lcProv ≤ b.lcProv ∧ a.lcField ≤ b.lcField ∧ a.lcRma ≤ b.lcRma

/-- From `a` to `b` fuses are only burned (R353, R354, R360): legal groups stay legal and none loses a bit, no floor falls,
and the root hash stands once the part is no longer BLANK. -/
def Burned (a b : Trust) : Prop :=
  (GroupsLegal a → GroupsLegal b ∧ GroupsLe a b ∧ (lifecycle a ≠ 0 → b.rootHash = a.rootHash)) ∧
  a.fuseFw ≤ b.fuseFw ∧ a.fuseCfg ≤ b.fuseCfg

/-- What every operation keeps: the queue of commands stands, the FRC does not go back, and fuses are only burned. -/
def Grows (s t : State) : Prop := t.pending = s.pending ∧ s.keel.frc ≤ t.keel.frc ∧ Burned s.trust t.trust

variable {s₀ s t : State}

/-- A lifecycle does not fall while no fuse group loses a bit. -/
theorem GroupsLe.lifecycle_le {a b : Trust} (h : GroupsLe a b) : lifecycle a ≤ lifecycle b := by
  obtain ⟨h1, h2, h3⟩ := h
  unfold lifecycle; split_ifs <;> omega

theorem GroupsLe.trans {a b c : Trust} (h : GroupsLe a b) (k : GroupsLe b c) : GroupsLe a c :=
  ⟨h.1.trans k.1, h.2.1.trans k.2.1, h.2.2.trans k.2.2⟩

theorem Burned.refl (a : Trust) : Burned a a := ⟨fun h => ⟨h, ⟨le_rfl, le_rfl, le_rfl⟩, fun _ => rfl⟩, le_rfl, le_rfl⟩

theorem Burned.trans {a b c : Trust} (h : Burned a b) (k : Burned b c) : Burned a c := by
  refine ⟨fun ha => ?_, h.2.1.trans k.2.1, h.2.2.trans k.2.2⟩
  obtain ⟨hb, hab, rab⟩ := h.1 ha
  obtain ⟨hc, hbc, rbc⟩ := k.1 hb
  have := hab.lifecycle_le
  exact ⟨hc, hab.trans hbc, fun h0 => (rbc (by omega)).trans (rab h0)⟩

theorem Grows.refl (s : State) : Grows s s := ⟨rfl, le_rfl, .refl _⟩

theorem Grows.trans (h : Grows s₀ s) (k : Grows s t) : Grows s₀ t :=
  ⟨k.1.trans h.1, h.2.1.trans k.2.1, h.2.2.trans k.2.2⟩

/-- Writing other parts of the state keeps all of it. -/
theorem Grows.upd {eng resetN warm pisteOnce keelHalt free tu qm arr asset bus sched checks link fc board} (h : Grows s₀ s) :
    Grows s₀ ⟨s.pending, eng, resetN, warm, pisteOnce, keelHalt, free, s.keel, tu, qm, arr, asset, bus, sched, checks, s.trust,
      link, fc, board⟩ := h

/-- So does writing the keel beside the FRC, and the trust block beside its fuses. -/
theorem Grows.updKeel {eng resetN warm pisteOnce keelHalt free keel tu qm arr asset bus sched checks trust link fc board}
    (h : Grows s₀ s) (hk : s.keel.frc ≤ keel.frc := by exact le_rfl) (ht : Burned s.trust trust := by exact .refl _) :
    Grows s₀ ⟨s.pending, eng, resetN, warm, pisteOnce, keelHalt, free, keel, tu, qm, arr, asset, bus, sched, checks, trust,
      link, fc, board⟩ := h.trans ⟨rfl, hk, ht⟩

theorem grows_ite {c : Prop} [Decidable c] (h : Grows s₀ s) (k : Grows s₀ t) : Grows s₀ (if c then s else t) := by
  split <;> assumption

theorem Grows.opt {c : Prop} [Decidable c] (h : Grows s₀ s) (k : Grows s t) : Grows s₀ (if c then t else s) :=
  grows_ite (h.trans k) h

theorem Grows.unless {c : Prop} [Decidable c] (h : Grows s₀ s) (k : Grows s t) : Grows s₀ (if c then s else t) :=
  grows_ite h (h.trans k)

theorem grows_foldl {α : Type} {f : State → α → State} {l : List α} (hf : ∀ s a, Grows s (f s a)) (h : Grows s₀ s) :
    Grows s₀ (l.foldl f s) := by
  induction l generalizing s with
  | nil => exact h
  | cons a l ih => exact ih (h.trans (hf s a))

/-! ### What every family shares -/

theorem runTo_grows {c : Nat} (hc : s.keel.frc ≤ c) (hs : Grows s₀ s) : Grows s₀ (runTo c s) := by
  unfold runTo
  exact grows_ite (hs.trans ⟨rfl, hc, .refl _⟩) hs

theorem advance_grows {t : Nat} (hs : Grows s₀ s) : Grows s₀ (advance t s) :=
  runTo_grows ((le_max_left ..).trans (rowCycle_le ..)) hs

theorem advanceReq_grows {h : Hdr} (hs : Grows s₀ s) : Grows s₀ (advanceReq h s) :=
  runTo_grows ((le_max_left ..).trans (rowCycle_le ..)) hs

theorem setFl_grows {n : Nat} {f : FallLine} (hs : Grows s₀ s) : Grows s₀ (setFl s n f) :=
  hs

theorem setFn_grows {n : Nat} {f : Fn} (hs : Grows s₀ s) : Grows s₀ (setFn s n f) :=
  hs

theorem setMbx_grows {fn : Nat} {warden : Bool} {m : Mbx} (hs : Grows s₀ s) : Grows s₀ (setMbx s fn warden m) :=
  grows_ite hs (setFn_grows hs)

theorem respond_grows {fn : Nat} {warden : Bool} {r : Rsp} (hs : Grows s₀ s) : Grows s₀ (respond fn warden r s) :=
  grows_ite hs (setMbx_grows hs)

theorem event_grows {fn code : Nat} {data : List Int} (hs : Grows s₀ s) : Grows s₀ (event fn code data s) :=
  grows_ite hs (grows_ite (setFn_grows hs) hs)

theorem hostMiss_grows {fn : Nat} (hs : Grows s₀ s) : Grows s₀ (hostMiss fn s) :=
  setFn_grows hs

theorem noteReq_grows {fn : Nat} (hs : Grows s₀ s) : Grows s₀ (noteReq fn s) := hs

theorem markStarted_grows {sp : Spec} {h : Hdr} (hs : Grows s₀ s) : Grows s₀ (markStarted sp h s) := by
  unfold markStarted
  dsimp only
  split <;> exact setMbx_grows (noteReq_grows hs)

theorem finish_grows {h : Hdr} {st : Status} {res : List Int} (hs : Grows s₀ s) : Grows s₀ (finish h st res s) :=
  respond_grows (setMbx_grows hs)

theorem outstanding_grows {h : Hdr} {l : Long} (hs : Grows s₀ s) : Grows s₀ (outstanding h l s) :=
  hs

theorem endLongs_grows {p : Hdr → Long → Bool} {st : Status} {res : List Int} (hs : Grows s₀ s) : Grows s₀
    (endLongs p st res s) :=
  grows_foldl (fun _ _ => finish_grows (.refl _)) hs

theorem takeFree_grows (hs : Grows s₀ s) : Grows s₀ (takeFree s).2 :=
  hs

theorem setPort_grows {p : BusPort} {v : Port} (hs : Grows s₀ s) : Grows s₀ (setPort s p v) := by
  unfold setPort
  split
  · exact hs
  · exact hs

/-! ### The queue manager -/

theorem qSet_grows {n : Nat} {q : Queue} (hs : Grows s₀ s) : Grows s₀ (qSet s n q) :=
  hs

theorem regrant_grows {n : Nat} (hs : Grows s₀ s) : Grows s₀ (regrant n s) :=
  hs

theorem noteDepth_grows {n d0 : Nat} (hs : Grows s₀ s) : Grows s₀ (noteDepth n d0 s) := by
  unfold noteDepth
  split
  · exact hs
  · exact grows_ite (qSet_grows hs) (grows_ite (.opt (qSet_grows hs) (event_grows (.refl _))) (grows_ite (.opt (qSet_grows
      hs) (event_grows (.refl _))) (qSet_grows hs)))

theorem qChange_grows {n : Nat} {freed : List Cell} {f : Queue → Queue} (hs : Grows s₀ s) : Grows s₀ (qChange n freed f s)
    := by
  unfold qChange
  split
  · exact hs
  · exact .unless (noteDepth_grows (.upd (qSet_grows hs))) (regrant_grows (.refl _))

theorem qMod_grows {n : Nat} {f : Queue → Queue} (hs : Grows s₀ s) : Grows s₀ (qMod n f s) := by
  unfold qMod
  split
  · exact hs
  · exact qSet_grows hs

theorem rewindOpen_grows {n : Nat} (hs : Grows s₀ s) : Grows s₀ (rewindOpen n s) := by
  unfold rewindOpen
  split
  · exact hs
  · exact qChange_grows hs

theorem markOpen_grows {n reason : Nat} (hs : Grows s₀ s) : Grows s₀ (markOpen n reason s) :=
  qMod_grows hs

theorem endOpen_grows {n reason : Nat} (hs : Grows s₀ s) : Grows s₀ (endOpen n reason s) := by
  unfold endOpen
  split
  · exact hs
  · split
    · exact hs
    · exact grows_ite (qSet_grows hs) (grows_ite (markOpen_grows hs) (rewindOpen_grows hs))

theorem commitCell_grows {n : Nat} {data : List Byte} {bad acked last : Bool} (hs : Grows s₀ s) : Grows s₀
    (commitCell n data bad acked last s) := by
  unfold commitCell
  split
  · exact hs
  · split
    · exact hs
    · exact regrant_grows (noteDepth_grows (qSet_grows hs))

theorem openPkt_grows {n : Nat} {i : PktInfo} (hs : Grows s₀ s) : Grows s₀ (openPkt n i s) :=
  qMod_grows hs

theorem overrun_grows {n : Nat} (hs : Grows s₀ s) : Grows s₀ (overrun n s) :=
  qMod_grows hs

theorem truncate_grows {n reason : Nat} {last : Bool} (hs : Grows s₀ s) : Grows s₀ (truncate n reason last s) :=
  qMod_grows (endOpen_grows (qMod_grows hs))

theorem writeCell_grows {n : Nat} {first last err bad acked : Bool} {data : List Byte} {i : PktInfo} (hs : Grows s₀ s) :
    Grows s₀ (writeCell n first last err bad acked data i s) := by
  have hd {s : State} {l : Bool} (hs : Grows s₀ s) := commitCell_grows (n := n) (data := data) (bad := bad) (acked :=
    acked) (last := l) hs
  unfold writeCell
  split
  · exact hs
  · refine grows_ite hs ?_
    have h1 : Grows s₀ (if first then endOpen n 3 s else s) := grows_ite (endOpen_grows hs) hs
    revert h1
    generalize (if first then endOpen n 3 s else s) = s1
    intro h1
    dsimp only
    split
    · exact h1
    · refine grows_ite (grows_ite (overrun_grows h1) ?_) ?_
      · exact grows_ite (endOpen_grows (hd (openPkt_grows h1))) (hd (openPkt_grows h1))
      · split
        · exact grows_ite (qSet_grows h1) (qSet_grows h1)
        · exact grows_ite (truncate_grows h1) (grows_ite (truncate_grows (overrun_grows h1))
            (grows_ite (endOpen_grows (hd h1)) (hd h1)))

theorem writePacket_grows {n : Nat} {data : List Byte} {acked : Bool} {i : PktInfo} (hs : Grows s₀ s) : Grows s₀
    (writePacket n data acked i s) :=
  qMod_grows (grows_foldl (fun _ _ => commitCell_grows (.refl _)) (openPkt_grows hs))

theorem popHead_grows {n : Nat} (hs : Grows s₀ s) : Grows s₀ (popHead n s) := by
  unfold popHead
  split
  · exact hs
  · split
    · exact hs
    · exact qChange_grows hs

theorem removePkt_grows {n seq : Nat} (hs : Grows s₀ s) : Grows s₀ (removePkt n seq s) := by
  unfold removePkt
  split
  · exact hs
  · split
    · exact hs
    · exact qChange_grows hs

theorem releaseCell_grows {n : Nat} (hs : Grows s₀ s) : Grows s₀ (releaseCell n s) := by
  unfold releaseCell
  split
  · exact hs
  · split
    · split
      · exact qChange_grows hs
      · exact hs
    · exact hs

theorem dropRestOp_grows {n : Nat} (hs : Grows s₀ s) : Grows s₀ (dropRestOp n s) := by
  unfold dropRestOp
  split
  · exact hs
  · split
    · exact grows_ite hs (qChange_grows hs)
    · exact hs

theorem freeQueue_grows {n : Nat} (hs : Grows s₀ s) : Grows s₀ (freeQueue n s) := by
  unfold freeQueue
  split
  · exact hs
  · exact hs

theorem submitted_grows {n : Nat} {st : Status} {idx seq count tag : Nat} (hs : Grows s₀ s) : Grows s₀
    (submitted n st idx seq count tag s) := by
  unfold submitted
  split
  · exact hs
  · exact respond_grows hs

theorem flushBatch_grows {n : Nat} (hs : Grows s₀ s) : Grows s₀ (flushBatch n s) := by
  unfold flushBatch
  split
  · exact hs
  · exact grows_ite hs (qMod_grows (submitted_grows hs))

/-! ### Streams, jobs and runs -/

theorem stSet_grows {n : Nat} {x : Stream} (hs : Grows s₀ s) : Grows s₀ (stSet s n x) :=
  hs

theorem stMod_grows {n : Nat} {f : Stream → Stream} (hs : Grows s₀ s) : Grows s₀ (stMod n f s) := by
  unfold stMod
  split
  · exact hs
  · exact stSet_grows hs

theorem coreSet_grows {c : Nat} {x : Core} (hs : Grows s₀ s) : Grows s₀ (coreSet s c x) :=
  hs

theorem stCount_grows {n ctr d : Nat} (hs : Grows s₀ s) : Grows s₀ (stCount n ctr d s) :=
  stMod_grows hs

theorem setJob_grows {n seq : Nat} {f : Job → Job} (hs : Grows s₀ s) : Grows s₀ (setJob n seq f s) :=
  stMod_grows hs

theorem rekey_grows {fl : Nat} (hs : Grows s₀ s) : Grows s₀ (rekey fl s) :=
  hs

theorem rekeyTextures_grows (hs : Grows s₀ s) : Grows s₀ (rekeyTextures s) :=
  hs

theorem rekeyRasters_grows (hs : Grows s₀ s) : Grows s₀ (rekeyRasters s) :=
  grows_foldl (fun _ _ => grows_ite (rekey_grows (.refl _)) (.refl _)) hs

theorem jobCommitted_grows {x : Stream} {j : Job} {st : Status} (hs : Grows s₀ s) : Grows s₀ (jobCommitted x j st s) :=
  grows_ite (respond_grows hs) hs

theorem freeChain_grows {q job core : Nat} (hs : Grows s₀ s) : Grows s₀ (freeChain q job core s) := by
  unfold freeChain
  split
  · exact hs
  · exact qChange_grows hs

theorem linkWhole_grows {q : Nat} {c : Chain} (hs : Grows s₀ s) : Grows s₀ (linkWhole q c s) := by
  unfold linkWhole
  split
  · exact hs
  · exact noteDepth_grows (qSet_grows hs)

theorem linkOne_grows {q : Nat} {c : Chain} (hs : Grows s₀ s) : Grows s₀ (linkOne q c s) := by
  unfold linkOne
  split
  · exact hs
  · exact grows_ite (writePacket_grows (qMod_grows hs)) (linkWhole_grows hs)

theorem linkCommitted_grows {q : Nat} (hs : Grows s₀ s) : Grows s₀ (linkCommitted q s) := by
  unfold linkCommitted
  split
  · exact hs
  · exact grows_ite hs (grows_foldl (fun _ _ => grows_ite (linkOne_grows (.refl _)) (.refl _)) hs)

theorem dropOutput_grows {x : Stream} {r : Run} {core : Nat} (hs : Grows s₀ s) : Grows s₀ (dropOutput x r core s) := by
  unfold dropOutput
  split
  · exact hs
  · refine .opt (freeChain_grows hs) ?_
    split
    · exact grows_ite (endOpen_grows (.refl _)) (.refl _)
    · exact .refl _

theorem endRun_grows {core : Nat} (hs : Grows s₀ s) : Grows s₀ (endRun core s) := by
  unfold endRun
  dsimp only
  split
  · exact hs
  · split
    · exact coreSet_grows hs
    · exact setJob_grows (dropOutput_grows (coreSet_grows hs))

theorem endRuns_grows {n : Nat} (hs : Grows s₀ s) : Grows s₀ (endRuns n s) :=
  grows_foldl (fun _ _ => endRun_grows (.refl _)) hs

theorem cancelJobs_grows {n : Nat} (hs : Grows s₀ s) : Grows s₀ (cancelJobs n s).1 := by
  unfold cancelJobs
  split
  · exact hs
  · refine stMod_grows ?_
    split
    · exact linkCommitted_grows (grows_foldl (fun _ _ => jobCommitted_grows (.refl _)) (endRuns_grows hs))
    · exact grows_foldl (fun _ _ => jobCommitted_grows (.refl _)) (endRuns_grows hs)

theorem stopStream_grows {n : Nat} (hs : Grows s₀ s) : Grows s₀ (stopStream n s) := by
  unfold stopStream
  split
  · exact hs
  · refine stMod_grows ?_
    split
    · exact hs
    · refine stMod_grows ?_
      split
      · exact linkCommitted_grows (grows_foldl (fun _ _ => jobCommitted_grows (.refl _)) (endRuns_grows hs))
      · exact grows_foldl (fun _ _ => jobCommitted_grows (.refl _)) (endRuns_grows hs)

theorem stopQueue_grows {n : Nat} (hs : Grows s₀ s) : Grows s₀ (stopQueue n s) := by
  unfold stopQueue
  split
  · exact hs
  · refine qMod_grows ?_
    split
    · exact cancelJobs_grows hs
    · exact hs

theorem stopFlow_grows {p : BusPort} {n : Nat} (hs : Grows s₀ s) : Grows s₀ (stopFlow p n s) := by
  unfold stopFlow
  dsimp only
  split
  · exact hs
  · exact setPort_grows hs

theorem stopAsset_grows {fn tag : Nat} (hs : Grows s₀ s) : Grows s₀ (stopAsset fn tag s) :=
  hs

/-! ### The fault collector -/

theorem quiesce_grows (hs : Grows s₀ s) : Grows s₀ (quiesce s) :=
  .upd (grows_foldl (fun _ _ => endRun_grows (.refl _)) hs)

theorem engineStop_grows (hs : Grows s₀ s) : Grows s₀ (engineStop s) :=
  grows_ite (.upd (quiesce_grows hs)) hs

theorem cancelFetched_grows {fn : Nat} {warden : Bool} (hs : Grows s₀ s) : Grows s₀ (cancelFetched fn warden s) :=
  grows_foldl (fun _ _ => respond_grows (.refl _)) (setMbx_grows hs)

theorem cancelAll_grows (hs : Grows s₀ s) : Grows s₀ (cancelAll s) := by
  refine .upd (.upd (grows_foldl (fun _ _ => stMod_grows ?_) (cancelFetched_grows (grows_foldl (fun _ _ =>
    cancelFetched_grows (.refl _)) (endLongs_grows hs)))))
  split
  · exact .refl _
  · refine stMod_grows ?_
    split
    · exact linkCommitted_grows (grows_foldl (fun _ _ => jobCommitted_grows (.refl _)) (endRuns_grows (.refl _)))
    · exact grows_foldl (fun _ _ => jobCommitted_grows (.refl _)) (endRuns_grows (.refl _))

theorem keelStop_grows (hs : Grows s₀ s) : Grows s₀ (keelStop s) :=
  .upd (quiesce_grows (grows_ite (cancelAll_grows hs) hs))

theorem streamStop_grows {addr : Nat} (hs : Grows s₀ s) : Grows s₀ (streamStop addr s) := by
  unfold streamStop
  split
  · exact stopQueue_grows hs
  · exact stopStream_grows hs
  · exact stopFlow_grows hs
  · exact stopAsset_grows hs
  · exact hs

theorem react_grows {sev addr : Nat} (hs : Grows s₀ s) : Grows s₀ (react sev addr s) :=
  grows_ite (streamStop_grows hs) (grows_ite (engineStop_grows hs) (grows_ite (keelStop_grows hs) hs))

theorem updRecs_grows {p : FaultRec → Bool} {f : FaultRec → FaultRec} (hs : Grows s₀ s) : Grows s₀ (updRecs p f s) :=
  hs

theorem keepRec_grows {r : FaultRec} (hs : Grows s₀ s) : Grows s₀ (keepRec r s) :=
  hs

theorem logRec_grows {r : FaultRec} (hs : Grows s₀ s) : Grows s₀ (logRec r s) :=
  grows_ite hs hs

theorem updEvents_grows {f : List Int → List Int} (hs : Grows s₀ s) : Grows s₀ (updEvents f s) :=
  hs

theorem rankLogged_grows {r : FaultRec} (hs : Grows s₀ s) : Grows s₀ (rankLogged r s).1 := by
  unfold rankLogged
  dsimp only
  split
  · exact hs
  · exact .updKeel (updEvents_grows hs)

theorem faultEvent_grows {r : FaultRec} {logged always : Bool} (hs : Grows s₀ s) : Grows s₀ (faultEvent r logged always s) :=
  grows_ite (event_grows hs) hs

theorem recordRaise_grows {src kind addr : Nat} {held : Bool} (hs : Grows s₀ s) :
    Grows s₀ (recordRaise src kind addr held s).1 := by
  unfold recordRaise
  extract_lets frc c1 s1 sev x0 x logged verdict same r x' s2 s3 c4 s4 s5 s6
  have h1 : Grows s₀ s1 := grows_ite hs hs
  have h4 : Grows s₀ s4 := .upd (updRecs_grows (updRecs_grows h1))
  have h6 : Grows s₀ s6 := .opt (keepRec_grows h4) (updEvents_grows (.refl _))
  refine faultEvent_grows ?_
  split
  · exact rankLogged_grows (logRec_grows (.upd h6))
  · exact h6

theorem holdRaise_grows {src kind addr : Nat} {held : Bool} (hs : Grows s₀ s) : Grows s₀ (holdRaise src kind addr held s) :=
  hs

theorem raise_grows {src kind addr : Nat} {held : Bool} (hs : Grows s₀ s) : Grows s₀ (raise src kind addr held s) := by
  have h1 : Grows s₀ (react (recordRaise src kind addr held s).2 addr (recordRaise src kind addr held s).1) :=
    react_grows (recordRaise_grows hs)
  unfold raise
  split
  · exact holdRaise_grows hs
  · dsimp only
    split
    · exact react_grows (recordRaise_grows h1)
    · exact h1

theorem readFailed_grows {fn : Nat} (hs : Grows s₀ s) : Grows s₀ (readFailed fn s) :=
  raise_grows hs

theorem blockPointers_grows {n : Nat} (hs : Grows s₀ s) : Grows s₀ (blockPointers n s) :=
  qMod_grows hs

theorem blockQueue_grows {n : Nat} (hs : Grows s₀ s) : Grows s₀ (blockQueue n s) :=
  raise_grows (blockPointers_grows hs)

theorem blockFreeList_grows (hs : Grows s₀ s) : Grows s₀ (blockFreeList s) :=
  raise_grows hs

theorem badCell_grows {n : Nat} {p : Pkt} (hs : Grows s₀ s) : Grows s₀ (badCell n p s) :=
  raise_grows (qMod_grows hs)

theorem headWhole_grows {n : Nat} (hs : Grows s₀ s) : Grows s₀ (headWhole n s).1 := by
  unfold headWhole
  split
  · exact hs
  · split
    · exact badCell_grows hs
    · exact hs

theorem endCond_grows {src : Nat} (hs : Grows s₀ s) : Grows s₀ (endCond src s) :=
  grows_ite hs (updRecs_grows hs)

theorem queueFault_grows {m : FaultMsg} (hs : Grows s₀ s) : Grows s₀ (queueFault m s) :=
  grows_ite (blockPointers_grows hs) (grows_ite hs (grows_ite hs hs))

theorem takeMessages_grows {msgs : List FaultMsg} (hs : Grows s₀ s) : Grows s₀ (takeMessages msgs s) :=
  grows_foldl (fun _ _ => grows_ite (endCond_grows (.refl _)) (.refl _)) (grows_foldl (fun _ _ => raise_grows
    (queueFault_grows (.refl _))) hs)

theorem decideVerdict_grows {src : Nat} {act : Option Nat} (hs : Grows s₀ s) : Grows s₀ (decideVerdict src act s) := by
  unfold decideVerdict
  dsimp only
  split
  · exact hs
  · exact grows_foldl (fun _ _ => react_grows (.refl _)) (updRecs_grows hs)

theorem feedChange_grows {c : KeelChange} (hs : Grows s₀ s) : Grows s₀ (feedChange c s) :=
  .opt (.opt (.opt (.opt (event_grows hs) (grows_ite (.refl _) (raise_grows (.refl _)))) (endCond_grows (.refl _)))
    (raise_grows (.refl _))) (raise_grows (endCond_grows (.refl _)))

/-- The changes that the keel latched are raised with the FRC of their own instants, and the FRC is set back behind them (R435):
beside the FRC, all is kept. -/
theorem feedChanges_keep (l : List KeelChange) {a t : State} (h : t.pending = a.pending ∧ Burned a.trust t.trust) :
    let u := l.foldl (fun s c => feedChange c { s with keel := { s.keel with frc := c.frc } }) t
    u.pending = a.pending ∧ Burned a.trust u.trust := by
  induction l generalizing t with
  | nil => exact h
  | cons c l ih =>
    obtain ⟨hp, -, hb⟩ := feedChange_grows (c := c) (.refl { t with keel := { t.keel with frc := c.frc } })
    exact ih ⟨hp.trans h.1, h.2.trans hb⟩

theorem startCollector_grows (hs : Grows s₀ s) : Grows s₀ (startCollector s) := by
  unfold startCollector
  refine grows_foldl (fun _ _ => raise_grows (.refl _)) (.opt ?_ (raise_grows (.refl _)))
  obtain ⟨hp, hb⟩ := feedChanges_keep s.keel.changes (a := s) (t := { s with
    fc := { s.fc with running := true, early := [] }, keel := { s.keel with changes := [], overflow := false } }) ⟨rfl,
      .refl _⟩
  exact hs.trans ⟨hp, le_rfl, hb⟩

/-! ### Bands and damage -/

theorem announce_grows {n : Nat} {r : RecReq} {again : Bool} (hs : Grows s₀ s) : Grows s₀ (announce n r again s) := by
  unfold announce
  split
  · exact hs
  · split
    · exact event_grows hs
    · exact .upd (stCount_grows (event_grows hs))

theorem requestRecovery_grows {n picture first count kind : Nat} (hs : Grows s₀ s) : Grows s₀
    (requestRecovery n picture first count kind s) := by
  unfold requestRecovery
  split
  · exact hs
  · exact grows_ite hs (announce_grows (stSet_grows hs))

theorem takeArea_grows (hs : Grows s₀ s) : Grows s₀ (takeArea s) :=
  grows_ite hs hs

theorem damage_grows {n kind picture slice first count : Nat} {job : Option Job} (hs : Grows s₀ s) : Grows s₀
    (damage n kind picture slice first count job s) := by
  unfold damage
  split
  · exact hs
  · exact takeArea_grows (requestRecovery_grows (event_grows (stMod_grows (stCount_grows (grows_ite (hostMiss_grows
      (stCount_grows hs)) hs)))))

theorem pictureLost_grows {n picture : Nat} (hs : Grows s₀ s) : Grows s₀ (pictureLost n picture s) := by
  unfold pictureLost
  split
  · exact hs
  · exact requestRecovery_grows (stMod_grows (event_grows (stMod_grows (stCount_grows hs))))

theorem recoverEncode_grows {n picture : Nat} (hs : Grows s₀ s) : Grows s₀ (recoverEncode n picture s) := by
  unfold recoverEncode
  split
  · exact hs
  · exact grows_ite (stCount_grows (stCount_grows hs)) (stMod_grows (stCount_grows hs))

/-! ### Rate control -/

theorem takeHostEntry_grows {n : Nat} {x : Stream} {j : Job} {k : Nat} (hs : Grows s₀ s) :
    Grows s₀ (takeHostEntry n x j k s).1 := by
  induction k generalizing s with
  | zero => exact hs
  | succ k ih =>
    have hw := headWhole_grows (n := fnat x.f 0x6114 0) hs
    unfold takeHostEntry
    dsimp only
    split
    next heq => rw [heq] at hw; exact hw
    next heq =>
      rw [heq] at hw
      split
      · exact ih (dropRestOp_grows hw)
      · split
        · exact stCount_grows (popHead_grows hw)
        · split
          · exact popHead_grows hw
          · split
            · exact ih (stCount_grows (popHead_grows hw))
            · exact hw

theorem hostInput_grows {n : Nat} {x : Stream} {j : Job} (hs : Grows s₀ s) : Grows s₀ (hostInput n x j s).1 := by
  unfold hostInput
  split
  · exact hs
  · exact takeHostEntry_grows hs

theorem decision_grows {n : Nat} {x : Stream} {j : Job} (hs : Grows s₀ s) : Grows s₀ (decision n x j s).1 := by
  have hi := hostInput_grows (n := n) (x := x) (j := j) hs
  unfold decision
  dsimp only
  split
  · exact hs
  · exact hs
  · exact grows_ite (stCount_grows hs) hs
  · split
    next heq => rw [heq] at hi; split <;> exact hi
    next heq => rw [heq] at hi; exact hostMiss_grows (stCount_grows hi)
  · exact hs

theorem decideJob_grows {n seq : Nat} (hs : Grows s₀ s) : Grows s₀ (decideJob n seq s) := by
  unfold decideJob
  split
  · exact hs
  · split
    · exact hs
    · exact grows_ite hs (stMod_grows (setJob_grows (decision_grows (stSet_grows hs))))

theorem chargeJob_grows {n bytes : Nat} {j : Job} {r : Option (Int × RunReport)} (hs : Grows s₀ s) : Grows s₀
    (chargeJob n bytes j r s) :=
  stMod_grows hs

/-! ### Cores and runs -/

theorem settle_grows {c : Nat} (hs : Grows s₀ s) : Grows s₀ (settle c s) :=
  coreSet_grows hs

theorem settleAll_grows (hs : Grows s₀ s) : Grows s₀ (settleAll s) :=
  grows_foldl (fun _ _ => settle_grows (.refl _)) hs

theorem rerate_grows {c : Nat} (hs : Grows s₀ s) : Grows s₀ (rerate c s) := by
  unfold rerate
  dsimp only
  split
  · exact hs
  · split
    · exact hs
    · exact grows_ite hs (coreSet_grows hs)

theorem rerateAll_grows (hs : Grows s₀ s) : Grows s₀ (rerateAll s) :=
  grows_foldl (fun _ _ => rerate_grows (.refl _)) hs

theorem dropFrames_grows (hs : Grows s₀ s) : Grows s₀ (dropFrames s) :=
  hs

theorem releaseWaiting_grows (hs : Grows s₀ s) : Grows s₀ (releaseWaiting s) :=
  dropFrames_grows hs

theorem addJob_grows {n : Nat} {data : List Byte} {j : Job} (hs : Grows s₀ s) : Grows s₀ (addJob n data j s).1 := by
  unfold addJob
  split
  · exact hs
  · dsimp only
    split
    · exact grows_ite hs (overrun_grows hs)
    · exact stMod_grows (writePacket_grows hs)

theorem writeTranscodeJob_grows {n picture k : Nat} (hs : Grows s₀ s) : Grows s₀ (writeTranscodeJob n picture k s) := by
  unfold writeTranscodeJob
  split
  · exact hs
  · exact addJob_grows hs

theorem writeDue_grows {n k : Nat} (hs : Grows s₀ s) : Grows s₀ (writeDue n k s) := by
  induction k generalizing s with
  | zero => exact hs
  | succ k ih =>
    unfold writeDue
    split
    · exact hs
    · split
      · exact hs
      · exact grows_ite hs (ih (writeTranscodeJob_grows (stMod_grows hs)))

theorem writeTranscode_grows {n picture : Nat} (hs : Grows s₀ s) : Grows s₀ (writeTranscode n picture s) := by
  unfold writeTranscode
  split
  · exact hs
  · exact grows_ite hs (writeDue_grows (stMod_grows hs))

theorem linkStaged_grows {n q : Nat} {x : Stream} (hs : Grows s₀ s) : Grows s₀ (linkStaged n q x s) := by
  unfold linkStaged
  split
  · split
    · exact hs
    · exact grows_ite hs (noteDepth_grows (coreSet_grows (qMod_grows (openPkt_grows hs))))
  · exact hs

theorem linkReady_grows {n k : Nat} (hs : Grows s₀ s) : Grows s₀ (linkReady n k s) := by
  induction k generalizing s with
  | zero => exact hs
  | succ k ih =>
    unfold linkReady
    split
    · exact hs
    · split
      · exact hs
      · split
        · exact linkStaged_grows hs
        · exact grows_ite (ih (stMod_grows (linkOne_grows hs))) hs

theorem failRecord_grows {n : Nat} {x : Stream} {j : Job} (hs : Grows s₀ s) : Grows s₀ (failRecord n x j s) := by
  unfold failRecord
  split
  · exact hs
  · exact grows_ite hs (linkReady_grows (qMod_grows hs))

theorem removeJob_grows {n : Nat} {x : Stream} {seq : Nat} (hs : Grows s₀ s) : Grows s₀ (removeJob n x seq s) :=
  .unless (stMod_grows hs) (removePkt_grows (.refl _))

theorem putUnit_grows {u : HUnit} (hs : Grows s₀ s) : Grows s₀ (putUnit u s) :=
  hs

theorem flushRecs_grows {n k : Nat} (hs : Grows s₀ s) : Grows s₀ (flushRecs n k s) := by
  induction k generalizing s with
  | zero => exact hs
  | succ k ih =>
    unfold flushRecs
    split
    · exact hs
    · split
      · exact hs
      · dsimp only
        split
        · exact ih (stMod_grows hs)
        · exact grows_ite (ih (qMod_grows (writePacket_grows (stMod_grows hs)))) hs

theorem emitBand_grows {n : Nat} {r : BandRec} {pixels : Bool} {bytes : Nat} {rows : List (Nat × List Byte)}
    {dl : Option Pos} {fl : Nat} (hs : Grows s₀ s) : Grows s₀ (emitBand n r pixels bytes rows dl fl s) := by
  unfold emitBand
  split
  · exact hs
  · exact grows_ite (putUnit_grows hs) (flushRecs_grows (stMod_grows hs))

/-! ### The asset path -/

theorem setStPort_grows {p : StPort} {v : StorePort} (hs : Grows s₀ s) : Grows s₀ (setStPort s p v) := by
  unfold setStPort
  split
  · exact hs
  · exact hs

theorem assetCount_grows {p : StPort} {i d : Nat} (hs : Grows s₀ s) : Grows s₀ (assetCount p i d s) :=
  .upd (setStPort_grows hs)

theorem reqMod_grows {r : Nat} {f : AssetReq → AssetReq} (hs : Grows s₀ s) : Grows s₀ (reqMod r f s) :=
  hs

theorem chunkMod_grows {r c : Nat} {f : ChunkRun → ChunkRun} (hs : Grows s₀ s) : Grows s₀ (chunkMod r c f s) :=
  reqMod_grows hs

theorem takeStaging_grows {n : Nat} (hs : Grows s₀ s) : Grows s₀ (takeStaging n s) :=
  hs

theorem freeStaging_grows {n : Nat} (hs : Grows s₀ s) : Grows s₀ (freeStaging n s) :=
  hs

theorem recountStaging_grows (hs : Grows s₀ s) : Grows s₀ (recountStaging s) :=
  hs

theorem assignUnits_grows (hs : Grows s₀ s) : Grows s₀ (assignUnits s) := by
  refine grows_foldl (fun _ _ => ?_) hs
  split
  · exact .upd (chunkMod_grows (.refl _))
  · exact .refl _

theorem takeCounter_grows {r c : Nat} {q : AssetReq} (hs : Grows s₀ s) : Grows s₀ (takeCounter r c q s) := by
  unfold takeCounter
  split
  · exact hs
  · exact chunkMod_grows hs

theorem queueOutput_grows {r c : Nat} (hs : Grows s₀ s) : Grows s₀ (queueOutput r c s) := by
  unfold queueOutput
  split
  · exact hs
  · split
    · exact putUnit_grows (takeCounter_grows (grows_ite (assetCount_grows hs) hs))
    · exact hs

theorem addTexture_grows {r c : Nat} {desc : List Byte} (hs : Grows s₀ s) : Grows s₀ (addTexture r c desc s) :=
  stSet_grows hs

theorem forwardChunk_grows {r c : Nat} {desc : List Byte} (hs : Grows s₀ s) : Grows s₀ (forwardChunk r c desc s) := by
  unfold forwardChunk
  split
  · exact hs
  · split
    · exact hs
    · exact grows_ite (addTexture_grows (chunkMod_grows hs)) (grows_ite (queueOutput_grows (chunkMod_grows hs))
        (assignUnits_grows (chunkMod_grows hs)))

theorem failChunk_grows {r c : Nat} {st : Status} {detail : Nat} (hs : Grows s₀ s) : Grows s₀ (failChunk r c st detail s) :=
  recountStaging_grows (reqMod_grows hs)

theorem chunkWritten_grows {r c bytes : Nat} (hs : Grows s₀ s) : Grows s₀ (chunkWritten r c bytes s) :=
  recountStaging_grows (reqMod_grows hs)

theorem endRequest_grows {r : Nat} (hs : Grows s₀ s) : Grows s₀ (endRequest r s) := by
  unfold endRequest
  split
  · exact hs
  · exact recountStaging_grows (endLongs_grows hs)

theorem pruneUnits_grows (hs : Grows s₀ s) : Grows s₀ (pruneUnits s) :=
  hs

theorem closePort_grows {p : StPort} (hs : Grows s₀ s) : Grows s₀ (closePort p s) :=
  hs

/-! ### Trust -/

theorem takeRandom_grows (hs : Grows s₀ s) : Grows s₀ (takeRandom s).2 := hs

theorem newChallenge_grows {session : Bool} (hs : Grows s₀ s) : Grows s₀ (newChallenge session s).2 := hs

theorem useChallenge_grows {v : Nat} (hs : Grows s₀ s) : Grows s₀ (useChallenge v s) :=
  hs

theorem eraseVault_grows (hs : Grows s₀ s) : Grows s₀ (eraseVault s) :=
  recountStaging_grows (closePort_grows (closePort_grows (pruneUnits_grows (.upd hs))))

theorem endSession_grows {id : Nat} (hs : Grows s₀ s) : Grows s₀ (endSession id s) :=
  recountStaging_grows (pruneUnits_grows (.upd hs))

theorem dropNodeKeys_grows {p : BusPort} {node : Nat} (hs : Grows s₀ s) : Grows s₀ (dropNodeKeys p node s) :=
  hs

theorem abortEnroll_grows {p : BusPort} {node : Nat} (hs : Grows s₀ s) : Grows s₀ (abortEnroll p node s) := by
  unfold abortEnroll
  dsimp only
  split
  · exact .opt (setPort_grows hs) (raise_grows (.refl _))
  · exact hs

/-! ### ASSET commands -/

theorem closeContainers_grows {l : List Nat} (hs : Grows s₀ s) : Grows s₀ (closeContainers l s) :=
  recountStaging_grows (pruneUnits_grows hs)

theorem oneSlotLeft_grows {h : Hdr} (hs : Grows s₀ s) : Grows s₀ (oneSlotLeft h s) :=
  setMbx_grows hs

theorem installFail_grows {crc : Bool} (hs : Grows s₀ s) : Grows s₀ (installFail crc s) :=
  raise_grows (assetCount_grows (raise_grows (assetCount_grows (assetCount_grows (raise_grows (assetCount_grows
    (assetCount_grows hs)))))))

/-! ### Cells of a run -/

theorem retryRun_grows {n core ctr : Nat} {x : Stream} {j : Job} (hs : Grows s₀ s) : Grows s₀ (retryRun n core ctr x j s)
    := by
  unfold retryRun
  dsimp only
  split
  · exact hs
  · exact grows_ite (stCount_grows (coreSet_grows hs)) (coreSet_grows hs)

theorem putChain_grows {q : Nat} {c : Chain} (hs : Grows s₀ s) : Grows s₀ (putChain q c s) :=
  qMod_grows hs

theorem restartRun_grows {n q core ctr : Nat} {x : Stream} {j : Job} (hs : Grows s₀ s) : Grows s₀
    (restartRun n q core ctr x j s) :=
  retryRun_grows (putChain_grows (freeChain_grows hs))

theorem strayCell_grows {q : Nat} {ch : Option Chain} (hs : Grows s₀ s) : Grows s₀ (strayCell q ch s) := by
  unfold strayCell
  split
  · exact grows_ite hs (qMod_grows hs)
  · exact qMod_grows hs

theorem starveChain_grows {q : Nat} (hs : Grows s₀ s) : Grows s₀ (starveChain q s) :=
  qMod_grows (overrun_grows hs)

theorem stagedCell_grows {n q core : Nat} {x : Stream} {y : Queue} {j : Job} {r : Run} {c : CellIn} (hs : Grows s₀ s) :
    Grows s₀ (stagedCell n q core x y j r c s) := by
  have h1 : Grows s₀ (if c.first then freeChain q j.seq core s else s) := grows_ite (freeChain_grows hs) hs
  unfold stagedCell
  revert h1
  generalize (if c.first then freeChain q j.seq core s else s) = s1
  intro h1
  refine grows_ite (strayCell_grows h1) (grows_ite (restartRun_grows h1) (grows_ite (restartRun_grows h1) ?_))
  split
  · exact h1
  · exact grows_ite (grows_ite (overrun_grows h1) (restartRun_grows (starveChain_grows h1)))
      (linkStaged_grows (regrant_grows (putChain_grows (qSet_grows h1))))

theorem markChain_grows {q job core : Nat} {whole : Bool} {data : List Byte} (hs : Grows s₀ s) : Grows s₀
    (markChain q job core whole data s) :=
  putChain_grows hs

theorem droppedCell_grows {q core : Nat} {j : Job} {c : CellIn} {data : List Byte} (hs : Grows s₀ s) : Grows s₀
    (droppedCell q core j c data s) :=
  markChain_grows (qMod_grows hs)

theorem linkedCell_grows {n q core : Nat} {x : Stream} {y : Queue} {j : Job} {r : Run} {c : CellIn} (hs : Grows s₀ s) :
    Grows s₀ (linkedCell n q core x y j r c s) := by
  have h1 : Grows s₀ (if c.first then endOpen q 3 s else s) := grows_ite (endOpen_grows hs) hs
  unfold linkedCell
  refine grows_ite (strayCell_grows hs) (grows_ite (droppedCell_grows hs) ?_)
  revert h1
  generalize (if c.first then endOpen q 3 s else s) = s1
  intro h1
  dsimp only
  split
  · exact h1
  · refine grows_ite (restartRun_grows (truncate_grows h1)) (grows_ite (restartRun_grows (endOpen_grows h1))
      (grows_ite (grows_ite (overrun_grows h1) (restartRun_grows (truncate_grows (overrun_grows h1)))) ?_))
    exact markChain_grows (commitCell_grows (grows_ite (openPkt_grows h1) h1))

theorem runCell_grows {q core : Nat} {c : CellIn} (hs : Grows s₀ s) : Grows s₀ (runCell q core c s) := by
  unfold runCell
  split
  · split
    · exact hs
    · split
      · exact hs
      · exact grows_ite (linkedCell_grows hs) (stagedCell_grows hs)
  · exact hs

theorem flushCells_grows {q core : Nat} (hs : Grows s₀ s) : Grows s₀ (flushCells q core s) := by
  unfold flushCells
  dsimp only
  split
  · exact hs
  · exact grows_foldl (fun _ _ => runCell_grows (.refl _)) (coreSet_grows hs)

theorem flushDue_grows {core : Nat} (hs : Grows s₀ s) : Grows s₀ (flushDue core s) := by
  unfold flushDue
  split
  · exact hs
  · split
    · exact hs
    · split
      · exact grows_ite hs (flushCells_grows hs)
      · exact hs

theorem coreCell_grows {q : Nat} {c : CellIn} (hs : Grows s₀ s) : Grows s₀ (coreCell q c s) := by
  unfold coreCell
  split
  · exact hs
  · dsimp only
    split
    · exact hs
    · split
      · exact hs
      · split
        · exact hs
        · exact grows_ite hs (grows_ite (coreSet_grows hs) (runCell_grows (flushCells_grows hs)))

/-! ### Core events -/

theorem coreOffline_grows {core : Nat} (hs : Grows s₀ s) : Grows s₀ (coreOffline core s) :=
  .opt (raise_grows (coreSet_grows hs)) (raise_grows (.refl _))

theorem coreBack_grows {core : Nat} (hs : Grows s₀ s) : Grows s₀ (coreBack core s) :=
  coreSet_grows hs

theorem loseLane_grows {core lane : Nat} (hs : Grows s₀ s) : Grows s₀ (loseLane core s lane) :=
  raise_grows (coreSet_grows (raise_grows hs))

theorem testCore_grows {core : Nat} {fails : List (Nat × Nat)} (hs : Grows s₀ s) : Grows s₀ (testCore core fails s).1 := by
  unfold testCore
  dsimp only
  split
  · exact hs
  · split
    · exact coreOffline_grows (grows_foldl (fun _ _ => loseLane_grows (.refl _)) hs)
    · exact grows_foldl (fun _ _ => loseLane_grows (.refl _)) hs

theorem selftestRun_grows {k : Nat} (hs : Grows s₀ s) : Grows s₀ (selftestRun k s) := by
  induction k generalizing s with
  | zero => exact hs
  | succ k ih =>
    unfold selftestRun
    split
    · exact hs
    · refine grows_ite (endLongs_grows hs) (grows_ite hs ?_)
      dsimp only
      split
      · exact ih (.upd (testCore_grows hs))
      · exact ih hs

theorem beginPicture_grows {n : Nat} {j : Job} (hs : Grows s₀ s) : Grows s₀ (beginPicture n j s) := by
  unfold beginPicture
  split
  · exact hs
  · exact grows_ite hs (stSet_grows hs)

theorem startRun_grows {mem : List HostBlk} {n : Nat} {j : Job} {c : Nat} {second : Bool} (hs : Grows s₀ s) : Grows s₀
    (startRun mem n j c second s) := by
  unfold startRun
  split
  · dsimp only
    split
    · exact setJob_grows (coreSet_grows (.opt (grows_foldl (fun _ _ => readFailed_grows (.refl _)) (.opt (grows_ite
        (decideJob_grows hs) hs) (stCount_grows (.refl _)))) (stCount_grows (.refl _))))
    · exact grows_ite (decideJob_grows hs) hs
  · dsimp only
    split
    · exact setJob_grows (coreSet_grows (.opt (grows_foldl (fun _ _ => readFailed_grows (.refl _)) (.opt (.opt
        (beginPicture_grows hs) (decideJob_grows (.refl _))) (stCount_grows (.refl _)))) (stCount_grows (.refl _))))
    · exact .opt (beginPicture_grows hs) (decideJob_grows (.refl _))

theorem firstRuns_grows {mem : List HostBlk} {k : Nat} (hs : Grows s₀ s) : Grows s₀ (firstRuns mem k s) := by
  induction k generalizing s with
  | zero => exact hs
  | succ k ih =>
    unfold firstRuns
    dsimp only
    split
    · exact hs
    · split
      · exact hs
      · exact ih (startRun_grows hs)

theorem secondRun_grows {mem : List HostBlk} {c : Nat} (hs : Grows s₀ s) : Grows s₀ (secondRun mem c s) := by
  refine grows_ite hs ?_
  split
  · exact hs
  · exact startRun_grows hs

theorem streamsGoOn_grows (hs : Grows s₀ s) : Grows s₀ (streamsGoOn s) :=
  grows_foldl (fun _ _ => writeDue_grows (linkReady_grows (.refl _))) hs

theorem stopOther_grows {n : Nat} {x : Stream} {core seq : Nat} (hs : Grows s₀ s) : Grows s₀ (stopOther n x core seq s) := by
  refine grows_foldl (fun s c => ?_) hs
  dsimp only
  split
  · refine grows_ite ?_ (.refl _)
    split
    · exact freeChain_grows (qMod_grows (stCount_grows (coreSet_grows (.refl _))))
    · exact stCount_grows (coreSet_grows (.refl _))
  · exact .refl _

theorem coreCommit_grows {n core : Nat} {r : Run} (hs : Grows s₀ s) : Grows s₀ (coreCommit n core r s) :=
  stMod_grows (coreSet_grows hs)

theorem countAll_grows {n : Nat} {l : List (Nat × Nat)} (hs : Grows s₀ s) : Grows s₀ (countAll n l s) :=
  stMod_grows hs

theorem commitChain_grows {n core : Nat} {j : Job} {linking : Bool} {q : Nat} {rec_ : SliceRec} (hs : Grows s₀ s) : Grows
    s₀ (commitChain n core j linking q rec_ s) :=
  grows_ite (linkReady_grows (stMod_grows (qMod_grows hs))) (linkReady_grows (qMod_grows hs))

theorem commitEncode_grows {n core : Nat} {x : Stream} {j : Job} {run : Run} {r : RunReport} {q : Nat} {data : List Byte}
    (hs : Grows s₀ s) : Grows s₀ (commitEncode n core x j run r q data s) :=
  releaseWaiting_grows (.opt (countAll_grows (chargeJob_grows (jobCommitted_grows (commitChain_grows (removeJob_grows
    (coreCommit_grows (stopOther_grows hs))))))) (event_grows (.refl _)))

theorem abandonConceal_grows {n : Nat} {j : Job} (hs : Grows s₀ s) : Grows s₀ (abandonConceal n j s) :=
  .upd (stMod_grows hs)

theorem pictureEnd_grows {n picture : Nat} (hs : Grows s₀ s) : Grows s₀ (pictureEnd n picture s) := by
  unfold pictureEnd
  split
  · exact hs
  · exact .unless (stMod_grows hs) (grows_ite (stCount_grows (stMod_grows (.refl _))) (grows_ite (event_grows (stMod_grows
      (.refl _))) (.refl _)))

theorem bandEnd_grows {n picture : Nat} {last : Bool} (hs : Grows s₀ s) : Grows s₀ (bandEnd n picture last s) := by
  unfold bandEnd
  dsimp only
  split
  · exact stMod_grows hs
  · exact .opt (stMod_grows hs) (pictureEnd_grows (.refl _))

theorem feedTranscode_grows {n picture : Nat} (hs : Grows s₀ s) : Grows s₀ (feedTranscode n picture s) :=
  grows_foldl (fun _ _ => writeTranscode_grows (.refl _)) hs

theorem wholeOutput_grows {n : Nat} {x : Stream} {j : Job} {picture : Nat} (hs : Grows s₀ s) : Grows s₀
    (wholeOutput n x j picture s) :=
  .unless (stMod_grows hs) (putUnit_grows (.refl _))

theorem commitDecode_grows {n core : Nat} {x : Stream} {j : Job} {run : Run} {r : RunReport} (hs : Grows s₀ s) : Grows s₀
    (commitDecode n core x j run r s) := by
  unfold commitDecode
  split
  · dsimp only
    split
    · exact feedTranscode_grows (stMod_grows (removeJob_grows (.opt (coreCommit_grows (stopOther_grows hs))
        (abandonConceal_grows (.refl _)))))
    · exact takeArea_grows (releaseWaiting_grows (bandEnd_grows (jobCommitted_grows (wholeOutput_grows (emitBand_grows
        (countAll_grows (feedTranscode_grows (stMod_grows (removeJob_grows (.opt (coreCommit_grows (stopOther_grows hs))
        (abandonConceal_grows (.refl _))))))))))))
  · dsimp only
    split
    · exact feedTranscode_grows (stMod_grows (removeJob_grows (.opt (coreCommit_grows (stopOther_grows hs))
        (abandonConceal_grows (.refl _)))))
    · exact takeArea_grows (releaseWaiting_grows (bandEnd_grows (jobCommitted_grows (emitBand_grows (countAll_grows
        (feedTranscode_grows (stMod_grows (removeJob_grows (.opt (coreCommit_grows (stopOther_grows hs))
        (abandonConceal_grows (.refl _)))))))))))

theorem noteHeader_grows {n : Nat} {j : Job} {r : RunReport} {kind : Nat} (hs : Grows s₀ s) : Grows s₀
    (noteHeader n j r kind s) := by
  unfold noteHeader
  split
  · exact hs
  · exact .opt (stMod_grows hs) (event_grows (.refl _))

theorem damageRun_grows {n core : Nat} {x : Stream} {j : Job} {run : Run} {r : RunReport} {kind : Nat} (hs : Grows s₀ s) :
    Grows s₀ (damageRun n core x j run r kind s) := by
  unfold damageRun; exact damage_grows (noteHeader_grows (stMod_grows (setJob_grows (coreSet_grows (stopOther_grows
    (grows_ite (readFailed_grows (readFailed_grows hs)) hs))))))

theorem commitTexture_grows {n core : Nat} {x : Stream} {j : Job} {run : Run} {r : RunReport} (hs : Grows s₀ s) : Grows s₀
    (commitTexture n core x j run r s) := by
  unfold commitTexture
  split
  · exact removeJob_grows (coreCommit_grows hs)
  · dsimp only
    split
    · exact grows_ite (queueOutput_grows (assetCount_grows (assetCount_grows (removeJob_grows (coreCommit_grows hs)))))
        (raise_grows (failChunk_grows (assetCount_grows (assetCount_grows (assetCount_grows (removeJob_grows
        (coreCommit_grows hs)))))))
    · exact removeJob_grows (coreCommit_grows hs)

theorem endEncode_grows {n core q : Nat} {r : RunReport} (hs : Grows s₀ s) : Grows s₀ (endEncode n core q r s) := by
  unfold endEncode
  dsimp only
  split
  · split
    · exact .unless (flushCells_grows hs) (grows_ite (restartRun_grows (grows_ite (endOpen_grows (.refl _)) (.refl _)))
        (commitEncode_grows (.refl _)))
    · exact flushCells_grows hs
  · exact flushCells_grows hs

theorem failJob_grows {n : Nat} {x : Stream} {j : Job} (hs : Grows s₀ s) : Grows s₀ (failJob n x j s) := by
  refine raise_grows (releaseWaiting_grows ?_)
  split
  · exact chargeJob_grows (jobCommitted_grows (failRecord_grows (removeJob_grows hs)))
  · exact damage_grows (setJob_grows hs)
  · split
    · exact failChunk_grows (removeJob_grows hs)
    · exact removeJob_grows hs

theorem stopJobRuns_grows {n seq : Nat} (hs : Grows s₀ s) : Grows s₀ (stopJobRuns n seq s) := by
  refine grows_foldl (fun _ _ => ?_) hs
  split
  · exact grows_ite (endRun_grows (.refl _)) (.refl _)
  · exact .refl _

theorem faultRun_grows {core : Nat} (hs : Grows s₀ s) : Grows s₀ (faultRun core s) := by
  unfold faultRun
  split
  · dsimp only
    split
    · exact hs
    · exact hs
  · dsimp only
    split
    · exact hs
    · have h1 {n k c} : Grows s₀ (endRun n (coreSet s k c)) := endRun_grows (coreSet_grows hs)
      split
      · exact grows_ite (failJob_grows (stopJobRuns_grows (setJob_grows h1))) (.unless (setJob_grows h1) (stCount_grows (.refl _)))
      · exact h1

theorem heatCore_grows {core : Nat} {k : Core} (hs : Grows s₀ s) : Grows s₀ (heatCore core k s) :=
  coreSet_grows hs

theorem coolCore_grows {core : Nat} {k : Core} (hs : Grows s₀ s) : Grows s₀ (coolCore core k s) :=
  .opt (coreSet_grows hs) (coreBack_grows (.refl _))

theorem moveStep_grows {core step kind : Nat} {k : Core} (hs : Grows s₀ s) : Grows s₀ (moveStep core step kind k s) :=
  raise_grows (rerate_grows (coreSet_grows hs))

theorem applyFall_grows (hs : Grows s₀ s) : Grows s₀ (applyFall s) :=
  grows_foldl (fun _ _ => grows_ite (coreSet_grows (.refl _)) (.refl _)) hs

theorem applyRise_grows (hs : Grows s₀ s) : Grows s₀ (applyRise s) :=
  grows_foldl (fun _ _ => grows_ite (coreSet_grows (.refl _)) (.refl _)) hs

theorem readTelem_grows {i : Nat} {v : Option Nat} (hs : Grows s₀ s) : Grows s₀ (readTelem i v s) := by
  unfold readTelem
  split
  · exact hs
  · exact grows_ite (raise_grows hs) hs

theorem telemetryTick_grows {covered : Nat} {readings : List (Option Nat)} (hs : Grows s₀ s) :
    Grows s₀ (telemetryTick covered readings s) := by
  unfold telemetryTick
  extract_lets s1 valid rs es num den low high b s2 due
  have h1 : Grows s₀ s1 := grows_foldl (fun _ _ => readTelem_grows (.refl _)) hs
  have h2 : Grows s₀ s2 := .upd h1
  exact grows_ite (.upd h1) (grows_ite h1 (grows_ite (raise_grows (.upd h2)) h2))

/-! ### PIN, POWER and DIAG -/

theorem pinGive_grows {kind i fn : Nat} (hs : Grows s₀ s) : Grows s₀ (pinGive s kind i fn) := by
  unfold pinGive
  split
  · exact hs
  · exact hs
  · exact hs
  · exact hs
  · exact hs

theorem pinFree_grows {kind i : Nat} (hs : Grows s₀ s) : Grows s₀ (pinFree s kind i) := by
  unfold pinFree
  split
  · exact hs
  · exact hs
  · exact hs
  · exact hs
  · exact hs

theorem orFree_grows {o : Option Int} (hs : Grows s₀ s) : Grows s₀ (orFree o s).2 := by
  unfold orFree
  split
  · exact hs
  · exact hs

theorem settleBusy_grows {c : Nat} (hs : Grows s₀ s) : Grows s₀ (settleBusy c s) := by
  unfold settleBusy
  dsimp only
  split
  · exact hs
  · exact coreSet_grows hs

theorem settleCores_grows (hs : Grows s₀ s) : Grows s₀ (settleCores s) :=
  grows_foldl (fun _ _ => settleBusy_grows (.refl _)) (settleAll_grows hs)

/-! ### Resets -/

theorem mbxLayerReset_grows (hs : Grows s₀ s) : Grows s₀ (mbxLayerReset s) :=
  hs

theorem restartAssets_grows (hs : Grows s₀ s) : Grows s₀ (restartAssets s) :=
  recountStaging_grows (pruneUnits_grows (.upd (grows_foldl (fun _ _ => stMod_grows (endRuns_grows (.refl _))) hs)))

theorem dropStreams_grows {fn : Nat} (hs : Grows s₀ s) : Grows s₀ (dropStreams fn s) :=
  .upd (grows_foldl (fun _ _ => endRuns_grows (.refl _)) hs)

theorem dropAssets_grows {fn : Nat} (hs : Grows s₀ s) : Grows s₀ (dropAssets fn s) :=
  recountStaging_grows (pruneUnits_grows hs)

theorem dropPins_grows {fn : Nat} (hs : Grows s₀ s) : Grows s₀ (dropPins fn s) :=
  hs

theorem dropQueues_grows {fn : Nat} (hs : Grows s₀ s) : Grows s₀ (dropQueues fn s) :=
  grows_foldl (fun _ _ => freeQueue_grows (.refl _)) hs

theorem flrOne_grows {fn : Nat} (hs : Grows s₀ s) : Grows s₀ (flrOne fn s) :=
  setFn_grows (.upd (dropQueues_grows (dropPins_grows (dropAssets_grows (dropStreams_grows hs)))))

theorem dropVfs_grows {n : Nat} (hs : Grows s₀ s) : Grows s₀ (dropVfs n s) :=
  .upd (grows_foldl (fun _ _ => flrOne_grows (.refl _)) hs)

theorem flr_grows {fn : Nat} (hs : Grows s₀ s) : Grows s₀ (flr fn s) :=
  grows_ite (flrOne_grows (dropVfs_grows hs)) (flrOne_grows hs)

theorem resetMain_grows (hs : Grows s₀ s) : Grows s₀ (resetMain s) :=
  hs

theorem mendFuses_grows (hs : Grows s₀ s) : Grows s₀ (mendFuses s) := by
  have hm : ∀ n, n ≤ 8 → n ≤ (mendGroup n).1 ∧ (mendGroup n).1 ≤ 8 := fun n h => by unfold mendGroup; split <;> omega
  have hb : Burned s.trust { s.trust with
      lcProv := (mendGroup s.trust.lcProv).1
      lcField := (mendGroup s.trust.lcField).1
      lcRma := (mendGroup s.trust.lcRma).1 } :=
    ⟨fun h => ⟨⟨(hm _ h.1).2, (hm _ h.2.1).2, (hm _ h.2.2).2⟩, ⟨(hm _ h.1).1, (hm _ h.2.1).1, (hm _ h.2.2).1⟩, fun _ =>
      rfl⟩, le_rfl, le_rfl⟩
  unfold mendFuses
  exact .opt (.updKeel hs le_rfl hb) (raise_grows (.refl _))

theorem trialBoot_grows (hs : Grows s₀ s) : Grows s₀ (trialBoot s) :=
  grows_ite hs (grows_ite (raise_grows hs) hs)

theorem runSlot_grows {b : Bool} (hs : Grows s₀ s) : Grows s₀ (runSlot b s) :=
  hs

theorem chooseSlot_grows (hs : Grows s₀ s) : Grows s₀ (chooseSlot s) :=
  grows_ite (runSlot_grows hs) (grows_ite (raise_grows (runSlot_grows hs)) (raise_grows hs))

theorem startHut_grows (hs : Grows s₀ s) : Grows s₀ (startHut s) :=
  .unless (chooseSlot_grows (trialBoot_grows hs)) (.opt (grows_ite (.refl _) (raise_grows (.refl _))) (.refl _))

theorem keepVault_grows {before : Option Nat} (hs : Grows s₀ s) : Grows s₀ (keepVault before s) :=
  grows_ite hs hs

theorem boot_grows {b : BootFacts} (hs : Grows s₀ s) : Grows s₀ (boot b s) := by
  unfold boot
  have hk : s.keel.frc ≤ (if s.keel.strapsTaken then s.keel
      else { s.keel with termA := b.termA, termB := b.termB, strapsTaken := true }).frc := by
    split <;> exact le_rfl
  exact keepVault_grows (startHut_grows (.unless (mendFuses_grows (.updKeel hs hk)) (raise_grows (.refl _))))

theorem portsStart_grows (hs : Grows s₀ s) : Grows s₀ (portsStart s) :=
  hs

theorem startReset_grows (hs : Grows s₀ s) : Grows s₀ (startReset s) := by
  unfold startReset; exact startHut_grows (.upd (mbxLayerReset_grows (quiesce_grows hs)))

theorem askReset_grows (hs : Grows s₀ s) : Grows s₀ (askReset s) :=
  grows_ite hs (startReset_grows hs)

/-! ### Control frames and launches -/

theorem portCount_grows {p : BusPort} {i d : Nat} (hs : Grows s₀ s) : Grows s₀ (portCount p i d s) :=
  setPort_grows hs

theorem queueCtl_grows {p : BusPort} {cls urg dkind dst : Nat} {auth : Bool} {payload : List Byte} (hs : Grows s₀ s) :
    Grows s₀ (queueCtl p cls urg dkind dst auth payload s) :=
  grows_ite hs (setPort_grows hs)

theorem queueTime_grows {p : BusPort} {urg dkind dst : Nat} {payload : List Byte} (hs : Grows s₀ s) : Grows s₀
    (queueTime p urg dkind dst payload s) :=
  queueCtl_grows hs

theorem txMod_grows {p : BusPort} {n : Nat} {g : Flow → Flow} (hs : Grows s₀ s) : Grows s₀ (txMod p n g s) :=
  setPort_grows hs

theorem dropFlowHead_grows {p : BusPort} {n : Nat} (hs : Grows s₀ s) : Grows s₀ (dropFlowHead p n s) := by
  unfold dropFlowHead
  split
  · exact hs
  · dsimp only
    split
    · exact grows_ite (popHead_grows (txMod_grows hs)) (dropRestOp_grows (txMod_grows hs))
    · exact txMod_grows hs

theorem lateLaunch_grows {p : BusPort} {n lateNs : Nat} (hs : Grows s₀ s) : Grows s₀ (lateLaunch p n lateNs s) := by
  unfold lateLaunch
  split
  · exact hs
  · exact grows_ite (portCount_grows (dropFlowHead_grows hs)) (portCount_grows (txMod_grows hs))

theorem launchFlow_grows {p : BusPort} {n : Nat} {late : Option Nat} (hs : Grows s₀ s) : Grows s₀ (launchFlow p n late s)
    := by
  unfold launchFlow
  split
  · exact hs
  · refine grows_ite hs (grows_ite (portCount_grows hs) (grows_ite (txMod_grows hs) ?_))
    split
    · exact lateLaunch_grows hs
    · exact txMod_grows hs

/-! ### Time -/

theorem capWrite_grows {n source flags : Nat} {time : Ticks} (hs : Grows s₀ s) : Grows s₀ (capWrite n source flags time s) :=
  grows_ite (raise_grows hs) hs

theorem routeInternal_grows {source flags : Nat} {time : Ticks} (hs : Grows s₀ s) : Grows s₀
    (routeInternal source flags time s) :=
  grows_foldl (fun _ _ => grows_ite (capWrite_grows (.refl _)) (.refl _)) hs

theorem snapshot_grows {set tag : Nat} (hs : Grows s₀ s) : Grows s₀ (snapshot set tag s) :=
  hs

theorem pulse_grows {i : Nat} (hs : Grows s₀ s) : Grows s₀ (pulse i s) :=
  hs

theorem jobSet_grows {q : Nat} (hs : Grows s₀ s) : Grows s₀ (jobSet q s) :=
  releaseWaiting_grows hs

theorem gateSet_grows {p : BusPort} {mask : Nat} (hs : Grows s₀ s) : Grows s₀ (gateSet p mask s) :=
  grows_ite hs (setPort_grows hs)

theorem doAction_grows {i fn action arg : Nat} {target : Int} {late : Option Nat} (hs : Grows s₀ s) : Grows s₀
    (doAction i fn action arg target late s) := by
  unfold doAction
  split
  · exact pulse_grows hs
  · exact jobSet_grows hs
  · exact launchFlow_grows hs
  · exact gateSet_grows hs
  · exact hs
  · exact snapshot_grows hs
  · exact capWrite_grows hs
  · exact event_grows hs

theorem actOrDefer_grows {i : Nat} {c : Cmp} {target : Int} {late : Option Nat} (hs : Grows s₀ s) : Grows s₀
    (actOrDefer i c target late s) :=
  grows_ite hs (doAction_grows hs)

theorem actCmp_grows {i : Nat} {c : Cmp} {base : Int} {k : Nat} {late : Bool} (hs : Grows s₀ s) : Grows s₀
    (actCmp i c base k late s) :=
  .unless (grows_ite (raise_grows hs) hs) (routeInternal_grows (actOrDefer_grows (.refl _)))

theorem fireCmp_grows {late : Bool} {i : Nat} (hs : Grows s₀ s) : Grows s₀ (fireCmp late s i) := by
  unfold fireCmp
  split
  · exact hs
  · split
    · exact hs
    · exact grows_ite hs (actCmp_grows hs)

theorem settleCmps_grows (hs : Grows s₀ s) : Grows s₀ (settleCmps s) :=
  grows_foldl (fun _ _ => fireCmp_grows (.refl _)) hs

theorem yieldCmp_grows {i : Nat} (hs : Grows s₀ s) : Grows s₀ (yieldCmp s i) := by
  unfold yieldCmp
  split
  · exact hs
  · split
    · exact hs
    · exact grows_ite hs hs

theorem lateCmps_grows (hs : Grows s₀ s) : Grows s₀ (lateCmps s) :=
  grows_foldl (fun _ _ => fireCmp_grows (.refl _)) hs

theorem lateOnFl_grows {n : Nat} (hs : Grows s₀ s) : Grows s₀ (lateOnFl n s) :=
  grows_foldl (fun _ _ => grows_ite (fireCmp_grows (.refl _)) (.refl _)) hs

theorem stepActive_grows {d : Ticks} {anchor : Option Ticks} (hs : Grows s₀ s) : Grows s₀ (stepActive d anchor s) :=
  lateCmps_grows (.opt (grows_ite (rekeyRasters_grows (.updKeel hs)) (.updKeel hs)) (raise_grows (.refl _)))

theorem overrunPort_grows {b : State} {p : BusPort} (hs : Grows s₀ s) : Grows s₀ (overrunPort b s p) := by
  unfold overrunPort
  dsimp only
  split
  · exact hs
  · exact grows_ite (portCount_grows (setPort_grows hs)) hs

theorem overruns_grows {b : State} (hs : Grows s₀ s) : Grows s₀ (overruns b s) :=
  grows_foldl (fun _ _ => overrunPort_grows (.refl _)) hs

/-- The keel with new parameters of a domain keeps its FRC. -/
theorem setDom_keel_grows {d : Dom} {p : DomSet} (hs : Grows s₀ s) : Grows s₀ { s with keel := setDom s.keel d p } :=
  .updKeel hs (setDom_frc ..).ge

theorem setRate_grows {d : Dom} {r : Int} (hs : Grows s₀ s) : Grows s₀ (setRate d r s) := setDom_keel_grows hs

theorem setDomSt_grows {d : Dom} {st : ServoState} (hs : Grows s₀ s) : Grows s₀ (setDomSt d st s) := by
  unfold setDomSt
  exact grows_ite hs (raise_grows (setDom_keel_grows hs))

theorem stepDom_grows {dom : Dom} {d : Ticks} {anchor : Option Ticks} {epoch : Nat} (hs : Grows s₀ s) :
    Grows s₀ (stepDom dom d anchor epoch s) := by
  unfold stepDom
  exact overruns_grows (grows_ite (stepActive_grows (.opt (raise_grows (event_grows (setDom_keel_grows (settleCmps_grows
    hs))))
      (raise_grows (.refl _))))
    (lateCmps_grows (.opt (raise_grows (event_grows (setDom_keel_grows (settleCmps_grows hs)))) (raise_grows (.refl _)))))

theorem slewDom_grows {dom : Dom} {d : Ticks} (hs : Grows s₀ s) : Grows s₀ (slewDom dom d s) := setDom_keel_grows hs

theorem setServo_grows {d : Dom} {v : Servo} (hs : Grows s₀ s) : Grows s₀ (setServo d v s) := by
  unfold setServo
  split
  · exact hs
  · exact hs

theorem leaderMove_grows {dom : Dom} {d : Ticks} (hs : Grows s₀ s) : Grows s₀ (leaderMove dom d s) :=
  grows_ite (slewDom_grows hs) (setServo_grows (stepDom_grows hs))

theorem switchTo_grows {dom : Dom} (hs : Grows s₀ s) : Grows s₀ (switchTo dom s) := by
  unfold switchTo
  extract_lets s1 before from_ res small k k0 s2 s3 s4
  have h1 : Grows s₀ s1 := settleCmps_grows hs
  clear_value s1
  have h2 : Grows s₀ s2 := h1.trans ⟨rfl, Nat.le_refl s1.keel.frc, .refl s1.trust⟩
  have h4 : Grows s₀ s4 := raise_grows (event_grows h2)
  exact grows_ite hs (grows_ite h4 (overruns_grows (stepActive_grows h4)))

theorem autoFollow_grows (hs : Grows s₀ s) : Grows s₀ (autoFollow s) :=
  grows_ite (switchTo_grows hs) hs

/-! ### Bus flows and confinement -/

theorem stateEvent_grows {p : BusPort} {old : Confine} (hs : Grows s₀ s) : Grows s₀ (stateEvent p old s) :=
  event_grows hs

theorem enterBusOff_grows {p : BusPort} (hs : Grows s₀ s) : Grows s₀ (enterBusOff p s) :=
  setPort_grows hs

theorem setErrors_grows {p : BusPort} {tec rec : Nat} (hs : Grows s₀ s) : Grows s₀ (setErrors p tec rec s) := by
  refine grows_ite hs (.unless (setPort_grows hs) (stateEvent_grows ?_))
  split
  · exact raise_grows (portCount_grows (.refl _))
  · exact raise_grows (portCount_grows (enterBusOff_grows (.refl _)))
  · exact .refl _

theorem countError_grows {p : BusPort} {e : WireErr} (hs : Grows s₀ s) : Grows s₀ (countError p e s) :=
  .opt (portCount_grows hs) (portCount_grows (.refl _))

theorem txError_grows {p : BusPort} {e : WireErr} (hs : Grows s₀ s) : Grows s₀ (txError p e s) :=
  grows_ite (portCount_grows hs) (.opt (countError_grows hs) (setErrors_grows (.refl _)))

theorem txBadFrame_grows {p : BusPort} (hs : Grows s₀ s) : Grows s₀ (txBadFrame p s) :=
  grows_ite (portCount_grows hs) (grows_ite (setErrors_grows hs) hs)

theorem rxError_grows {p : BusPort} {e : WireErr} (hs : Grows s₀ s) : Grows s₀ (rxError p e s) :=
  grows_ite (portCount_grows hs) (setErrors_grows (countError_grows hs))

theorem txFine_grows {p : BusPort} (hs : Grows s₀ s) : Grows s₀ (txFine p s) :=
  setErrors_grows hs

theorem rxFine_grows {p : BusPort} (hs : Grows s₀ s) : Grows s₀ (rxFine p s) :=
  setErrors_grows hs

theorem recoverPort_grows {p : BusPort} {raiseK : Bool} (hs : Grows s₀ s) : Grows s₀ (recoverPort p raiseK s) :=
  endLongs_grows (stateEvent_grows (raise_grows (portCount_grows (setPort_grows hs))))

theorem noteLatency_grows {q visFrc : Nat} {slack : Option Int} (hs : Grows s₀ s) : Grows s₀ (noteLatency q visFrc slack s)
    := by
  unfold noteLatency
  split
  · exact hs
  · exact .opt (qSet_grows hs) (event_grows (.refl _))

theorem sendOpens_grows {p : BusPort} {n : Nat} (hs : Grows s₀ s) : Grows s₀ (sendOpens p n s) := by
  unfold sendOpens
  split
  · exact hs
  · exact grows_foldl (fun _ _ => queueCtl_grows (.refl _)) hs

theorem openFlow_grows {p : BusPort} {n : Nat} (hs : Grows s₀ s) : Grows s₀ (openFlow p n s) := by
  unfold openFlow
  dsimp only
  split
  · exact hs
  · exact sendOpens_grows (setPort_grows hs)

theorem stallFlow_grows {p : BusPort} {n reason : Nat} (hs : Grows s₀ s) : Grows s₀ (stallFlow p n reason s) := by
  unfold stallFlow
  split
  · exact hs
  · exact raise_grows (event_grows (txMod_grows hs))

theorem sendCredit_grows {p : BusPort} {n peer : Nat} (hs : Grows s₀ s) : Grows s₀ (sendCredit p n peer s) := by
  unfold sendCredit
  dsimp only
  split
  · exact hs
  · exact queueCtl_grows (setPort_grows hs)

theorem sweepFlow_grows {p : BusPort} {n : Nat} (hs : Grows s₀ s) : Grows s₀ (sweepFlow p n s) := by
  unfold sweepFlow
  dsimp only
  split
  · exact hs
  · split
    · exact grows_ite hs (grows_foldl (fun _ _ => grows_ite (sendCredit_grows (.refl _)) (.refl _)) (setPort_grows hs))
    · exact hs

theorem sweepPort_grows {p : BusPort} (hs : Grows s₀ s) : Grows s₀ (sweepPort p s) :=
  grows_foldl (fun _ _ => sweepFlow_grows (.refl _)) hs

theorem dropAborted_grows {p : BusPort} {n q : Nat} (hs : Grows s₀ s) : Grows s₀ (dropAborted p n q s) :=
  dropRestOp_grows (txMod_grows hs)

theorem formHead_grows {p : BusPort} {n : Nat} (hs : Grows s₀ s) : Grows s₀ (formHead p n s) := by
  unfold formHead
  dsimp only
  split
  · exact hs
  · refine grows_ite hs ?_
    split
    · exact hs
    · refine grows_ite (dropAborted_grows (badCell_grows hs)) (grows_ite (dropAborted_grows hs) (grows_ite (stallFlow_grows
        hs) ?_))
      split
      · exact hs
      · exact grows_ite (grows_ite hs (raise_grows (txMod_grows hs))) (txMod_grows hs)

/-! ### Enrollment -/

theorem sendRecord_grows {p : BusPort} {dst exch msg : Nat} {bytes : List Byte} (hs : Grows s₀ s) : Grows s₀
    (sendRecord p dst exch msg bytes s) :=
  grows_foldl (fun _ _ => queueCtl_grows (.refl _)) hs

theorem withNodeKeys_grows {f : List NodeKey → List NodeKey} (hs : Grows s₀ s) : Grows s₀ (withNodeKeys f s) :=
  hs

theorem addNodeKey_grows {p : BusPort} {src epoch key : Nat} (hs : Grows s₀ s) : Grows s₀ (addNodeKey p src epoch key s) :=
  withNodeKeys_grows hs

theorem takeEpoch_grows {p : BusPort} {e : Nat} (hs : Grows s₀ s) : Grows s₀ (takeEpoch p e s) :=
  setPort_grows hs

theorem takeEpochGo_grows {p : BusPort} {r : EnrollRec} (hs : Grows s₀ s) : Grows s₀ (takeEpochGo p r s) :=
  grows_ite (takeEpoch_grows hs) hs

theorem ownEpochGo_grows {p : BusPort} (hs : Grows s₀ s) : Grows s₀ (ownEpochGo p s) := by
  unfold ownEpochGo
  dsimp only
  split
  · exact hs
  · exact grows_ite hs (takeEpoch_grows hs)

theorem grantKey_grows {p : BusPort} {dst exch src epoch key : Nat} (hs : Grows s₀ s) : Grows s₀
    (grantKey p dst exch src epoch key s) :=
  sendRecord_grows hs

theorem newExchange_grows (hs : Grows s₀ s) : Grows s₀ (newExchange s).2 :=
  hs

theorem startEnroll_grows {p : BusPort} {node tries : Nat} (hs : Grows s₀ s) : Grows s₀ (startEnroll p node tries s) :=
  sendRecord_grows (.updKeel (setPort_grows hs))

theorem dropExchange_grows {p : BusPort} {node : Nat} (hs : Grows s₀ s) : Grows s₀ (dropExchange p node s) :=
  setPort_grows hs

theorem refuseNode_grows {p : BusPort} {node exch reason : Nat} (hs : Grows s₀ s) : Grows s₀
    (refuseNode p node exch reason s) :=
  raise_grows (dropExchange_grows (sendRecord_grows hs))

theorem repeatEnroll_grows {p : BusPort} {node : Nat} (hs : Grows s₀ s) : Grows s₀ (repeatEnroll p node s) := by
  unfold repeatEnroll
  dsimp only
  split
  · exact hs
  · exact grows_ite (dropExchange_grows hs) (grows_ite (startEnroll_grows hs) (raise_grows (dropExchange_grows hs)))

theorem grantEpoch_grows {p : BusPort} {node exch epoch : Nat} (hs : Grows s₀ s) : Grows s₀
    (grantEpoch p node exch epoch s) :=
  grows_ite (ownEpochGo_grows (setPort_grows (grows_foldl (fun _ _ => grantKey_grows (.refl _)) (.unless (addNodeKey_grows
    hs) (grantKey_grows (.refl _)))))) (sendRecord_grows (grows_foldl (fun _ _ => grantKey_grows (.refl _)) (.unless
    (addNodeKey_grows hs) (grantKey_grows (.refl _)))))

theorem askEpoch_grows {p : BusPort} (hs : Grows s₀ s) : Grows s₀ (askEpoch p s) :=
  grows_ite hs (grows_ite (grantEpoch_grows hs) (sendRecord_grows (.upd (setPort_grows hs))))

/-! ### Sending on a port -/

theorem pumpOne_grows {p : BusPort} {m : Frame} (hs : Grows s₀ s) : Grows s₀ (pumpOne p m s) := by
  unfold pumpOne
  split
  · dsimp only
    split
    · exact grows_ite hs (.upd (setPort_grows hs))
    · exact hs
  · dsimp only
    split
    · exact grows_ite hs (.upd (setPort_grows hs))
    · exact .upd (queueCtl_grows hs)

theorem pumpRecovers_grows {p : BusPort} (hs : Grows s₀ s) : Grows s₀ (pumpRecovers p s) :=
  grows_foldl (fun _ _ => pumpOne_grows (.refl _)) hs

theorem judgeLaunch_grows {p : BusPort} {n : Nat} (hs : Grows s₀ s) : Grows s₀ (judgeLaunch p n s) := by
  unfold judgeLaunch
  split
  · exact hs
  · refine grows_ite hs ?_
    split
    · exact lateLaunch_grows (txMod_grows hs)
    · split
      · exact grows_ite (lateLaunch_grows hs) hs
      · exact hs
    · exact hs

theorem applyStaged_grows {p : BusPort} {n : Nat} (hs : Grows s₀ s) : Grows s₀ (applyStaged p n s) := by
  unfold applyStaged
  split
  · exact hs
  · exact grows_ite hs (.opt (txMod_grows hs) (openFlow_grows (.refl _)))

theorem prepFlow_grows {p : BusPort} {n : Nat} (hs : Grows s₀ s) : Grows s₀ (prepFlow p n s) := by
  unfold prepFlow
  dsimp only
  split
  · exact .opt (judgeLaunch_grows (formHead_grows (applyStaged_grows hs))) (stallFlow_grows (.refl _))
  · exact judgeLaunch_grows (formHead_grows (applyStaged_grows hs))

theorem chargeShaper_grows {sh : Option Nat} {len : Nat} {auth : Bool} (hs : Grows s₀ s) : Grows s₀
    (chargeShaper sh len auth s) := by
  unfold chargeShaper
  split
  · exact hs
  · exact hs

theorem noteEpochWait_grows {p : BusPort} (hs : Grows s₀ s) : Grows s₀ (noteEpochWait p s) := by
  unfold noteEpochWait
  dsimp only
  split
  · exact grows_ite hs (raise_grows (setPort_grows hs))
  · exact hs

theorem prepPort_grows {p : BusPort} (hs : Grows s₀ s) : Grows s₀ (prepPort p s) :=
  noteEpochWait_grows (grows_foldl (fun _ _ => prepFlow_grows (.refl _)) (pumpRecovers_grows (sweepPort_grows hs)))

theorem stampFrame_grows {p : BusPort} {tdc : Nat} {c : Frame} (hs : Grows s₀ s) : Grows s₀ (stampFrame p tdc c s).2 := by
  unfold stampFrame
  extract_lets d raw tau
  split
  · exact hs
  · split
    · dsimp only; exact routeInternal_grows hs
    · split
      · exact setServo_grows hs
      · exact hs

theorem contendLate_grows {p : BusPort} {c : Cand} (hs : Grows s₀ s) : Grows s₀ (contendLate p c s) := by
  unfold contendLate
  split
  · split
    · exact grows_ite (portCount_grows (txMod_grows hs)) hs
    · exact hs
  · exact hs

theorem sendFlow_grows {p : BusPort} {n : Nat} (hs : Grows s₀ s) : Grows s₀ (sendFlow p n s) := by
  unfold sendFlow
  dsimp only
  split
  · exact hs
  · split
    · exact hs
    · exact txMod_grows (chargeShaper_grows hs)

theorem sendCand_grows {p : BusPort} {tdc : Nat} {c : Cand} (hs : Grows s₀ s) : Grows s₀ (sendCand p tdc c s) := by
  unfold sendCand
  split
  · dsimp only
    split
    · exact setPort_grows (stampFrame_grows hs)
    · exact hs
  · dsimp only
    split
    · exact setPort_grows hs
    · exact hs
  · dsimp only
    split
    · split
      · exact sendFlow_grows (setPort_grows hs)
      · exact hs
    · exact hs
  · dsimp only
    split
    · exact setPort_grows (chargeShaper_grows hs)
    · exact hs

theorem retryFlow_grows {p : BusPort} {n : Nat} (hs : Grows s₀ s) : Grows s₀ (retryFlow p n s) := by
  unfold retryFlow
  split
  · exact hs
  · exact grows_ite (stallFlow_grows hs) hs

theorem finishPacket_grows {p : BusPort} {n : Nat} {f : Flow} (hs : Grows s₀ s) : Grows s₀ (finishPacket p n f s) := by
  unfold finishPacket
  dsimp only
  split
  · exact hs
  · exact txMod_grows (popHead_grows (noteLatency_grows hs))

theorem ackFlow_grows {p : BusPort} {n : Nat} (hs : Grows s₀ s) : Grows s₀ (ackFlow p n s) := by
  unfold ackFlow
  split
  · exact hs
  · split
    · exact hs
    · exact grows_ite (finishPacket_grows hs) (txMod_grows hs)

theorem nakFlow_grows {p : BusPort} {n reason : Nat} (hs : Grows s₀ s) : Grows s₀ (nakFlow p n reason s) := by
  unfold nakFlow
  split
  · dsimp only
    split
    · exact txMod_grows hs
    · exact stallFlow_grows (txMod_grows hs)
  · split
    · dsimp only
      split
      · exact txMod_grows hs
      · exact .opt (txMod_grows (raise_grows (portCount_grows (dropFlowHead_grows (txMod_grows hs))))) (stallFlow_grows
          (.refl _))
    · split
      · dsimp only
        split
        · exact txMod_grows hs
        · exact txMod_grows (txMod_grows hs)
      · dsimp only
        split
        · exact txMod_grows hs
        · exact retryFlow_grows (txMod_grows (txMod_grows hs))

theorem flowSent_grows {p : BusPort} {n : Nat} (hs : Grows s₀ s) : Grows s₀ (flowSent p n s) :=
  txMod_grows hs

theorem flowOutcome_grows {p : BusPort} {n : Nat} {o : Outcome_} (hs : Grows s₀ s) : Grows s₀ (flowOutcome p n o s) := by
  unfold flowOutcome
  split
  · exact ackFlow_grows (flowSent_grows hs)
  · exact nakFlow_grows (flowSent_grows hs)
  · exact retryFlow_grows (flowSent_grows hs)

theorem endMb_grows {p : BusPort} {n : Nat} {st : Status} (hs : Grows s₀ s) : Grows s₀ (endMb p n st s) :=
  endLongs_grows (setPort_grows hs)

theorem mbOutcome_grows {p : BusPort} {n : Nat} {o : Outcome_} (hs : Grows s₀ s) : Grows s₀ (mbOutcome p n o s) := by
  unfold mbOutcome
  split
  · exact endMb_grows hs
  · exact grows_ite (endMb_grows (grows_ite (raise_grows (portCount_grows hs)) hs)) (setPort_grows hs)
  · exact hs

theorem travOutcome_grows {p : BusPort} {i : Nat} {o : Outcome_} (hs : Grows s₀ s) : Grows s₀ (travOutcome p i o s) := by
  unfold travOutcome
  split
  · exact setPort_grows hs
  · exact portCount_grows (setPort_grows hs)
  · exact hs
  · split
    · dsimp only
      split
      · exact setPort_grows hs
      · exact hs
    · dsimp only
      split
      · exact setPort_grows hs
      · exact hs
  · exact hs

theorem ctlOutcome_grows {p : BusPort} {i : Nat} {o : Outcome_} (hs : Grows s₀ s) : Grows s₀ (ctlOutcome p i o s) := by
  unfold ctlOutcome
  split
  · dsimp only
    split
    · exact hs
    · exact .opt (setPort_grows hs) (.refl _)
  · split
    · dsimp only
      split
      · exact hs
      · exact .opt (setPort_grows hs) (.refl _)
    · dsimp only
      split
      · exact hs
      · exact grows_ite (setPort_grows hs) (setPort_grows hs)
  · dsimp only
    split
    · exact hs
    · exact grows_ite (setPort_grows hs) hs

theorem giveOutcome_grows {p : BusPort} {c : Cand} {o : Outcome_} (hs : Grows s₀ s) : Grows s₀ (giveOutcome p c o s) := by
  unfold giveOutcome
  split
  · exact ctlOutcome_grows hs
  · exact travOutcome_grows hs
  · exact flowOutcome_grows hs
  · exact mbOutcome_grows hs

theorem countOutcome_grows {p : BusPort} {answered : Bool} {o : Outcome_} (hs : Grows s₀ s) : Grows s₀
    (countOutcome p answered o s) := by
  refine grows_ite (txFine_grows hs) ?_
  split
  · exact txFine_grows hs
  · exact txBadFrame_grows (portCount_grows hs)
  · exact txFine_grows (portCount_grows hs)
  · exact portCount_grows hs
  · exact txError_grows hs

/-! ### Reception on a port -/

theorem travPut_grows {p : BusPort} {f : Frame} (hs : Grows s₀ s) : Grows s₀ (travPut p f s) :=
  setPort_grows hs

theorem policeFrame_grows {num : Nat} {f : Frame} (hs : Grows s₀ s) : Grows s₀ (policeFrame num f s).2 := by
  unfold policeFrame
  split
  · exact hs
  · exact hs

theorem dedupPut_grows {p : BusPort} {d : Dedup} (hs : Grows s₀ s) : Grows s₀ (dedupPut p d s) :=
  setPort_grows hs

theorem rxCount_grows {p : BusPort} {n i d : Nat} (hs : Grows s₀ s) : Grows s₀ (rxCount p n i d s) :=
  setPort_grows hs

theorem tagFailed_grows {p : BusPort} {flow : Nat} (hs : Grows s₀ s) : Grows s₀ (tagFailed p flow s) :=
  raise_grows (portCount_grows hs)

theorem duplicate_grows {p : BusPort} {f : Frame} (hs : Grows s₀ s) : Grows s₀ (duplicate p f s).2 := by
  unfold duplicate
  split
  · exact hs
  · split
    · exact tagFailed_grows hs
    · exact rxCount_grows (portCount_grows hs)

/-- Behind the de-duplication of a port a frame goes on as `k` says. -/
theorem throughDedup_grows {p : BusPort} {f : Frame} {k : State → Nat × State} (hk : ∀ s, Grows s (k s).2)
    (hs : Grows s₀ s) :
    Grows s₀ (throughDedup p f s k).2 := by
  have hn {s : State} (hs : Grows s₀ s) {d : Dedup} {gap : Nat} : Grows s₀ (dedupPut p d
      (if gap = 0 then s else rxCount p f.flow 5 gap (portCount p 25 gap s))) :=
    dedupPut_grows (grows_ite hs (rxCount_grows (portCount_grows hs)))
  unfold throughDedup
  split
  · exact hs
  · split
    · exact hs.trans (hk _)
    · dsimp only
      split
      · split
        · exact raise_grows hs
        · exact grows_ite (hn (hs.trans (hk _))) (hs.trans (hk _))
      · next d _ =>
        split
        · exact duplicate_grows (dedupPut_grows hs)
        · have h1 := (dedupPut_grows (p := p) (d := { d with frc := s.keel.frc }) hs).trans (hk _)
          exact grows_ite (hn h1) h1

theorem abandonOpen_grows {p : BusPort} {n : Nat} {always : Bool} (hs : Grows s₀ s) : Grows s₀ (abandonOpen p n always s)
    := by
  unfold abandonOpen
  dsimp only
  split
  · exact hs
  · split
    · exact hs
    · exact .unless (endOpen_grows hs) (rxCount_grows (portCount_grows (.refl _)))

theorem writeCells_grows {f : Frame} {q : Nat} {i : PktInfo} {fin : Bool} (hs : Grows s₀ s) : Grows s₀
    (writeCells f q i fin s) :=
  grows_foldl (fun _ _ => writeCell_grows (.refl _)) hs

theorem setOpen_grows {p : BusPort} {n : Nat} {src : Option Nat} (hs : Grows s₀ s) : Grows s₀ (setOpen p n src s) :=
  setPort_grows hs

theorem spoilFlow_grows {p : BusPort} {f : Frame} {fl : Flow} {q : Queue} {reason : Nat} (hs : Grows s₀ s) : Grows s₀
    (spoilFlow p f fl q reason s) :=
  grows_ite (setOpen_grows (markOpen_grows (writeCells_grows (grows_ite (abandonOpen_grows hs) hs)))) hs

theorem commitFlow_grows {p : BusPort} {f : Frame} {fl : Flow} {i : PktInfo} (hs : Grows s₀ s) : Grows s₀
    (commitFlow p f fl i s) :=
  sweepFlow_grows (setPort_grows (setOpen_grows (writeCells_grows (grows_ite (abandonOpen_grows hs) hs))))

theorem acceptFlow_grows {p : BusPort} {f : Frame} (hs : Grows s₀ s) : Grows s₀ (acceptFlow p f s).2 := by
  unfold acceptFlow
  split
  · exact grows_ite (portCount_grows hs) hs
  · split
    · exact spoilFlow_grows hs
    · split
      · exact tagFailed_grows (spoilFlow_grows hs)
      · exact commitFlow_grows hs

/-- A frame whose body passes its checks goes on as `k` says. -/
theorem bodyCheck_grows {p : BusPort} {f : Frame} {k : State → State} (hk : ∀ s, Grows s (k s)) (hs : Grows s₀ s) :
    Grows s₀ (bodyCheck p f s k).2 := by
  unfold bodyCheck
  split
  · exact hs
  · split
    · exact tagFailed_grows hs
    · exact hs.trans (hk s)

theorem acceptMb_grows {p : BusPort} {f : Frame} {target : Nat} (hs : Grows s₀ s) : Grows s₀ (acceptMb p f target s).2 := by
  unfold acceptMb
  split
  · exact hs
  · split
    · exact hs
    · split
      · exact hs
      · exact bodyCheck_grows (fun _ => event_grows (setPort_grows (.refl _))) hs

theorem forwardFrame_grows {p : BusPort} {f : Frame} {local_ : Bool} (hs : Grows s₀ s) :
    Grows s₀ (forwardFrame p f local_ s).2 := by
  unfold forwardFrame
  split
  · exact hs
  · split
    · exact .opt (acceptFlow_grows hs) (travPut_grows (.refl _))
    · exact bodyCheck_grows (fun _ => travPut_grows (.refl _)) hs

theorem inspectMiss_grows {p : BusPort} {f : Frame} (hs : Grows s₀ s) : Grows s₀ (inspectMiss p f s) :=
  grows_ite hs (setPort_grows (hostMiss_grows hs))

theorem inspectFrame_grows {p : BusPort} {f : Frame} (hs : Grows s₀ s) : Grows s₀ (inspectFrame p f s).2 := by
  unfold inspectFrame
  split
  · exact hs
  · split
    · exact inspectMiss_grows hs
    · exact bodyCheck_grows (fun _ => writePacket_grows (.refl _)) hs

theorem actOn_grows {p : BusPort} {f : Frame} {a : FilterAct} (hs : Grows s₀ s) : Grows s₀ (actOn p f a s).2 := by
  have hk : ∀ s, Grows s (match a.act with
      | 0 => acceptFlow p f s
      | 1 => acceptMb p f a.target s
      | _ => forwardFrame p f (f.dkind != 0) s).2 := fun s => by
    split
    · exact acceptFlow_grows (.refl _)
    · exact acceptMb_grows (.refl _)
    · exact forwardFrame_grows (.refl _)
  unfold actOn
  split
  · exact portCount_grows hs
  · dsimp only
    split
    · split
      · exact policeFrame_grows hs
      · exact throughDedup_grows hk (policeFrame_grows hs)
    · exact throughDedup_grows hk hs

theorem receiveData_grows {p : BusPort} {f : Frame} (hs : Grows s₀ s) : Grows s₀ (receiveData p f s).2 := by
  unfold receiveData
  dsimp only
  split
  · exact throughDedup_grows (fun _ => inspectFrame_grows (.refl _)) hs
  · split
    · exact throughDedup_grows (fun _ => forwardFrame_grows (.refl _)) hs
    · split
      · exact actOn_grows hs
      · split
        · exact hs
        · split
          · exact portCount_grows hs
          · exact actOn_grows hs

theorem receiveEnroll_grows {p : BusPort} {f : Frame} (hs : Grows s₀ s) : Grows s₀ (receiveEnroll p f s).2 := by
  unfold receiveEnroll
  split
  · exact bodyCheck_grows .refl hs
  · split
    · exact forwardFrame_grows hs
    · exact hs

theorem receiveGlobal_grows {p : BusPort} {f : Frame} (hs : Grows s₀ s) : Grows s₀ (receiveGlobal p f s).2 := by
  unfold receiveGlobal
  extract_lets msg down fwd dest kind timed
  split
  · exact hs
  · split
    · exact hs
    · refine throughDedup_grows (fun s => ?_) hs
      split
      · exact forwardFrame_grows (.refl _)
      · exact bodyCheck_grows .refl (.refl _)

theorem answerFrame_grows {p : BusPort} {f : Frame} (hs : Grows s₀ s) : Grows s₀ (answerFrame p f s).2 := by
  unfold answerFrame
  split
  · exact portCount_grows hs
  · split
    · dsimp only
      split
      · split
        · exact hs
        · exact hs
      · exact receiveGlobal_grows hs
    · split
      · dsimp only
        split
        · split
          · exact hs
          · exact hs
        · exact receiveEnroll_grows hs
      · dsimp only
        split
        · split
          · exact hs
          · exact hs
        · exact receiveData_grows hs

theorem driveAnswer_grows {p : BusPort} {f : Frame} {a : Nat} (hs : Grows s₀ s) : Grows s₀ (driveAnswer p f a s) :=
  grows_ite (portCount_grows (portCount_grows (setPort_grows hs))) (.opt (setPort_grows hs) (portCount_grows (.refl _)))

theorem receiveFrame_grows {p : BusPort} {f : Frame} (hs : Grows s₀ s) : Grows s₀ (receiveFrame p f s) := by
  unfold receiveFrame
  split
  · exact portCount_grows (driveAnswer_grows hs)
  · exact grows_ite (rxFine_grows (driveAnswer_grows (answerFrame_grows hs))) (rxError_grows (driveAnswer_grows
      (answerFrame_grows hs)))

/-! ### Events of a port -/

theorem creditFrame_grows {p : BusPort} {src flow openId total : Nat} (hs : Grows s₀ s) : Grows s₀
    (creditFrame p src flow openId total s) :=
  grows_ite hs (setPort_grows hs)

theorem failFrame_grows {p : BusPort} {c : Cand} {e : WireErr} (hs : Grows s₀ s) : Grows s₀ (failFrame p c e s) :=
  .opt (txError_grows hs) (retryFlow_grows (flowSent_grows (.refl _)))

theorem slotFrame_grows {p : BusPort} {c : Cand} {r : SlotRead} (hs : Grows s₀ s) : Grows s₀ (slotFrame p c r s) :=
  giveOutcome_grows (countOutcome_grows (portCount_grows (portCount_grows hs)))

theorem markPassive_grows {p : BusPort} (hs : Grows s₀ s) : Grows s₀ (markPassive p s) :=
  setPort_grows hs

theorem driveFrame_grows {p : BusPort} {loop : Nat} (hs : Grows s₀ s) : Grows s₀ (driveFrame p loop s) := by
  unfold driveFrame
  dsimp only
  split
  · exact hs
  · exact .opt (setPort_grows hs) (portCount_grows (.refl _))

theorem winFrame_grows {p : BusPort} {tdc loop : Nat} {c : Cand} {r : SlotRead} (hs : Grows s₀ s) : Grows s₀
    (winFrame p tdc loop c r s) := by
  refine askEpoch_grows (ownEpochGo_grows (markPassive_grows ?_))
  split
  · exact failFrame_grows (setPort_grows (driveFrame_grows (sendCand_grows hs)))
  · exact slotFrame_grows (driveFrame_grows (sendCand_grows hs))

theorem attempt_grows {p : BusPort} {others : List Nat} {r : SlotRead} {tdc loop : Nat} (hs : Grows s₀ s) :
    Grows s₀ (attempt p others r tdc loop s) := by
  unfold attempt
  refine grows_ite hs (grows_ite (setPort_grows hs) (grows_ite (setPort_grows hs) ?_))
  dsimp only
  split
  · exact prepPort_grows (setPort_grows hs)
  · next c _ =>
    have hc := contendLate_grows (p := p) (c := c) (prepPort_grows (p := p) (setPort_grows (p := p)
      (v := { portGet s p with passiveWait := false }) hs))
    exact grows_ite (portCount_grows hc) (winFrame_grows hc)

theorem takeAhead_grows {p : BusPort} (hs : Grows s₀ s) : Grows s₀ (takeAhead p s) := by
  refine grows_foldl (fun _ _ => ?_) hs
  split
  · exact grows_ite (creditFrame_grows (.refl _)) (.refl _)
  · exact grows_ite (takeEpochGo_grows (.refl _)) (.refl _)
  · exact .refl _

theorem wireFrame_grows {p : BusPort} {f : Frame} {err : Option WireErr} (hs : Grows s₀ s) : Grows s₀ (wireFrame p f err s)
    := by
  refine grows_ite hs (grows_ite (rxError_grows (setPort_grows hs)) ?_)
  split
  · exact rxError_grows (setPort_grows hs)
  · exact rxError_grows (setPort_grows hs)
  · exact rxError_grows (setPort_grows hs)
  · exact rxError_grows (setPort_grows hs)
  · exact grows_ite (portCount_grows (setPort_grows hs)) (receiveFrame_grows hs)
  · exact grows_ite (portCount_grows (setPort_grows hs)) (receiveFrame_grows hs)

theorem reopenRx_grows {p : BusPort} {src flow openId : Nat} (hs : Grows s₀ s) : Grows s₀ (reopenRx p src flow openId s) :=
  grows_ite (sendCredit_grows (setPort_grows (sweepFlow_grows (setPort_grows hs)))) (queueCtl_grows hs)

theorem mbSendOpen_grows {p : BusPort} {n : Nat} (hs : Grows s₀ s) : Grows s₀ (mbSendOpen p n s) := by
  unfold mbSendOpen
  dsimp only
  split
  · exact hs
  · exact queueCtl_grows (setPort_grows hs)

theorem cutOff_grows {p : BusPort} {offset : Nat} (hs : Grows s₀ s) : Grows s₀ (cutOff p offset s) :=
  grows_ite hs (stateEvent_grows (raise_grows (portCount_grows (setPort_grows hs))))

theorem quietForm_grows {p : BusPort} {count : Bool} (hs : Grows s₀ s) : Grows s₀ (quietForm p count s) :=
  grows_ite (portCount_grows hs) (setErrors_grows (grows_ite (portCount_grows hs) hs))

/-! ### BUS commands -/

theorem startRecover_grows {p : BusPort} (hs : Grows s₀ s) : Grows s₀ (startRecover p s) := by
  unfold startRecover
  dsimp only
  split
  · exact setPort_grows hs
  · exact recoverPort_grows hs
  · exact hs

theorem changeEnable_grows {p : BusPort} {old new : Bool} (hs : Grows s₀ s) : Grows s₀ (changeEnable p old new s) :=
  grows_ite hs (grows_ite (startRecover_grows (setPort_grows hs)) (setPort_grows hs))

theorem changeMode_grows {p : BusPort} {old new : Nat} (hs : Grows s₀ s) : Grows s₀ (changeMode p old new s) :=
  grows_ite hs (grows_ite (setPort_grows hs) (setPort_grows hs))

theorem changeTerm_grows {p : BusPort} {recs : List Rec} (hs : Grows s₀ s) : Grows s₀ (changeTerm p recs s) := by
  unfold changeTerm
  split
  · split
    · exact hs
    · exact hs
  · exact hs

theorem createTx_grows {p : BusPort} {n : Nat} {f : Flow} (hs : Grows s₀ s) : Grows s₀ (createTx p n f s) :=
  openFlow_grows (setPort_grows hs)

theorem createRx_grows {p : BusPort} {n : Nat} {f : Flow} (hs : Grows s₀ s) : Grows s₀ (createRx p n f s) :=
  sweepFlow_grows (setPort_grows hs)

theorem setTx_grows {p : BusPort} {n : Nat} {recs : List Rec} (hs : Grows s₀ s) : Grows s₀ (setTx p n recs s) :=
  applyStaged_grows (txMod_grows hs)

theorem wakeFlow_grows {p : BusPort} {n : Nat} {aged : Bool} (hs : Grows s₀ s) : Grows s₀ (wakeFlow p n aged s) :=
  txMod_grows hs

theorem removeFlow_grows {p : BusPort} {n : Nat} (hs : Grows s₀ s) : Grows s₀ (removeFlow p n s) :=
  setPort_grows hs

theorem loadMb_grows {p : BusPort} {n : Nat} {m : MsgBuf} {h : Hdr} {payload : List Byte} (hs : Grows s₀ s) : Grows s₀
    (loadMb p n m h payload s) :=
  setPort_grows hs

theorem openMb_grows {p : BusPort} {n : Nat} (hs : Grows s₀ s) : Grows s₀ (openMb p n s) := by
  unfold openMb
  dsimp only
  split
  · exact hs
  · exact grows_ite hs (grows_ite (setPort_grows hs) (mbSendOpen_grows (setPort_grows hs)))

/-! ### Queue events -/

theorem relinkStreams_grows {q : Nat} (hs : Grows s₀ s) : Grows s₀ (relinkStreams q s) := by
  unfold relinkStreams
  split
  · exact linkCommitted_grows hs
  · exact grows_foldl (fun _ _ => linkReady_grows (.refl _)) hs

/-! ### QUEUE commands -/

theorem dieOnly_grows {n : Nat} (hs : Grows s₀ s) : Grows s₀ (dieOnly n s) := by
  unfold dieOnly
  split
  · exact hs
  · exact grows_ite hs hs

theorem rearm_grows {n mask i : Nat} (hs : Grows s₀ s) : Grows s₀ (rearm n mask i s) := by
  unfold rearm
  split
  · exact hs
  · exact grows_ite hs (event_grows (qSet_grows hs))

/-! ### Segments -/

theorem anchorMod_grows {p : BusPort} {g : Anchor → Anchor} (hs : Grows s₀ s) : Grows s₀ (anchorMod p g s) :=
  setPort_grows hs

theorem settleTraverse_grows (hs : Grows s₀ s) : Grows s₀ (settleTraverse s) :=
  hs

theorem anchorEvent_grows {p : BusPort} {kind : Nat} (hs : Grows s₀ s) : Grows s₀ (anchorEvent p kind s) :=
  event_grows hs

theorem setLink_grows {p : BusPort} (hs : Grows s₀ s) : Grows s₀ (setLink p s) :=
  grows_ite hs (anchorEvent_grows (raise_grows (anchorMod_grows hs)))

theorem clearLink_grows {p : BusPort} (hs : Grows s₀ s) : Grows s₀ (clearLink p s) :=
  grows_ite (endCond_grows (anchorMod_grows hs)) hs

theorem takeOver_grows {p : BusPort} (hs : Grows s₀ s) : Grows s₀ (takeOver p s) :=
  anchorEvent_grows (raise_grows (settleTraverse_grows (anchorMod_grows hs)))

theorem yieldAnchor_grows {p : BusPort} (hs : Grows s₀ s) : Grows s₀ (yieldAnchor p s) :=
  .unless (anchorEvent_grows (settleTraverse_grows (anchorMod_grows hs))) (leaderMove_grows (.refl _))

theorem sendGop_grows {p : BusPort} {dkind dst : Nat} {o : GlobalOp} (hs : Grows s₀ s) : Grows s₀ (sendGop p dkind dst o s)
    := by
  unfold sendGop
  split
  · exact grows_ite hs (setPort_grows hs)
  · exact grows_ite hs (setPort_grows hs)

theorem barrierPut_grows {id : Nat} {b : Barrier} (hs : Grows s₀ s) : Grows s₀ (barrierPut id b s) :=
  hs

theorem sendDown_grows {p : BusPort} {o : GlobalOp} (hs : Grows s₀ s) : Grows s₀ (sendDown p o s) :=
  .opt (sendGop_grows hs) (sendGop_grows (.refl _))

theorem issueOp_grows {p : BusPort} {msg arg : Nat} {partial_ timeout : Bool} (hs : Grows s₀ s) : Grows s₀
    (issueOp p msg arg partial_ timeout s).2 := by
  unfold issueOp
  split
  · exact barrierPut_grows (sendDown_grows hs)
  · exact .upd (sendDown_grows hs)

theorem reportOn_grows {id : Nat} {p : BusPort} (hs : Grows s₀ s) : Grows s₀ (reportOn id s p) := by
  refine grows_ite hs ?_
  split
  · exact hs
  · exact sendGop_grows (barrierPut_grows hs)

theorem settleBarrier_grows {id : Nat} (hs : Grows s₀ s) : Grows s₀ (settleBarrier id s) := by
  unfold settleBarrier
  split
  · exact hs
  · refine grows_ite hs (grows_ite ?_ (grows_ite (grows_foldl (fun _ _ => reportOn_grows (.refl _)) hs) hs))
    split
    · exact issueOp_grows (barrierPut_grows hs)
    · exact hs

theorem clearPort_grows {p : BusPort} (hs : Grows s₀ s) : Grows s₀ (clearPort p s) :=
  grows_ite (setPort_grows hs) (.unless (setPort_grows (grows_ite (recoverPort_grows hs) hs)) (stateEvent_grows (.refl _)))

theorem actOp_grows {o : GlobalOp} (hs : Grows s₀ s) : Grows s₀ (actOp o s) := by
  unfold actOp
  split
  · exact event_grows hs
  · exact snapshot_grows hs
  · exact grows_ite (clearPort_grows (clearPort_grows hs)) (grows_ite (askReset_grows hs) hs)
  · exact .upd (endLongs_grows hs)
  · exact hs

theorem runOp_grows {o : GlobalOp} {late : Nat} (hs : Grows s₀ s) : Grows s₀ (runOp o late s) :=
  grows_ite (actOp_grows hs) (.unless (raise_grows hs) (actOp_grows (.refl _)))

theorem answerIssue_grows {o : GlobalOp} (hs : Grows s₀ s) : Grows s₀ (answerIssue o s) := by
  unfold answerIssue
  split
  · exact hs
  · exact endLongs_grows hs

theorem announceBarrier_grows {p : BusPort} {id : Nat} (hs : Grows s₀ s) : Grows s₀ (announceBarrier p id s) :=
  settleBarrier_grows (barrierPut_grows hs)

theorem takeOp_grows {p : BusPort} {o : GlobalOp} (hs : Grows s₀ s) : Grows s₀ (takeOp p o s) := by
  unfold takeOp
  refine grows_ite (announceBarrier_grows hs) (grows_ite hs ?_)
  dsimp only
  split
  · exact runOp_grows hs
  · exact grows_ite hs hs

/-! ### Anchor and tree events -/

theorem hearPartner_grows {p : BusPort} {hb : Heartbeat} {before : Nat} (hs : Grows s₀ s) : Grows s₀
    (hearPartner p hb before s) :=
  grows_ite hs (grows_ite (.opt (clearLink_grows (anchorMod_grows hs)) (anchorEvent_grows (raise_grows (.refl _)))) (.opt
    (clearLink_grows (anchorMod_grows hs)) (yieldAnchor_grows (.refl _))))

theorem countPrimary_grows {p : BusPort} {hb : Heartbeat} (hs : Grows s₀ s) : Grows s₀ (countPrimary p hb s) :=
  grows_ite (anchorMod_grows hs) hs

theorem enrollNew_grows {p : BusPort} {node : Nat} {wasMember : Bool} (hs : Grows s₀ s) : Grows s₀
    (enrollNew p node wasMember s) :=
  grows_ite hs (startEnroll_grows hs)

/-! ### SCHED commands -/

theorem gatesMod_grows {p : BusPort} {f : Gates → Gates} (hs : Grows s₀ s) : Grows s₀ (gatesMod p f s) :=
  setPort_grows hs

theorem swapList_grows {p : BusPort} (hs : Grows s₀ s) : Grows s₀ (swapList p s) := by
  unfold swapList
  split
  · exact hs
  · exact endLongs_grows (gatesMod_grows hs)

theorem stopList_grows {p : BusPort} (hs : Grows s₀ s) : Grows s₀ (stopList p s) :=
  grows_ite hs (endLongs_grows (.upd (gatesMod_grows hs)))

/-! ### CHECK commands -/

theorem setUnit_grows {n : Nat} {u : CheckUnit} (hs : Grows s₀ s) : Grows s₀ (setUnit n u s) :=
  hs

theorem finishRun_grows {h : Hdr} {n addr len : Nat} {noAppend : Bool} {u : CheckUnit} (hs : Grows s₀ s) : Grows s₀
    (finishRun h n addr len noAppend u s).1 := by
  unfold finishRun
  split
  · exact setUnit_grows hs
  · exact .unless (setUnit_grows hs) (.refl _)

theorem checkResult_grows {n flags seq value : Nat} {u : CheckUnit} (hs : Grows s₀ s) : Grows s₀
    (checkResult n flags seq value u s) :=
  event_grows hs

theorem feedAborted_grows {n q seq : Nat} {u : CheckUnit} (hs : Grows s₀ s) : Grows s₀ (feedAborted n q seq u s) :=
  checkResult_grows (setUnit_grows (.upd (dropRestOp_grows hs)))

theorem feedWhole_grows {n q : Nat} {p : Pkt} {u : CheckUnit} (hs : Grows s₀ s) : Grows s₀ (feedWhole n q p u s) :=
  checkResult_grows (setUnit_grows (popHead_grows hs))

theorem feedSpoilt_grows {n q : Nat} {p : Pkt} {u : CheckUnit} (hs : Grows s₀ s) : Grows s₀ (feedSpoilt n q p u s) :=
  checkResult_grows (setUnit_grows (popHead_grows hs))

/-! ### Decode events -/

theorem noteGap_grows {n : Nat} {r : InRec} (hs : Grows s₀ s) : Grows s₀ (noteGap n r s) := by
  unfold noteGap
  split
  · exact hs
  · split
    · exact grows_ite hs (grows_foldl (fun _ _ => pictureLost_grows (.refl _)) (grows_foldl (fun _ _ => damage_grows (.refl
        _)) hs))
    · exact hs

theorem dropIntake_grows {n q ctr : Nat} (hs : Grows s₀ s) : Grows s₀ (dropIntake n q ctr s) :=
  stMod_grows (stCount_grows (dropRestOp_grows hs))

theorem damageIntake_grows {n q kind : Nat} {x : Stream} {r : InRec} (hs : Grows s₀ s) : Grows s₀
    (damageIntake n q kind x r s) := by
  refine stMod_grows (dropRestOp_grows (damage_grows ?_))
  split
  · exact setJob_grows (stopJobRuns_grows hs)
  · exact hs

theorem intakeJob_grows {n : Nat} {x : Stream} {r : InRec} {refs : List Nat} (hs : Grows s₀ s) : Grows s₀
    (intakeJob n x r refs s) := by
  unfold intakeJob
  split
  · exact setJob_grows hs
  · exact addJob_grows (noteGap_grows hs)

theorem intakePkt_grows {n q : Nat} {x : Stream} {p : Pkt} {r : InRec} {refs : List Nat} (hs : Grows s₀ s) : Grows s₀
    (intakePkt n q x p r refs s) :=
  grows_ite (grows_ite (dropIntake_grows hs) hs) (grows_ite (damageIntake_grows hs) (grows_ite (dropIntake_grows hs)
    (grows_ite (dropIntake_grows (stMod_grows (damage_grows (noteGap_grows hs)))) (grows_ite hs (grows_ite hs (grows_ite
    (damageIntake_grows hs) (releaseWaiting_grows (.opt (stMod_grows (grows_ite hs (intakeJob_grows hs))) (popHead_grows
    (.refl _))))))))))

theorem takeHint_grows {x : Stream} {picture k : Nat} (hs : Grows s₀ s) : Grows s₀ (takeHint x picture k s).1 := by
  induction k generalizing s with
  | zero => exact hs
  | succ k ih =>
    have hw := headWhole_grows (n := fnat x.f 0x7216 0) hs
    unfold takeHint
    dsimp only
    split
    next heq => rw [heq] at hw; exact hw
    next heq =>
      rw [heq] at hw
      split
      · exact ih (dropRestOp_grows hw)
      · split
        · exact popHead_grows hw
        · split
          · exact ih (popHead_grows hw)
          · exact hw

theorem areaMode_grows {n : Nat} {x : Stream} {a : Area} (hs : Grows s₀ s) : Grows s₀ (areaMode n x a s).1 := by
  have hh := takeHint_grows (x := x) (picture := a.picture)
    (k := ((qGet s (fnat x.f 0x7216 0)).map (fun y => y.pkts.length + 1)).getD 0) hs
  unfold areaMode
  split
  · exact hostMiss_grows (stCount_grows hs)
  · split
    · split
      next heq => rw [heq] at hh; exact hh
      next heq => rw [heq] at hh; exact stCount_grows hh
    · exact hs

theorem commitConcealed_grows {n : Nat} {x : Stream} {a : Area} (hs : Grows s₀ s) : Grows s₀ (commitConcealed n x a s) := by
  unfold commitConcealed
  split
  · exact releaseWaiting_grows (bandEnd_grows (feedTranscode_grows (stMod_grows hs)))
  · exact releaseWaiting_grows (bandEnd_grows (jobCommitted_grows (feedTranscode_grows (stMod_grows (removeJob_grows
      (stMod_grows hs))))))

theorem concealArea_grows {n : Nat} {x : Stream} {a : Area} (hs : Grows s₀ s) : Grows s₀ (concealArea n x a s) := by
  unfold concealArea
  split
  · dsimp only
    split
    · exact stMod_grows (areaMode_grows (stMod_grows hs))
    · exact emitBand_grows (stMod_grows (areaMode_grows (stMod_grows hs)))
  · dsimp only
    split
    · exact stMod_grows (areaMode_grows (stMod_grows hs))
    · exact commitConcealed_grows (emitBand_grows (stMod_grows (areaMode_grows (stMod_grows hs))))

/-! ### Mailboxes -/

theorem setVec_grows {fn v : Nat} {x : Vec} (hs : Grows s₀ s) : Grows s₀ (setVec fn v x s) :=
  setFn_grows hs

theorem putMsix_grows {fn v : Nat} (hs : Grows s₀ s) : Grows s₀ (putMsix fn v s) :=
  grows_ite hs hs

theorem signal_grows {fn v : Nat} (hs : Grows s₀ s) : Grows s₀ (signal fn v s) :=
  grows_ite hs (grows_ite (setVec_grows hs) (grows_ite (setVec_grows hs) (putMsix_grows hs)))

theorem signalRing_grows {fn : Nat} {base : DWord} (hs : Grows s₀ s) : Grows s₀ (signalRing fn base s) :=
  grows_ite (signal_grows hs) hs

theorem sendMsix_grows {fn v : Nat} (hs : Grows s₀ s) : Grows s₀ (sendMsix fn v s) :=
  setVec_grows hs

theorem ringEvent_grows {fn code ring index queue : Nat} (hs : Grows s₀ s) : Grows s₀
    (ringEvent fn code ring index queue s) :=
  event_grows hs

theorem stopRing_grows {fn : Nat} {warden : Bool} {code index : Nat} (hs : Grows s₀ s) : Grows s₀
    (stopRing fn warden code index s) :=
  raise_grows (ringEvent_grows (setFn_grows (setMbx_grows hs)))

theorem takeEntry_grows {fn : Nat} {warden : Bool} {e : ReqEntry} (hs : Grows s₀ s) : Grows s₀ (takeEntry fn warden e s) :=
  grows_ite (setMbx_grows hs) (respond_grows (setMbx_grows hs))

theorem fetchEntry_grows {fn : Nat} {warden again : Bool} {e : ReqEntry} (hs : Grows s₀ s) : Grows s₀
    (fetchEntry fn warden again e s) :=
  grows_ite (stopRing_grows (readFailed_grows hs)) (grows_ite (grows_ite (stopRing_grows hs) (setMbx_grows hs))
    (takeEntry_grows hs))

theorem fetchRing_grows {fn k : Nat} {warden : Bool} (hs : Grows s₀ s) : Grows s₀ (fetchRing fn warden k s) := by
  induction k generalizing s with
  | zero => exact hs
  | succ k ih =>
    unfold fetchRing
    dsimp only
    split
    · exact hs
    · exact grows_ite hs (ih (fetchEntry_grows hs))

theorem refetch_grows {fn : Nat} {warden : Bool} (hs : Grows s₀ s) : Grows s₀ (refetch fn warden s) :=
  fetchRing_grows hs

theorem refetchFn_grows {fn : Nat} (hs : Grows s₀ s) : Grows s₀ (refetchFn fn s) :=
  .opt (refetch_grows hs) (refetch_grows (.refl _))

theorem ringDoorbell_grows {fn : Nat} {warden : Bool} {tail : Nat} {entries : List ReqEntry} (hs : Grows s₀ s) : Grows s₀
    (ringDoorbell fn warden tail entries s) :=
  grows_ite (setFn_grows hs) (grows_ite hs (grows_ite (stopRing_grows hs) (refetch_grows (setMbx_grows hs))))

theorem actDeferred_grows {d : Deferred} (hs : Grows s₀ s) : Grows s₀ (actDeferred d s) :=
  .unless (raise_grows hs) (doAction_grows (.refl _))

theorem actAllDeferred_grows {fn : Nat} (hs : Grows s₀ s) : Grows s₀ (actAllDeferred fn s) :=
  grows_foldl (fun _ _ => actDeferred_grows (.refl _)) hs

theorem flrSummary_grows {fn : Nat} (hs : Grows s₀ s) : Grows s₀ (flrSummary fn s) := by
  unfold flrSummary
  split
  · exact hs
  · exact event_grows (setFn_grows hs)

theorem startRings_grows {fn : Nat} {warden : Bool} {m : Mbx} (hs : Grows s₀ s) : Grows s₀ (startRings fn warden m s) :=
  .unless (.upd (setMbx_grows hs)) (actAllDeferred_grows (.unless (flrSummary_grows (.refl _)) (event_grows (.refl _))))

theorem enableSet_grows {fn : Nat} {warden : Bool} {value : Word} (hs : Grows s₀ s) : Grows s₀
    (enableSet fn warden value s) :=
  grows_ite hs (grows_ite (grows_ite (setMbx_grows hs) (startRings_grows hs)) (setMbx_grows hs))

theorem serveRings_grows (hs : Grows s₀ s) : Grows s₀ (serveRings s) :=
  grows_foldl (fun _ _ => grows_ite (startRings_grows (.refl _)) (.refl _)) (grows_ite (startRings_grows hs) hs)

theorem enableClear_grows {fn : Nat} {warden : Bool} (hs : Grows s₀ s) : Grows s₀ (enableClear fn warden s) :=
  grows_ite hs (.upd (setMbx_grows hs))

theorem sizeClear_grows {fn : Nat} {warden : Bool} {value : Word} (hs : Grows s₀ s) : Grows s₀
    (sizeClear fn warden value s) :=
  grows_ite (enableClear_grows hs) (setMbx_grows hs)

theorem headWrite_grows {fn : Nat} {warden : Bool} {value : Word} (hs : Grows s₀ s) : Grows s₀
    (headWrite fn warden value s) :=
  refetch_grows (.opt (setMbx_grows hs) (event_grows (.refl _)))

/-! ### DEV commands -/

theorem rebuildQueues_grows (hs : Grows s₀ s) : Grows s₀ (rebuildQueues s) :=
  grows_foldl (fun _ _ => qMod_grows (.refl _)) hs

/-! ### Submission rings -/

theorem noteHostGaps_grows {n : Nat} {gaps : List (Nat × Nat × Nat × Nat)} (hs : Grows s₀ s) : Grows s₀
    (noteHostGaps n gaps s) :=
  grows_foldl (fun _ _ => damage_grows (.refl _)) hs

theorem subAdvance_grows {q : Nat} (hs : Grows s₀ s) : Grows s₀ (subAdvance q s) :=
  qMod_grows hs

theorem subAccepted_grows {q : Nat} {r : DRing} {idx seq tag : Nat} (hs : Grows s₀ s) : Grows s₀
    (subAccepted q r idx seq tag s) :=
  grows_ite (submitted_grows (subAdvance_grows hs)) (.opt (qMod_grows (subAdvance_grows hs)) (flushBatch_grows (.refl _)))

theorem subRefused_grows {q idx tag : Nat} {st : Status} (hs : Grows s₀ s) : Grows s₀ (subRefused q idx tag st s) :=
  submitted_grows (subAdvance_grows (flushBatch_grows hs))

/-! ### Writes to host memory -/

theorem chargeWrite_grows {asset : Bool} {fn bytes : Nat} (hs : Grows s₀ s) : Grows s₀ (chargeWrite asset fn bytes s) :=
  hs

theorem hostWrite_grows {fn addr what : Nat} {data : List Byte} (hs : Grows s₀ s) : Grows s₀
    (hostWrite fn addr what data s) :=
  hs

theorem sessionTag_grows {q : AssetReq} {c : Nat} (hs : Grows s₀ s) : Grows s₀ (sessionTag q c s) := by
  unfold sessionTag
  split
  · exact hostWrite_grows hs
  · exact hs

theorem chunkOut_grows {r c : Nat} (hs : Grows s₀ s) : Grows s₀ (chunkOut r c s) := by
  unfold chunkOut
  split
  · exact hs
  · split
    · exact hs
    · exact chunkWritten_grows (assetCount_grows (.opt (grows_ite (sessionTag_grows hs) hs) (hostWrite_grows (.refl _))))

theorem unitDone_grows {u : HUnit} (hs : Grows s₀ s) : Grows s₀ (unitDone u s) := by
  unfold unitDone
  split
  · exact flushRecs_grows (stMod_grows hs)
  · exact chunkOut_grows hs
  · exact hs

theorem sendUnit_grows {u : HUnit} {c : Sched} (hs : Grows s₀ s) : Grows s₀ (sendUnit u c s) :=
  .opt (chargeWrite_grows hs) (unitDone_grows (.refl _))

theorem writeRsp_grows {fn : Nat} {warden : Bool} {r : Rsp} (hs : Grows s₀ s) : Grows s₀ (writeRsp fn warden r s) :=
  .opt (.unless (setMbx_grows (hostWrite_grows (grows_ite (hostWrite_grows hs) hs))) (signalRing_grows (.refl _)))
    (refetchFn_grows (.refl _))

theorem writeEvt_grows {fn : Nat} {e : Evt} (hs : Grows s₀ s) : Grows s₀ (writeEvt fn e s) :=
  signalRing_grows (setMbx_grows (hostWrite_grows hs))

theorem sendCompl_grows {w : ComplW} {rest : List ComplW} (hs : Grows s₀ s) : Grows s₀ (sendCompl w rest s) := by
  unfold sendCompl
  split
  · exact writeRsp_grows hs
  · exact writeEvt_grows hs
  · exact sendMsix_grows hs

theorem putCompletion_grows {q fn : Nat} {r : DRing} {aborted late : Bool} {reason bytes : Nat} {p : Option Pkt}
    (hs : Grows s₀ s) : Grows s₀ (putCompletion q fn r aborted late reason bytes p s) :=
  signal_grows (qMod_grows hs)

theorem smallBuffer_grows {q fn : Nat} {r : DRing} (hs : Grows s₀ s) : Grows s₀ (smallBuffer q fn r s) :=
  putCompletion_grows (setFn_grows hs)

theorem deliver_grows {q buf : Nat} {y : Queue} {r : DRing} {p : Pkt} (hs : Grows s₀ s) : Grows s₀ (deliver q buf y r p s) :=
  grows_ite (dropRestOp_grows (badCell_grows (putCompletion_grows (noteLatency_grows (chargeWrite_grows hs))))) (grows_ite
    (dropRestOp_grows (putCompletion_grows (noteLatency_grows (chargeWrite_grows hs)))) (popHead_grows (putCompletion_grows
    (noteLatency_grows (chargeWrite_grows hs)))))

/-! ### Enrollment events -/

theorem takeReply_grows {p : BusPort} {e : Enroll} {r : EnrollRec} (hs : Grows s₀ s) : Grows s₀ (takeReply p e r s) := by
  unfold takeReply
  split
  · exact refuseNode_grows hs
  · have h1 {k : Nat} := addNodeKey_grows (p := p) (src := r.src) (epoch := 1) (key := k) (takeRandom_grows hs)
    exact sendRecord_grows (setPort_grows (grows_ite h1 (addNodeKey_grows (takeRandom_grows (takeEpoch_grows h1)))))

theorem takeDone_grows {p : BusPort} {e : Enroll} {r : EnrollRec} (hs : Grows s₀ s) : Grows s₀ (takeDone p e r s) :=
  grows_foldl (fun _ _ => grantKey_grows (.refl _)) (grows_foldl (fun _ _ => grows_foldl (fun _ _ => grantKey_grows (.refl
    _)) (.refl _)) (event_grows (dropExchange_grows hs)))

theorem authorityRecord_grows {p : BusPort} {r : EnrollRec} (hs : Grows s₀ s) : Grows s₀ (authorityRecord p r s) := by
  unfold authorityRecord
  split
  · split
    · dsimp only
      split
      · exact grows_ite (takeReply_grows hs) hs
      · exact grows_ite (takeDone_grows hs) hs
      · exact grows_ite (repeatEnroll_grows hs) hs
      · exact grows_ite (grantEpoch_grows hs) hs
      · exact grantKey_grows hs
      · exact hs
    · dsimp only
      split
      · exact grows_ite (takeReply_grows hs) hs
      · exact grows_ite (takeDone_grows hs) hs
      · exact grows_ite (repeatEnroll_grows hs) hs
      · exact grows_ite (grantEpoch_grows hs) hs
      · exact hs
      · exact hs
  · dsimp only
    split
    · exact grows_ite (takeReply_grows hs) hs
    · exact grows_ite (takeDone_grows hs) hs
    · exact grows_ite (repeatEnroll_grows hs) hs
    · exact grows_ite (grantEpoch_grows hs) hs
    · exact hs
    · exact hs

theorem nodeRecord_grows {p : BusPort} {r : EnrollRec} (hs : Grows s₀ s) : Grows s₀ (nodeRecord p r s) := by
  unfold nodeRecord
  split
  · exact grows_ite (sendRecord_grows hs) (sendRecord_grows (.updKeel (setPort_grows hs)))
  · exact grows_ite hs (grows_ite (dropExchange_grows (sendRecord_grows hs)) (grows_ite (dropExchange_grows
      (sendRecord_grows hs)) (dropExchange_grows (sendRecord_grows (takeEpoch_grows (addNodeKey_grows (addNodeKey_grows
      hs)))))))
  · exact grows_ite (dropExchange_grows hs) hs
  · exact grows_ite (addNodeKey_grows hs) hs
  · exact takeEpochGo_grows hs
  · exact hs

theorem takeRemoteKey_grows {p : BusPort} {r : EnrollRec} (hs : Grows s₀ s) : Grows s₀ (takeRemoteKey p r s) :=
  grows_foldl (fun _ _ => grantKey_grows (.refl _)) (addNodeKey_grows hs)

/-! ### FAULT commands and the collector -/

theorem srcPut_grows {n : Nat} {x : Source} (hs : Grows s₀ s) : Grows s₀ (srcPut n x s) :=
  hs

theorem ackSource_grows {n : Nat} (hs : Grows s₀ s) : Grows s₀ (ackSource s n) := by
  unfold ackSource
  split
  · exact hs
  · exact grows_ite (updRecs_grows (srcPut_grows hs)) hs

theorem integrityLoss_grows {msgs : List FaultMsg} (hs : Grows s₀ s) : Grows s₀ (integrityLoss msgs s) :=
  .opt (grows_ite (eraseVault_grows hs) hs) (.refl _)

/-! ### Registers of the host link -/

theorem ringTail_grows {fn q tail : Nat} {del : Bool} (hs : Grows s₀ s) : Grows s₀ (ringTail fn q tail del s) := by
  unfold ringTail
  split
  · exact hs
  · split
    · exact hs
    · exact .opt (qMod_grows (grows_ite (flushBatch_grows hs) hs)) (ringEvent_grows (.refl _))

theorem doorbellWrite_grows {fn db tail : Nat} (hs : Grows s₀ s) : Grows s₀ (doorbellWrite fn db tail s) := by
  unfold doorbellWrite
  split
  · exact setFn_grows hs
  · exact ringTail_grows hs

theorem baseWrite_grows {fn : Nat} {warden : Bool} {f : Mbx → Mbx} (hs : Grows s₀ s) : Grows s₀ (baseWrite fn warden f s) :=
  grows_ite hs (setMbx_grows hs)

theorem intWrite_grows {fn : Nat} {warden : Bool} {value : Word} (hs : Grows s₀ s) : Grows s₀ (intWrite fn warden value s) :=
  setMbx_grows hs

theorem fnStateWrite_grows {fn : Nat} {value : Word} (hs : Grows s₀ s) : Grows s₀ (fnStateWrite fn value s) :=
  setFn_grows hs

theorem mbxRegWrite_grows {fn : Nat} {warden : Bool} {off : Nat} {value : Word} (hs : Grows s₀ s) : Grows s₀
    (mbxRegWrite fn warden off value s) := by
  unfold mbxRegWrite
  split
  · exact baseWrite_grows hs
  · exact baseWrite_grows hs
  · exact grows_ite (enableSet_grows hs) (sizeClear_grows hs)
  · exact baseWrite_grows hs
  · exact baseWrite_grows hs
  · exact grows_ite hs (baseWrite_grows hs)
  · exact grows_ite hs (baseWrite_grows hs)
  · exact ringDoorbell_grows hs
  · exact headWrite_grows hs
  · exact intWrite_grows hs
  · exact hs

theorem msixWrite_grows {fn v i : Nat} {value : Word} (hs : Grows s₀ s) : Grows s₀ (msixWrite fn v i value s) :=
  grows_ite hs (grows_ite (putMsix_grows (setVec_grows hs)) (setVec_grows hs))

theorem write32_grows {fn off : Nat} {value : Word} (hs : Grows s₀ s) : Grows s₀ (write32 fn off value s) :=
  grows_ite (fnStateWrite_grows hs) (grows_ite (mbxRegWrite_grows hs) (grows_ite (mbxRegWrite_grows hs) (grows_ite
    (grows_ite (doorbellWrite_grows hs) hs) (grows_ite (msixWrite_grows hs) hs))))

theorem barWrite_grows {fn off width : Nat} {value : DWord} (hs : Grows s₀ s) : Grows s₀ (barWrite fn off width value s) :=
  grows_ite hs (.opt (write32_grows hs) (write32_grows (.refl _)))

/-! ### Resets and the keel -/

theorem leaveReset_grows {b : BootFacts} (hs : Grows s₀ s) : Grows s₀ (leaveReset b s) :=
  .upd (boot_grows hs)

theorem noteLate_grows {late : Bool} (hs : Grows s₀ s) : Grows s₀ (noteLate late s) :=
  grows_ite (raise_grows hs) hs

theorem coreEnters_grows {failed : List Nat} {c : Nat} (hs : Grows s₀ s) : Grows s₀ (coreEnters failed s c) :=
  .opt (coreSet_grows hs) (coreOffline_grows (.refl _))

theorem enumerate_grows {p : StPort} {d : DevFacts} (hs : Grows s₀ s) : Grows s₀ (enumerate p d s) :=
  setStPort_grows hs

theorem layHbm_grows (hs : Grows s₀ s) : Grows s₀ (layHbm s) :=
  hs

theorem vfsAway_grows (hs : Grows s₀ s) : Grows s₀ (vfsAway s) :=
  hs

theorem noteFeed_grows {feed cause : Nat} {kept : Bool} (hs : Grows s₀ s) : Grows s₀ (noteFeed feed cause kept s) :=
  grows_ite (feedChange_grows hs) (grows_ite hs hs)

theorem takeFeed_grows {f : Feed} (hs : Grows s₀ s) : Grows s₀ (takeFeed f s) :=
  noteFeed_grows hs

theorem noteTemp_grows {sensor : Nat} {temp : Int} (hs : Grows s₀ s) : Grows s₀ (noteTemp sensor temp s) :=
  grows_ite (coreSet_grows hs) hs

/-! ### Storage -/

theorem sendCmds_grows {p : StPort} {r c n : Nat} {fua : Bool} (hs : Grows s₀ s) : Grows s₀ (sendCmds p r c n fua s) :=
  assetCount_grows (.upd (setStPort_grows hs))

theorem dropCmds_grows {p : StPort} {f : NvmeCmd → Bool} (hs : Grows s₀ s) : Grows s₀ (dropCmds p f s) :=
  setStPort_grows hs

theorem resend_grows {p : StPort} {id : Nat} {f : NvmeCmd → NvmeCmd} (hs : Grows s₀ s) : Grows s₀ (resend p id f s) :=
  setStPort_grows hs

theorem countReread_grows {p : StPort} {r : Nat} (hs : Grows s₀ s) : Grows s₀ (countReread p r s) :=
  assetCount_grows (reqMod_grows hs)

theorem endOnPort_grows {p : StPort} {st : Status} {detail : Nat} (hs : Grows s₀ s) : Grows s₀ (endOnPort p st detail s) :=
  recountStaging_grows hs

theorem startWindow_grows (hs : Grows s₀ s) : Grows s₀ (startWindow s) :=
  hs

theorem loseDevice_grows {p : StPort} (hs : Grows s₀ s) : Grows s₀ (loseDevice p s) :=
  endOnPort_grows (setStPort_grows hs)

theorem dropCartridge_grows (hs : Grows s₀ s) : Grows s₀ (dropCartridge s) :=
  .opt (grows_ite (abortEnroll_grows (dropNodeKeys_grows hs)) hs) (abortEnroll_grows (dropNodeKeys_grows (.refl _)))

theorem formatFails_grows {req chunk : Nat} {q : AssetReq} (hs : Grows s₀ s) : Grows s₀ (formatFails req chunk q s) :=
  raise_grows (failChunk_grows (assetCount_grows hs))

theorem passChunk_grows {req chunk : Nat} {q : AssetReq} {desc : List Byte} (hs : Grows s₀ s) : Grows s₀
    (passChunk req chunk q desc s) :=
  grows_ite (formatFails_grows hs) (forwardChunk_grows hs)

theorem releaseUnit_grows {u : Nat} (hs : Grows s₀ s) : Grows s₀ (releaseUnit u s) :=
  hs

theorem unitFails_grows {req chunk u : Nat} (hs : Grows s₀ s) : Grows s₀ (unitFails req chunk u s) :=
  assignUnits_grows (chunkMod_grows (.opt (raise_grows hs) (raise_grows (.refl _))))

/-! ### TIME commands -/

theorem adjustBy_grows {d : Dom} {delta : Ticks} (hs : Grows s₀ s) : Grows s₀ (adjustBy d delta s) :=
  grows_ite (leaderMove_grows hs) (grows_ite (slewDom_grows hs) (stepDom_grows hs))

theorem gateFallback_grows {n : Nat} {entered : Bool} (hs : Grows s₀ s) : Grows s₀ (gateFallback n entered s) :=
  grows_foldl (fun _ _ => grows_ite (.refl _) (event_grows (setPort_grows (.refl _)))) hs

theorem applyFl_grows {n : Nat} {recs : List Rec} (hs : Grows s₀ s) : Grows s₀ (applyFl n recs s) :=
  rekey_grows (lateOnFl_grows (gateFallback_grows (setFl_grows hs)))

theorem settleFl_grows {n : Nat} (hs : Grows s₀ s) : Grows s₀ (settleFl n s) :=
  grows_ite hs (endLongs_grows (applyFl_grows hs))

/-! ### Time events -/

theorem flEvent_grows {n kind : Nat} (hs : Grows s₀ s) : Grows s₀ (flEvent n kind s) :=
  event_grows hs

theorem flyOn_grows {n : Nat} (hs : Grows s₀ s) : Grows s₀ (flyOn n s) :=
  grows_ite hs (flEvent_grows (raise_grows (setFl_grows hs)))

theorem flyOff_grows {n : Nat} (hs : Grows s₀ s) : Grows s₀ (flyOff n s) :=
  grows_ite (flEvent_grows (endCond_grows (setFl_grows hs))) hs

theorem rasterEdge_grows {fl : Nat} (hs : Grows s₀ s) : Grows s₀ (rasterEdge fl s) := by
  unfold rasterEdge
  dsimp only
  split
  · exact grows_ite hs (routeInternal_grows (setFl_grows hs))
  · exact hs

theorem settleAnchor_grows {n : Nat} (hs : Grows s₀ s) : Grows s₀ (settleAnchor n s) := by
  unfold settleAnchor
  dsimp only
  split
  · exact grows_ite (rekey_grows (setFl_grows hs)) hs
  · exact hs

theorem takeAnchor_grows {n : Nat} {a : FlAnchor} (hs : Grows s₀ s) : Grows s₀ (takeAnchor n a s) :=
  grows_ite hs (settleAnchor_grows (setFl_grows (setFl_grows (flyOff_grows hs))))

theorem firstStep_grows {d : Dom} {epoch : Nat} {delta : Ticks} (hs : Grows s₀ s) : Grows s₀ (firstStep d epoch delta s) :=
  setDomSt_grows (stepDom_grows hs)

theorem followStep_grows {d : Dom} {epoch : Nat} {step delta : Ticks} (hs : Grows s₀ s) : Grows s₀
    (followStep d epoch step delta s) :=
  setServo_grows (stepDom_grows hs)

theorem startExchange_grows {port : BusPort} {f : TimeFrame} {t2 : Ticks} (hs : Grows s₀ s) : Grows s₀
    (startExchange port f t2 s) :=
  grows_ite (queueTime_grows (setServo_grows hs)) (setServo_grows hs)

theorem timeRx_grows {port : BusPort} {tagOk : Bool} {f : State → State} (hf : ∀ s, Grows s (f s)) (hs : Grows s₀ s) :
    Grows s₀ (timeRx port tagOk s f) :=
  grows_ite hs (grows_ite (portCount_grows hs) (hs.trans (hf s)))

theorem servoLoop_grows {d : Dom} {theta : Ticks} (hs : Grows s₀ s) : Grows s₀ (servoLoop d theta s) :=
  grows_ite (setServo_grows (stepDom_grows hs)) (setRate_grows (setServo_grows hs))

theorem judgeLock_grows {d : Dom} {theta : Ticks} (hs : Grows s₀ s) : Grows s₀ (judgeLock d theta s) := by
  unfold judgeLock
  dsimp only
  split
  · exact .opt (setServo_grows hs) (setDomSt_grows (.refl _))
  · exact .opt (setServo_grows hs) (setDomSt_grows (.refl _))
  · exact setServo_grows hs

theorem recordExchange_grows {d : Dom} {ts : List Int} (hs : Grows s₀ s) : Grows s₀ (recordExchange d ts s) := by
  unfold recordExchange
  dsimp only
  split
  · exact grows_ite (writePacket_grows hs) (setServo_grows hs)
  · exact setServo_grows hs

theorem steerTb_grows {port : BusPort} (hs : Grows s₀ s) : Grows s₀ (steerTb port s) :=
  grows_ite (grows_ite hs (leaderMove_grows hs)) hs

/-! ### TRUST commands -/

theorem putKey_grows {n : Nat} {k : KeySlot} (hs : Grows s₀ s) : Grows s₀ (putKey n k s) :=
  hs

theorem tick_grows (hs : Grows s₀ s) : Grows s₀ (tick s) :=
  advance_grows hs

end Sys2Proof.Machine
end

section
/-! SUPPORT. What every row keeps: a request, an event, and each row by its own operations. -/

namespace Sys2Proof.Machine

variable {s₀ s t : State}

/-- A sequence of a command's rules succeeds where each of them does. -/
theorem bind_eq_ok {α β : Type} {x : Except Status α} {k : α → Except Status β} {b : β} :
    x >>= k = .ok b ↔ ∃ a, x = .ok a ∧ k a = .ok b := by
  cases x with
  | error e => exact ⟨fun h => (by cases h), fun ⟨_, h, _⟩ => (by cases h)⟩
  | ok a => exact ⟨fun h => ⟨a, rfl, h⟩, fun ⟨_, rfl, h⟩ => h⟩

/-- A row keeps it where it answers a next state. -/
def OutGrows (s : State) (o : Host.Outcome State Fault Refusal) : Prop := ∀ t, o = .next t → Grows s t

/-- A command's own rules keep it where they do not fail. -/
def BodyGrows (s₀ : State) (x : Except Status (State × Option Reply)) : Prop := ∀ t r, x = .ok (t, r) → Grows s₀ t

namespace BodyGrows

theorem error {e : Status} : BodyGrows s₀ (.error e) := fun _ _ h => by cases h

theorem ok {r : Option Reply} (h : Grows s₀ s) : BodyGrows s₀ (.ok (s, r)) := fun _ _ hr => by cases hr; exact h

theorem done {res : List Int} (h : Grows s₀ s) : BodyGrows s₀ (done s res) := .ok h

theorem ite {c : Prop} [Decidable c] {x y : Except Status (State × Option Reply)} (hx : BodyGrows s₀ x) (hy : BodyGrows s₀ y) :
    BodyGrows s₀ (if c then x else y) := by
  split <;> assumption

theorem bind {α : Type} {x : Except Status α} {k : α → Except Status (State × Option Reply)}
    (h : ∀ a, x = .ok a → BodyGrows s₀ (k a)) : BodyGrows s₀ (x >>= k) := by
  cases x with
  | error => exact .error
  | ok a => exact h a rfl

end BodyGrows

/-- A mailbox command keeps it where its own rules do: what starts and answers it keeps it too. -/
theorem mbx_grows {sp : Spec} {h : Hdr} {body : State → Except Status (State × Option Reply)}
    (hb : ∀ s, BodyGrows s (body s)) : OutGrows s (mbx sp h s body) := by
  intro t ht
  have h0 : Grows s (advanceReq h s) := advanceReq_grows (.refl s)
  have h1 : Grows s (markStarted sp h (advanceReq h s)) := markStarted_grows h0
  unfold mbx at ht
  dsimp only at ht
  split at ht
  · cases ht; exact h0
  · split at ht
    · cases ht; exact finish_grows h1
    · split at ht <;> cases ht
      · exact finish_grows h1
      · next hr => exact finish_grows (h1.trans (hb _ _ _ hr))
      · next hr => exact h1.trans (hb _ _ _ hr)

theorem ev_grows {t : Nat} {f : State → State} (hf : ∀ s, Grows s (f s)) : OutGrows s (ev t s f) := fun _ h => by
  cases h; exact (advance_grows (.refl s)).trans (hf _)

theorem evOn_grows {ok : Bool} {t : Nat} {f : State → State} (hf : ∀ s, Grows s (f s)) : OutGrows s (evOn ok t s f) := by
  intro u h
  unfold evOn at h
  split at h
  · exact ev_grows hf u h
  · cases h

/-! ### DEV commands -/

theorem setRecoveryQueue_grows {h : Hdr} {q : Nat} {t : State} (hs : Grows s₀ s) (ht : setRecoveryQueue h s q = .ok t) :
    Grows s₀ t := by
  unfold setRecoveryQueue at ht
  obtain ⟨_, -, ht⟩ := bind_eq_ok.1 ht
  obtain ⟨_, -, ht⟩ := bind_eq_ok.1 ht
  obtain ⟨_, -, ht⟩ := bind_eq_ok.1 ht
  split at ht
  · cases ht; exact hs
  · obtain ⟨_, -, ht⟩ := bind_eq_ok.1 ht
    cases ht; exact hs

theorem setConfig_grows {h : Hdr} {key : Nat} {value : Option Nat} {t : State} (hs : Grows s₀ s)
    (ht : setConfig h key value s = .ok t) : Grows s₀ t := by
  unfold setConfig at ht
  split at ht
  · obtain ⟨_, -, ht⟩ := bind_eq_ok.1 ht
    obtain ⟨_, -, ht⟩ := bind_eq_ok.1 ht
    cases ht; exact hs
  · obtain ⟨_, -, ht⟩ := bind_eq_ok.1 ht
    cases ht; exact rekeyTextures_grows hs
  · obtain ⟨_, -, ht⟩ := bind_eq_ok.1 ht
    cases ht; exact hs
  · obtain ⟨_, -, ht⟩ := bind_eq_ok.1 ht
    obtain ⟨_, -, ht⟩ := bind_eq_ok.1 ht
    cases ht; exact hs
  · exact setRecoveryQueue_grows hs ht
  · cases ht; exact hs
  · obtain ⟨_, -, ht⟩ := bind_eq_ok.1 ht
    cases ht; exact hs
  · obtain ⟨_, -, ht⟩ := bind_eq_ok.1 ht
    cases ht; exact hs
  · cases ht

/-! ### ASSET commands -/

theorem hacFail_grows {e : Status × Bool} (hs : Grows s₀ s) : BodyGrows s₀ (hacFail e s) := .ok
    (.opt hs (raise_grows (.refl _)))

theorem execAssetVolumeOpen_grows {h : Hdr} {port slot nsid scratchFirst scratchCount : Nat} {ns : NsFacts} : OutGrows s
    (execAssetVolumeOpen h port slot nsid scratchFirst scratchCount ns s) :=
  mbx_grows fun _ => .bind fun _ _ => .bind fun _ _ => .bind fun _ _ => .bind fun _ _ => .bind fun _ _ => .bind fun _ _ =>
    .bind fun _ _ => .bind fun _ _ => .bind fun _ _ => .bind fun _ _ => .done (.refl _)

theorem execAssetVolumeClose_grows {h : Hdr} {volume : Nat} {force : Bool} : OutGrows s
    (execAssetVolumeClose h volume force s) :=
  mbx_grows fun _ => .bind fun _ _ => .bind fun _ _ => .done (.upd (closeContainers_grows (.refl _)))

theorem execAssetContainerOpen_grows {h : Hdr} {volume offset : Nat} {f : HacFacts} : OutGrows s
    (execAssetContainerOpen h volume offset f s) := by
  refine mbx_grows fun _ => .bind fun _ _ => .bind fun _ _ => .bind fun _ _ => .bind fun _ _ => .bind fun _ _ => ?_
  split
  · exact hacFail_grows (.refl _)
  · exact .done (.refl _)

theorem execAssetContainerClose_grows {h : Hdr} {container : Nat} {force : Bool} : OutGrows s
    (execAssetContainerClose h container force s) :=
  mbx_grows fun _ => .bind fun _ _ => .bind fun _ _ => .done (closeContainers_grows (.refl _))

theorem execAssetRead_grows {h : Hdr} {a : ReadArgs} : OutGrows s (execAssetRead h a s) :=
  mbx_grows fun _ => .bind fun _ _ => .bind fun _ _ => .bind fun _ _ => .bind fun _ _ => .bind fun _ _ => .bind fun _ _ =>
    .bind fun _ _ => .bind fun _ _ => .ok (outstanding_grows (respond_grows (oneSlotLeft_grows (.refl _))))

theorem execAssetInstall_grows {h : Hdr} {src dst srcOffset dstLba : Nat} {f : HacFacts} {chunkOk chunkCrc : Bool} :
    OutGrows s (execAssetInstall h src dst srcOffset dstLba f chunkOk chunkCrc s) := by
  refine mbx_grows fun _ => .bind fun _ _ => .bind fun _ _ => .bind fun _ _ => .bind fun _ _ => .bind fun _ _ => ?_
  split
  · exact hacFail_grows (.refl _)
  · exact .ite .error (.ite .error (.ite (.ok (installFail_grows (.refl _))) (.done (.refl _))))

theorem execAssetStatsRead_grows {h : Hdr} {port : Nat} {clear : Bool} : OutGrows s (execAssetStatsRead h port clear s) :=
  mbx_grows fun _ => .bind fun _ _ => .done (.refl _)

/-! ### Core events -/

theorem execDispatchCycle_grows {c : CycleFacts} : OutGrows s (execDispatchCycle c s) :=
  ev_grows fun _ => grows_ite (.refl _) (.opt (firstRuns_grows (releaseWaiting_grows (selftestRun_grows (grows_foldl (fun _
    _ => flushDue_grows (.refl _)) (streamsGoOn_grows (.refl _)))))) (grows_foldl (fun _ _ => secondRun_grows (.refl _))
    (.refl _)))

theorem execProgressReport_grows {t core pixels : Nat} : OutGrows s (execProgressReport t core pixels s) := by
  unfold execProgressReport
  refine evOn_grows fun s => ?_
  have hs := Grows.refl s
  dsimp only
  split
  · exact hs
  · exact grows_ite hs (flushDue_grows (coreSet_grows hs))

theorem execRunCommit_grows {t core : Nat} {r : RunReport} : OutGrows s (execRunCommit t core r s) := by
  unfold execRunCommit
  refine evOn_grows fun s => ?_
  have hs := Grows.refl s
  split
  · exact hs
  · split
    · exact hs
    · split
      · exact hs
      · refine grows_ite hs ?_
        split
        · exact commitTexture_grows hs
        · split
          · exact hs
          · exact endEncode_grows hs
        · split
          · exact commitDecode_grows hs
          · exact damageRun_grows hs

theorem execCoreFault_grows {t core kind lane : Nat} : OutGrows s (execCoreFault t core kind lane s) := by
  unfold execCoreFault
  refine evOn_grows fun s => ?_
  have hs := Grows.refl s
  split
  · exact grows_ite hs (coreSet_grows (faultRun_grows hs))
  · exact raise_grows (faultRun_grows hs)
  · split
    · exact grows_ite (raise_grows (faultRun_grows (coreSet_grows hs))) hs
    · exact hs
  · exact raise_grows hs
  · exact raise_grows hs

theorem execRunWatchdogExpiry_grows {t core : Nat} : OutGrows s (execRunWatchdogExpiry t core s) := by
  unfold execRunWatchdogExpiry
  refine evOn_grows fun s => ?_
  have hs := Grows.refl s
  split
  · exact hs
  · exact grows_ite hs (raise_grows (faultRun_grows hs))

theorem execLaneTestDone_grows {t core lane : Nat} {pass : Bool} : OutGrows s (execLaneTestDone t core lane pass s) :=
  evOn_grows fun _ => grows_ite (.refl _) (grows_ite (coreBack_grows (raise_grows (.refl _))) (grows_ite (coreOffline_grows
    (loseLane_grows (.refl _))) (coreBack_grows (loseLane_grows (.refl _)))))

theorem execThermalEvaluation_grows {t core : Nat} {temp : Int} : OutGrows s (execThermalEvaluation t core temp s) :=
  evOn_grows fun _ => grows_ite (.refl _) (grows_ite (coreSet_grows (settle_grows (.refl _))) (grows_ite (grows_ite
    (coolCore_grows (settle_grows (.refl _))) (coreSet_grows (settle_grows (.refl _)))) (grows_ite (heatCore_grows
    (settle_grows (.refl _))) (grows_ite (moveStep_grows (settle_grows (.refl _))) (grows_ite (moveStep_grows (settle_grows
    (.refl _))) (coreSet_grows (settle_grows (.refl _))))))))

theorem execSlowCoreCheck_grows {t core : Nat} {r : RateFacts} : OutGrows s (execSlowCoreCheck t core r s) :=
  evOn_grows fun _ => grows_ite (.refl _) (grows_ite (.unless (coreSet_grows (.refl _)) (raise_grows (.refl _)))
    (coreSet_grows (.refl _)))

theorem execPowerCapTick_grows {t onDie covered : Nat} {readings : List (Option Nat)} :
    OutGrows s (execPowerCapTick t onDie covered readings s) := by
  unfold execPowerCapTick
  refine ev_grows fun s => grows_ite (.refl _) ?_
  have h1 : Grows s (telemetryTick covered readings s) := telemetryTick_grows (.refl s)
  generalize telemetryTick covered readings s = s1 at h1 ⊢
  have h3 (a : Array_) : Grows s { s1 with arr := a } := h1.upd
  have h5 (a : Array_) : Grows s (settleAll { s1 with arr := a }) := settleAll_grows (h3 a)
  refine grows_ite (grows_ite (applyFall_grows (h3 _)) (grows_ite (rerateAll_grows (h5 _).upd)
    (event_grows (raise_grows (h3 _))))) ?_
  exact grows_ite (grows_ite (grows_ite (rerateAll_grows (h5 _).upd) (grows_ite (applyRise_grows (h3 _)) (h3 _)))
    (h3 _)) (h3 _)

theorem execLookaheadAnalysisDone_grows {t stream picture cost : Nat} : OutGrows s
    (execLookaheadAnalysisDone t stream picture cost s) := by
  unfold execLookaheadAnalysisDone
  refine ev_grows fun s => ?_
  have hs := Grows.refl s
  split
  · exact hs
  · exact grows_ite hs (releaseWaiting_grows (stSet_grows hs))

theorem execLaGuardRelease_grows {t stream job : Nat} : OutGrows s (execLaGuardRelease t stream job s) := by
  unfold execLaGuardRelease
  refine ev_grows fun s => ?_
  have hs := Grows.refl s
  split
  · exact hs
  · split
    · exact hs
    · exact grows_ite (releaseWaiting_grows (stCount_grows (setJob_grows hs))) hs

/-! ### PIN, POWER and DIAG -/

theorem execPinClaim_grows {h : Hdr} {kind : Nat} {index : Option Nat} : OutGrows s (execPinClaim h kind index s) :=
  mbx_grows fun _ => .bind fun _ _ => .bind fun _ _ => .done (grows_ite (.refl _) (pinGive_grows (.refl _)))

theorem execPinRelease_grows {h : Hdr} {kind : Nat} {force : Bool} {index : Nat} : OutGrows s
    (execPinRelease h kind force index s) :=
  mbx_grows fun _ => .bind fun _ _ => .bind fun _ _ => .bind fun _ _ => .done (pinFree_grows (.refl _))

theorem execPinQuery_grows {h : Hdr} {kind index : Nat} : OutGrows s (execPinQuery h kind index s) :=
  mbx_grows fun _ => .bind fun _ _ => .done (.refl _)

theorem execPinGpioSet_grows {h : Hdr} {gpio dir level : Nat} : OutGrows s (execPinGpioSet h gpio dir level s) :=
  mbx_grows fun _ => .bind fun _ _ => .bind fun _ _ => .done (.refl _)

theorem execPinGpioRead_grows {h : Hdr} {gpio : Nat} {ballIn : Bool} : OutGrows s (execPinGpioRead h gpio ballIn s) :=
  mbx_grows fun _ => .bind fun _ _ => .bind fun _ _ => .done (.refl _)

theorem execPowerCapSet_grows {h : Hdr} {capMw : Nat} : OutGrows s (execPowerCapSet h capMw s) :=
  mbx_grows fun _ => .bind fun _ _ => .done (.refl _)

theorem execPowerQuery_grows {h : Hdr} : OutGrows s (execPowerQuery h s) := by
  refine mbx_grows fun _ => .done ?_
  split
  · split <;> exact .refl _
  · refine .upd ?_
    split <;> exact .refl _

theorem execPowerTelemetrySet_grows {h : Hdr} {index smbusAddr device rail : Nat} : OutGrows s
    (execPowerTelemetrySet h index smbusAddr device rail s) :=
  mbx_grows fun _ => .bind fun _ _ => .done (.refl _)

theorem execDiagCoreStats_grows {h : Hdr} {clear : Bool} : OutGrows s (execDiagCoreStats h clear s) :=
  mbx_grows fun _ => .done (.upd (grows_foldl (fun _ _ => coreSet_grows (.refl _)) (settleCores_grows (.refl _))))

theorem execDiagSelftest_grows {h : Hdr} {laneFail : List (Nat × Nat)} : OutGrows s (execDiagSelftest h laneFail s) :=
  mbx_grows fun _ => .bind fun _ _ => .ok (selftestRun_grows (.upd (outstanding_grows (.refl _))))

theorem execDiagTempRead_grows {h : Hdr} : OutGrows s (execDiagTempRead h s) :=
  mbx_grows fun _ => .ite .error (.done (.refl _))

theorem execDiagTraceRead_grows {h : Hdr} {maxBytes addr : Nat} : OutGrows s (execDiagTraceRead h maxBytes addr s) :=
  mbx_grows fun _ => .bind fun _ _ => .done (.upd (.refl _))

/-! ### Events of a port -/

theorem execArbitrationAttempt_grows {t : Nat} {p : BusPort} {others : List Nat} {a : AttemptFacts} : OutGrows s
    (execArbitrationAttempt t p others a s) :=
  ev_grows fun _ => attempt_grows (takeAhead_grows (.refl _))

theorem execFrameReceive_grows {t : Nat} {p : BusPort} {f : Frame} {err : Option WireErr} :
    OutGrows s (execFrameReceive t p f err s) :=
  ev_grows fun _ => wireFrame_grows (.refl _)

theorem execCreditRx_grows {t src flow openId total : Nat} {p : BusPort} : OutGrows s
    (execCreditRx t p src flow openId total s) :=
  ev_grows fun _ => creditFrame_grows (.refl _)

theorem execFlowOpenRx_grows {t : Nat} {p : BusPort} {src flow startSeq openId : Nat} {auth : Bool} : OutGrows s
    (execFlowOpenRx t p src flow startSeq openId auth s) :=
  ev_grows fun _ => grows_ite (.refl _) (grows_ite (portCount_grows (.refl _)) (grows_ite (raise_grows (.refl _))
    (reopenRx_grows (dedupPut_grows (.refl _)))))

theorem execFlowOpenRepeat_grows {t : Nat} {p : BusPort} {flow : Nat} : OutGrows s (execFlowOpenRepeat t p flow s) := by
  refine ev_grows fun _ => grows_foldl (fun _ _ => mbSendOpen_grows (.refl _)) ?_
  split
  · exact grows_ite (sendOpens_grows (txMod_grows (.refl _))) (.refl _)
  · exact .refl _

theorem execCreditRefresh_grows {t : Nat} {p : BusPort} {flow : Nat} : OutGrows s (execCreditRefresh t p flow s) := by
  unfold execCreditRefresh
  refine ev_grows fun s => ?_
  have hs := Grows.refl s
  dsimp only
  split
  · exact hs
  · exact grows_ite hs (grows_foldl (fun _ _ => sendCredit_grows (.refl _)) (sweepFlow_grows (setPort_grows hs)))

theorem execHoldoffExpiry_grows {t : Nat} {p : BusPort} {flow : Nat} : OutGrows s (execHoldoffExpiry t p flow s) :=
  ev_grows fun _ => txMod_grows (.refl _)

theorem execDedupAgeExpiry_grows {t : Nat} {p : BusPort} {src flow : Nat} : OutGrows s (execDedupAgeExpiry t p src flow s) :=
  ev_grows fun _ => setPort_grows (.refl _)

theorem execHeadFrameAged_grows {t : Nat} {p : BusPort} {flow : Nat} : OutGrows s (execHeadFrameAged t p flow s) := by
  refine ev_grows fun _ => grows_foldl (fun _ _ => endMb_grows (.refl _)) ?_
  split
  · exact grows_ite (stallFlow_grows (.refl _)) (.refl _)
  · exact .refl _

theorem execOpenTimeoutExpiry_grows {t : Nat} {p : BusPort} {flow : Nat} : OutGrows s (execOpenTimeoutExpiry t p flow s) :=
    by
  unfold execOpenTimeoutExpiry
  refine ev_grows fun s => ?_
  have hs := Grows.refl s
  dsimp only
  split
  · exact hs
  · exact grows_ite (setOpen_grows (abandonOpen_grows hs)) hs

theorem execHostTimeLaunch_grows {t : Nat} {p : BusPort} {flow : Nat} : OutGrows s (execHostTimeLaunch t p flow s) := by
  unfold execHostTimeLaunch
  refine ev_grows fun s => ?_
  have hs := Grows.refl s
  split
  · exact hs
  · refine grows_ite hs ?_
    split
    · exact hs
    · exact grows_ite hs (grows_ite (txMod_grows hs) (lateLaunch_grows hs))

theorem execIntegrationDone_grows {t : Nat} {p : BusPort} : OutGrows s (execIntegrationDone t p s) :=
  ev_grows fun _ => grows_ite (setPort_grows (.refl _)) (.refl _)

theorem execPortDisableAtIdle_grows {t : Nat} {p : BusPort} : OutGrows s (execPortDisableAtIdle t p s) :=
  ev_grows fun _ => grows_ite (setPort_grows (.refl _)) (.refl _)

theorem execBusoffRecoveryDone_grows {t : Nat} {p : BusPort} {sequences : Nat} : OutGrows s
    (execBusoffRecoveryDone t p sequences s) :=
  ev_grows fun _ => grows_ite (.refl _) (grows_ite (recoverPort_grows (.refl _)) (setPort_grows (.refl _)))

theorem execStuckDominantCutoff_grows {t : Nat} {p : BusPort} : OutGrows s (execStuckDominantCutoff t p s) :=
  ev_grows fun _ => cutOff_grows (.refl _)

theorem execLineHeldDominant_grows {t : Nat} {p : BusPort} : OutGrows s (execLineHeldDominant t p s) :=
  ev_grows fun _ => grows_ite (.refl _) (grows_ite (quietForm_grows (.refl _)) (raise_grows (portCount_grows (setPort_grows
    (quietForm_grows (.refl _))))))

theorem execLineIdleAfterHold_grows {t : Nat} {p : BusPort} : OutGrows s (execLineIdleAfterHold t p s) :=
  ev_grows fun _ => grows_ite (endCond_grows (setPort_grows (.refl _))) (.refl _)

theorem execDataDriverRunaway_grows {t : Nat} {p : BusPort} {own : Bool} : OutGrows s (execDataDriverRunaway t p own s) :=
  ev_grows fun _ => grows_ite (cutOff_grows (.refl _)) (grows_ite (quietForm_grows (.refl _)) (.refl _))

theorem execHoldOffLevelReset_grows {t : Nat} {p : BusPort} : OutGrows s (execHoldOffLevelReset t p s) :=
  ev_grows fun _ => grows_ite (setPort_grows (.refl _)) (.refl _)

theorem execBusWakeDetect_grows {t : Nat} {p : BusPort} {dominantNs : Nat} : OutGrows s
    (execBusWakeDetect t p dominantNs s) :=
  ev_grows fun _ => .unless (grows_ite (.refl _) (.refl _)) (.refl _)

/-! ### BUS commands -/

theorem execBusPortSet_grows {h : Hdr} {port : Nat} {recs : List Rec} : OutGrows s (execBusPortSet h port recs s) :=
  mbx_grows fun _ => .bind fun _ _ => .bind fun _ _ => .bind fun _ _ => .bind fun _ _ => .bind fun _ _ => .bind fun _ _ =>
    .bind fun _ _ => .done (changeMode_grows (changeEnable_grows (changeTerm_grows (setPort_grows (.refl _)))))

theorem execBusPortQuery_grows {h : Hdr} {port : Nat} : OutGrows s (execBusPortQuery h port s) := by
  refine mbx_grows fun s => .bind fun p _ => .done (.updKeel (.refl s) ?_)
  cases p <;> exact le_rfl

theorem execBusPortRecover_grows {h : Hdr} {port : Nat} : OutGrows s (execBusPortRecover h port s) :=
  mbx_grows fun _ => .bind fun _ _ => .ite (.done (.refl _)) (.bind fun _ _ => .ok (startRecover_grows (outstanding_grows
    (.refl _))))

theorem execBusWake_grows {h : Hdr} {port : Nat} : OutGrows s (execBusWake h port s) :=
  mbx_grows fun _ => .bind fun _ _ => .bind fun _ _ => .done (setPort_grows (.refl _))

theorem execBusStatsRead_grows {h : Hdr} {port : Nat} {clear : Bool} : OutGrows s (execBusStatsRead h port clear s) :=
  mbx_grows fun _ => .bind fun _ _ => .done (grows_ite (setPort_grows (.refl _)) (.refl _))

theorem execBusPortStatsClear_grows {h : Hdr} {port : Nat} : OutGrows s (execBusPortStatsClear h port s) :=
  mbx_grows fun _ => .bind fun _ _ => .done (setPort_grows (.refl _))

theorem execBusFlowCreate_grows {h : Hdr} {recs : List Rec} : OutGrows s (execBusFlowCreate h recs s) :=
  mbx_grows fun _ => .bind fun _ _ => .bind fun _ _ => .bind fun _ _ => .bind fun _ _ => .bind fun _ _ => .bind fun _ _ =>
    .bind fun _ _ => .bind fun _ _ => .bind fun _ _ => .bind fun _ _ => .bind fun _ _ => .bind fun _ _ => .done (grows_ite
    (createTx_grows (.refl _)) (createRx_grows (.refl _)))

theorem execBusFlowSet_grows {h : Hdr} {port flow : Nat} {recs : List Rec} : OutGrows s (execBusFlowSet h port flow recs s)
    :=
  mbx_grows fun _ => .bind fun _ _ => .bind fun _ _ => .bind fun _ _ => .bind fun _ _ => .bind fun _ _ => .bind fun _ _ =>
    .bind fun _ _ => .bind fun _ _ => .done (grows_ite (setTx_grows (.refl _)) (sweepFlow_grows (setPort_grows (.refl _))))

theorem execBusFlowResume_grows {h : Hdr} {port : Nat} {dropHead : Bool} {flow : Nat} : OutGrows s
    (execBusFlowResume h port dropHead flow s) :=
  mbx_grows fun _ => .bind fun _ _ => .bind fun _ _ => .done (.opt (wakeFlow_grows (grows_ite (dropFlowHead_grows (.refl
    _)) (.refl _))) (openFlow_grows (.refl _)))

theorem execBusFlowDestroy_grows {h : Hdr} {port : Nat} {force : Bool} {flow : Nat} : OutGrows s
    (execBusFlowDestroy h port force flow s) := by
  refine mbx_grows fun _ => .bind fun _ _ => .bind fun _ _ => ?_
  split
  · exact .done (removeFlow_grows (.refl _))
  · exact .bind fun _ _ => .done (freeQueue_grows (removeFlow_grows (.refl _)))

theorem execBusFlowStats_grows {h : Hdr} {port : Nat} {clear : Bool} {flow : Nat} : OutGrows s
    (execBusFlowStats h port clear flow s) :=
  mbx_grows fun _ => .bind fun _ _ => .done (grows_ite (setPort_grows (.refl _)) (.refl _))

theorem execBusMbSet_grows {h : Hdr} {port mb : Nat} {recs : List Rec} : OutGrows s (execBusMbSet h port mb recs s) := by
  unfold execBusMbSet
  refine mbx_grows fun s => .bind fun p _ => .bind fun _ _ => .bind fun old _ => ?_
  extract_lets g take
  have htake : ∀ tx, BodyGrows s (take tx) := by
    intro tx
    refine .bind fun _ _ => .bind fun _ _ => ?_
    refine .ite (.bind fun _ _ => ?_) (.bind fun _ _ => ?_)
    all_goals
      dsimp only
      split
      · exact .bind fun _ _ => .done (setPort_grows (.refl s))
      · split <;> exact .bind fun _ _ => .done (setPort_grows (.refl s))
  split <;> exact .bind fun _ _ => htake _

theorem execBusMbSend_grows {h : Hdr} {port mb len : Nat} {payload : List Byte} : OutGrows s
    (execBusMbSend h port mb len payload s) :=
  mbx_grows fun _ => .bind fun _ _ => .bind fun _ _ => .bind fun _ _ => .bind fun _ _ => .bind fun _ _ => .bind fun _ _ =>
    .ok (openMb_grows (loadMb_grows (outstanding_grows (.refl _))))

theorem execBusMbRead_grows {h : Hdr} {port mb : Nat} : OutGrows s (execBusMbRead h port mb s) := by
  refine mbx_grows fun _ => .bind fun _ _ => .bind fun _ _ => .bind fun _ _ => .bind fun _ _ => ?_
  split
  · exact .error
  · exact .done (setPort_grows (.refl _))

theorem execBusMbRelease_grows {h : Hdr} {port mb : Nat} : OutGrows s (execBusMbRelease h port mb s) :=
  mbx_grows fun _ => .bind fun _ _ => .bind fun _ _ => .bind fun _ _ => .done (setPort_grows (.refl _))

theorem execBusFilterSet_grows {h : Hdr} {port entry : Nat} {recs : List Rec} : OutGrows s
    (execBusFilterSet h port entry recs s) :=
  mbx_grows fun _ => .bind fun _ _ => .bind fun _ _ => .bind fun _ _ => .bind fun _ _ => .bind fun _ _ => .ite (.done
    (setPort_grows (.refl _))) (.bind fun _ _ => .done (setPort_grows (.refl _)))

theorem execBusInspectVerdict_grows {h : Hdr} {port verdict flow : Nat} : OutGrows s
    (execBusInspectVerdict h port verdict flow s) := by
  unfold execBusInspectVerdict
  refine mbx_grows fun s => .bind fun p _ => .bind fun _ _ => .bind fun n _ => .bind fun q _ => .bind fun x _ => .bind fun
    _ _ =>
    .bind fun b _ => .ite (.done (dropRestOp_grows (.refl _))) (.ite ?_ ?_)
  · exact .bind fun _ _ => .done (popHead_grows (setPort_grows (.refl _)))
  · dsimp only
    split
    · exact .error
    · exact .done (popHead_grows (commitFlow_grows (.refl _)))

/-! ### Queue events -/

theorem execCellWrite_grows {t q : Nat} {c : CellIn} : OutGrows s (execCellWrite t q c s) := by
  unfold execCellWrite
  refine ev_grows fun s => ?_
  have hs := Grows.refl s
  split
  · exact hs
  · exact grows_ite hs (grows_ite (blockQueue_grows hs) (grows_ite (coreCell_grows (grows_ite (blockFreeList_grows hs) hs))
      (writeCell_grows (grows_ite (blockFreeList_grows hs) hs))))

theorem execCellRead_grows {t q : Nat} {mismatch : Bool} : OutGrows s (execCellRead t q mismatch s) := by
  unfold execCellRead
  refine ev_grows fun s => ?_
  have hs := Grows.refl s
  split
  · exact hs
  · refine grows_ite hs (grows_ite (qSet_grows hs) (grows_ite (qMod_grows (blockQueue_grows hs)) ?_))
    split
    · exact qSet_grows hs
    · split
      · exact qSet_grows hs
      · exact grows_ite (badCell_grows hs) (grows_ite (releaseCell_grows (qSet_grows hs)) (qSet_grows hs))

theorem execDropRest_grows {t q : Nat} {mismatch : Bool} : OutGrows s (execDropRest t q mismatch s) := by
  unfold execDropRest
  refine ev_grows fun s => ?_
  have hs := Grows.refl s
  split
  · exact hs
  · exact grows_ite hs (grows_ite (blockQueue_grows hs) (dropRestOp_grows hs))

theorem execQueueRebuildDone_grows {t q : Nat} {lost : List Nat} : OutGrows s (execQueueRebuildDone t q lost s) := by
  unfold execQueueRebuildDone
  refine ev_grows fun s => ?_
  split
  · exact .refl _
  · next y _ =>
    refine grows_ite (.refl _) ?_
    extract_lets es back gone openLost y' qm s1 s2 s3
    have h1 : Grows s s1 := regrant_grows (noteDepth_grows (qSet_grows (.upd (.refl s))))
    have h2 : Grows s s2 := by
      unfold s2; split
      · exact endOpen_grows h1
      · exact h1
    exact .unless (relinkStreams_grows h2) (raise_grows (.refl _))

theorem execFreeListRebuildDone_grows {t : Nat} : OutGrows s (execFreeListRebuildDone t s) :=
  ev_grows fun _ => (.refl _)

theorem execHistogramSample_grows {t : Nat} : OutGrows s (execHistogramSample t s) :=
  ev_grows fun _ => grows_ite (.refl _) (.refl _)

/-! ### QUEUE commands -/

theorem execQueueCreate_grows {h : Hdr} {q : Option Nat} {d : QWords} : OutGrows s (execQueueCreate h q d s) :=
  mbx_grows fun _ => .bind fun _ _ => .bind fun _ _ => .bind fun _ _ => .bind fun _ _ => .bind fun _ _ => .bind fun _ _ =>
    .done (regrant_grows (qSet_grows (.refl _)))

theorem execQueueSet_grows {h : Hdr} {q mask : Nat} {d : QWords} : OutGrows s (execQueueSet h q mask d s) :=
  mbx_grows fun _ => .bind fun _ _ => .bind fun _ _ => .bind fun _ _ => .bind fun _ _ => .bind fun _ _ => .bind fun _ _ =>
    .bind fun _ _ => .done (regrant_grows (dieOnly_grows (qSet_grows (.refl _))))

theorem execQueueQuery_grows {h : Hdr} {q : Nat} : OutGrows s (execQueueQuery h q s) :=
  mbx_grows fun _ => .bind fun _ _ => .done (.refl _)

theorem execQueueDestroy_grows {h : Hdr} {q : Nat} {force : Bool} : OutGrows s (execQueueDestroy h q force s) :=
  mbx_grows fun _ => .bind fun _ _ => .bind fun _ _ => .bind fun _ _ => .done (freeQueue_grows (.refl _))

theorem execQueueAck_grows {h : Hdr} {q mask : Nat} : OutGrows s (execQueueAck h q mask s) :=
  mbx_grows fun _ => .bind fun _ _ => .bind fun _ _ => .done (rearm_grows (rearm_grows (qSet_grows (.refl _))))

theorem execQueueQuotaSet_grows {h : Hdr} {fn cells : Nat} : OutGrows s (execQueueQuotaSet h fn cells s) :=
  mbx_grows fun _ => .bind fun _ _ => .bind fun _ _ => .bind fun _ _ => .done (.refl _)

theorem execQueueStatsRead_grows {h : Hdr} {q : Nat} {clear : Bool} : OutGrows s (execQueueStatsRead h q clear s) :=
  mbx_grows fun _ => .bind fun _ _ => .done (qSet_grows (.refl _))

theorem execQueueHistSet_grows {h : Hdr} {q metric : Nat} {edges : List Nat} : OutGrows s
    (execQueueHistSet h q metric edges s) := by
  refine mbx_grows fun _ => .bind fun _ _ => .bind fun _ _ => .bind fun _ _ => .ite ?_ (.bind fun _ _ => ?_)
  · split
    · exact .error
    · exact .done (.upd (qSet_grows (.refl _)))
  · split
    · exact .error
    · exact .done (.upd (qSet_grows (.refl _)))

theorem execQueueHistRead_grows {h : Hdr} {q : Nat} {clear : Bool} : OutGrows s (execQueueHistRead h q clear s) := by
  refine mbx_grows fun _ => .bind fun _ _ => ?_
  split
  · exact .error
  · exact .done (grows_ite (.refl _) (.refl _))

theorem execQueueRingSet_grows {h : Hdr} {a : RingArgs} : OutGrows s (execQueueRingSet h a s) :=
  mbx_grows fun _ => .bind fun _ _ => .bind fun _ _ => .bind fun _ _ => .bind fun _ _ => .ite (.bind fun _ _ => .done
    (qMod_grows (grows_ite (flushBatch_grows (.refl _)) (.refl _)))) (.bind fun _ _ => .bind fun _ _ => .done (qSet_grows
    (.refl _)))

/-! ### Anchor and tree events -/

theorem execBusTraverseSet_grows {h : Hdr} {recs : List Rec} : OutGrows s (execBusTraverseSet h recs s) :=
  mbx_grows fun _ => .bind fun _ _ => .bind fun _ _ => .done (settleTraverse_grows (.refl _))

theorem execBusAnchorSet_grows {h : Hdr} {recs : List Rec} : OutGrows s (execBusAnchorSet h recs s) :=
  mbx_grows fun _ => .bind fun _ _ => .bind fun _ _ => .bind fun _ _ => .bind fun _ _ => .done (settleTraverse_grows
    (anchorMod_grows (.opt (grows_ite (.refl _) (clearLink_grows (.refl _))) (anchorMod_grows (.refl _)))))

theorem execBusAnchorQuery_grows {h : Hdr} {port : Nat} : OutGrows s (execBusAnchorQuery h port s) :=
  mbx_grows fun _ => .bind fun _ _ => .bind fun _ _ => .done (.refl _)

theorem execBusAnchorTakeover_grows {h : Hdr} {port : Nat} : OutGrows s (execBusAnchorTakeover h port s) :=
  mbx_grows fun _ => .bind fun _ _ => .bind fun _ _ => .done (grows_ite (.refl _) (takeOver_grows (.refl _)))

theorem execBusGlobalIssue_grows {h : Hdr} {msg arg : Nat} : OutGrows s (execBusGlobalIssue h msg arg s) := by
  unfold execBusGlobalIssue
  refine mbx_grows fun s => .bind fun _ _ => .bind fun _ _ => ?_
  split
  · next p _ => exact .bind fun _ _ => .done (.opt (issueOp_grows (.refl s)) (settleBarrier_grows (.refl _)))
  · refine .bind fun _ _ => .ok (outstanding_grows (.upd ?_))
    exact sendGop_grows (.refl s)

theorem execBusBarrierArrive_grows {h : Hdr} {barrier : Nat} : OutGrows s (execBusBarrierArrive h barrier s) :=
  mbx_grows fun _ => .bind fun _ _ => .ok (settleBarrier_grows (barrierPut_grows (outstanding_grows (.refl _))))

theorem execHeartbeatTx_grows {t : Nat} {p : BusPort} : OutGrows s (execHeartbeatTx t p s) :=
  ev_grows fun _ => grows_ite (.refl _) (queueCtl_grows (setPort_grows (.refl _)))

theorem execHeartbeatRx_grows {t : Nat} {p : BusPort} {hb : Heartbeat} : OutGrows s (execHeartbeatRx t p hb s) :=
  ev_grows fun _ => grows_ite (.refl _) (grows_ite (grows_ite (.refl _) (anchorEvent_grows (raise_grows (.refl _))))
    (enrollNew_grows (.opt (hearPartner_grows (setPort_grows (countPrimary_grows (.refl _)))) (autoFollow_grows (.refl _)))))

theorem execPrimarySilentSwitch_grows {t : Nat} {p : BusPort} : OutGrows s (execPrimarySilentSwitch t p s) :=
  ev_grows fun _ => grows_ite (autoFollow_grows (.refl _)) (.refl _)

theorem execPartnerSilent_grows {t : Nat} {p : BusPort} : OutGrows s (execPartnerSilent t p s) :=
  ev_grows fun _ => grows_ite (.refl _) (grows_ite (setLink_grows (anchorMod_grows (.refl _))) (.unless (anchorMod_grows
    (.refl _)) (anchorMod_grows (.refl _))))

theorem execAnchorTakeoverCheck_grows {t : Nat} {p : BusPort} : OutGrows s (execAnchorTakeoverCheck t p s) :=
  ev_grows fun _ => grows_ite (.refl _) (grows_ite (anchorMod_grows (setLink_grows (.refl _))) (grows_ite
    (anchorEvent_grows (hostMiss_grows (anchorMod_grows (.refl _)))) (takeOver_grows (.refl _))))

theorem execMemberHeartbeatAgeOut_grows {t : Nat} {p : BusPort} {node : Nat} : OutGrows s
    (execMemberHeartbeatAgeOut t p node s) := by
  unfold execMemberHeartbeatAgeOut
  refine ev_grows fun s => ?_
  have hs := Grows.refl s
  dsimp only
  split
  · exact hs
  · exact grows_ite hs (grows_foldl (fun _ _ => settleBarrier_grows (.refl _)) (.upd (abortEnroll_grows (setPort_grows hs))))

theorem execGopRequestRx_grows {t : Nat} {p : BusPort} {op : GlobalOp} : OutGrows s (execGopRequestRx t p op s) := by
  refine ev_grows fun _ => grows_ite (.refl _) ?_
  split
  · exact .refl _
  · exact .opt (issueOp_grows (.refl _)) (settleBarrier_grows (.refl _))

theorem execGlobalOpRx_grows {t : Nat} {p : BusPort} {op : GlobalOp} : OutGrows s (execGlobalOpRx t p op s) :=
  ev_grows fun _ => grows_ite (takeOp_grows (answerIssue_grows (.refl _))) (.refl _)

theorem execGlobalOpExecute_grows {t src opId : Nat} : OutGrows s (execGlobalOpExecute t src opId s) := by
  unfold execGlobalOpExecute
  refine ev_grows fun s => ?_
  have hs := Grows.refl s
  split
  · exact hs
  · split
    · exact hs
    · exact runOp_grows hs

theorem execGlobalIssueTimeout_grows {t tag : Nat} : OutGrows s (execGlobalIssueTimeout t tag s) := by
  unfold execGlobalIssueTimeout
  refine ev_grows fun s => ?_
  have hs := Grows.refl s
  split
  · exact hs
  · exact grows_ite hs (endLongs_grows hs)

theorem execBarrierReportRx_grows {t : Nat} {p : BusPort} {src barrier : Nat} {partial_ : Bool} : OutGrows s
    (execBarrierReportRx t p src barrier partial_ s) := by
  unfold execBarrierReportRx
  refine ev_grows fun s => ?_
  have hs := Grows.refl s
  split
  · exact hs
  · exact grows_ite hs (settleBarrier_grows (barrierPut_grows hs))

theorem execBarrierTimeout_grows {t barrier : Nat} : OutGrows s (execBarrierTimeout t barrier s) := by
  unfold execBarrierTimeout
  refine ev_grows fun s => ?_
  have hs := Grows.refl s
  split
  · exact grows_ite (issueOp_grows (barrierPut_grows hs)) hs
  · exact hs

/-! ### SCHED commands -/

theorem execSchedHostSet_grows {h : Hdr} {recs : List Rec} : OutGrows s (execSchedHostSet h recs s) :=
  mbx_grows fun _ => .bind fun _ _ => .done (.refl _)

theorem execSchedFnSet_grows {h : Hdr} {fn : Nat} {reset : Bool} {recs : List Rec} : OutGrows s
    (execSchedFnSet h fn reset recs s) :=
  mbx_grows fun _ => .bind fun _ _ => .bind fun _ _ => .bind fun _ _ => .bind fun _ _ => .done (.refl _)

theorem execSchedStatsRead_grows {h : Hdr} {clear : Bool} : OutGrows s (execSchedStatsRead h clear s) :=
  mbx_grows fun _ => .bind fun _ _ => .done (grows_ite (.refl _) (.refl _))

theorem execSchedShaperSet_grows {h : Hdr} {shaper : Option Nat} {recs : List Rec} : OutGrows s
    (execSchedShaperSet h shaper recs s) := by
  refine mbx_grows fun _ => .bind fun _ _ => .bind fun _ _ => .bind fun _ _ => ?_
  split
  · exact .bind fun _ _ => .done (.refl _)
  · exact .bind fun _ _ => .bind fun _ _ => .done (.refl _)

theorem execSchedShaperBind_grows {h : Hdr} {shaper : Option Nat} {port kind id : Nat} : OutGrows s
    (execSchedShaperBind h shaper port kind id s) := by
  refine mbx_grows fun _ => .bind fun _ _ => .bind fun _ _ => ?_
  split
  · exact .bind fun _ _ => .done (setPort_grows (.refl _))
  · exact .bind fun _ _ => .bind fun _ _ => .bind fun _ _ => .done (.upd (setPort_grows (.refl _)))

theorem execSchedShaperReset_grows {h : Hdr} {shaper : Nat} : OutGrows s (execSchedShaperReset h shaper s) :=
  mbx_grows fun _ => .bind fun _ _ => .done (.refl _)

theorem execSchedShaperRelease_grows {h : Hdr} {shaper : Nat} : OutGrows s (execSchedShaperRelease h shaper s) :=
  mbx_grows fun _ => .bind fun _ _ => .bind fun _ _ => .done (.refl _)

theorem execSchedPolicerSet_grows {h : Hdr} {policer : Option Nat} {recs : List Rec} : OutGrows s
    (execSchedPolicerSet h policer recs s) := by
  refine mbx_grows fun _ => .bind fun _ _ => .bind fun _ _ => ?_
  split
  · exact .bind fun _ _ => .done (.refl _)
  · exact .bind fun _ _ => .bind fun _ _ => .done (.refl _)

theorem execSchedPolicerReset_grows {h : Hdr} {policer : Nat} {force : Bool} : OutGrows s
    (execSchedPolicerReset h policer force s) :=
  mbx_grows fun _ => .bind fun _ _ => .bind fun _ _ => .bind fun _ _ => .bind fun _ _ => .done (.refl _)

theorem execSchedGateSet_grows {h : Hdr} {port : Nat} {list : GateList} : OutGrows s (execSchedGateSet h port list s) :=
  mbx_grows fun _ => .bind fun _ _ => .bind fun _ _ => .bind fun _ _ => .bind fun _ _ => .ite (.ok (outstanding_grows
    (gatesMod_grows (.refl _)))) (.done (gatesMod_grows (.refl _)))

theorem execSchedGateStart_grows {h : Hdr} {port : Nat} : OutGrows s (execSchedGateStart h port s) := by
  refine mbx_grows fun _ => .bind fun _ _ => .bind fun _ _ => .bind fun _ _ => .bind fun _ _ => ?_
  split
  · exact .error
  · exact .done (.opt (gatesMod_grows (.refl _)) (event_grows (.refl _)))

theorem execSchedGateStop_grows {h : Hdr} {port : Nat} : OutGrows s (execSchedGateStop h port s) :=
  mbx_grows fun _ => .bind fun _ _ => .bind fun _ _ => .bind fun _ _ => .ok (.opt (outstanding_grows (gatesMod_grows (.refl
    _))) (stopList_grows (.refl _)))

theorem execSchedGateClass_grows {h : Hdr} {port cls : Nat} {gate : Option Nat} : OutGrows s
    (execSchedGateClass h port cls gate s) :=
  mbx_grows fun _ => .bind fun _ _ => .bind fun _ _ => .bind fun _ _ => .bind fun _ _ => .done (setPort_grows (.refl _))

theorem execGateEntryBoundary_grows {t : Nat} {p : BusPort} : OutGrows s (execGateEntryBoundary t p s) := by
  unfold execGateEntryBoundary
  refine ev_grows fun s => ?_
  have hs := Grows.refl s
  dsimp only
  split
  · exact hs
  · refine grows_ite hs ?_
    split
    · exact hs
    · exact grows_ite (stopList_grows (swapList_grows hs)) hs

theorem execSchedLatencySet_grows {h : Hdr} {q limit : Nat} : OutGrows s (execSchedLatencySet h q limit s) :=
  mbx_grows fun _ => .bind fun _ _ => .bind fun _ _ => .bind fun _ _ => .done (qSet_grows (.refl _))

theorem execSchedLatencyRead_grows {h : Hdr} {q : Nat} {clear ack : Bool} : OutGrows s
    (execSchedLatencyRead h q clear ack s) :=
  mbx_grows fun _ => .bind fun _ _ => .bind fun _ _ => .done (qSet_grows (.refl _))

/-! ### CHECK commands -/

theorem execCheckSet_grows {h : Hdr} {unit : Option Nat} {recs : List Rec} : OutGrows s (execCheckSet h unit recs s) := by
  refine mbx_grows fun _ => .bind fun _ _ => .bind fun _ _ => .bind fun _ _ => ?_
  split
  · exact .ite (.done (setUnit_grows (.refl _))) (.bind fun _ _ => .bind fun _ _ => .bind fun _ _ => .done (setUnit_grows
      (.refl _)))
  · exact .done (setUnit_grows (.refl _))

theorem execCheckRun_grows {h : Hdr} {unit lastBits addr : Nat} {start finish noAppend readOk parityOk : Bool}
    {data : List Byte} :
    OutGrows s (execCheckRun h unit start finish noAppend lastBits addr data readOk parityOk s) := by
  unfold execCheckRun
  refine mbx_grows fun s => .bind fun _ _ => .bind fun u _ => .bind fun _ _ => .bind fun _ _ => .bind fun _ _ => .bind fun
    _ _ =>
    .ite (.ok (setUnit_grows ?_)) (.ite ?_ (.done (setUnit_grows (.refl _))))
  · exact takeFree_grows (.unless (.refl _) (readFailed_grows (.refl _)))
  · exact fun t r ht => by
      have := finishRun_grows (h := h) (n := unit) (addr := addr) (len := data.length) (noAppend := noAppend)
        (u := unitFeedBytes lastBits data (if start then unitStart u else u)) (.refl s)
      rw [Except.ok.inj ht] at this
      exact this

theorem execCheckStateRead_grows {h : Hdr} {unit : Nat} : OutGrows s (execCheckStateRead h unit s) :=
  mbx_grows fun _ => .bind fun _ _ => .bind fun _ _ => .done (.refl _)

theorem execCheckStateWrite_grows {h : Hdr} {unit : Nat} {ctx : CrcCtx} : OutGrows s (execCheckStateWrite h unit ctx s) :=
  mbx_grows fun _ => .bind fun _ _ => .bind fun _ _ => .bind fun _ _ => .done (setUnit_grows (.refl _))

theorem execCheckRelease_grows {h : Hdr} {unit : Nat} {force : Bool} : OutGrows s (execCheckRelease h unit force s) :=
  mbx_grows fun _ => .bind fun _ _ => .bind fun _ _ => .done (.refl _)

theorem execCheckFeedPacket_grows {t : Nat} {f : FeedFacts} : OutGrows s (execCheckFeedPacket t f s) := by
  unfold execCheckFeedPacket
  refine evOn_grows fun s => ?_
  have hs := Grows.refl s
  split
  · exact hs
  · split
    · exact hs
    · split
      · exact hs
      · refine grows_ite hs ?_
        split
        · exact hs
        · exact grows_ite (feedAborted_grows (badCell_grows hs)) (grows_ite (feedAborted_grows hs) (grows_ite (grows_ite
            (feedWhole_grows hs) (feedSpoilt_grows hs)) hs))

/-! ### Decode events -/

theorem execSliceIntake_grows {t stream height : Nat} {refs : List Nat} : OutGrows s
    (execSliceIntake t stream height refs s) := by
  unfold execSliceIntake
  refine ev_grows fun s => ?_
  split
  · exact .refl _
  · next x _ =>
    refine grows_ite (.refl _) ?_
    have hw := headWhole_grows (n := fnat x.f 0x7208 0) (.refl s)
    dsimp only
    split
    next heq => rw [heq] at hw; exact hw
    next heq =>
      rw [heq] at hw
      split
      · exact intakePkt_grows (stSet_grows hw)
      · exact damageIntake_grows (stSet_grows hw)
      · exact damageIntake_grows (stSet_grows hw)
      · refine stMod_grows (dropRestOp_grows ?_)
        split
        · exact setJob_grows (stopJobRuns_grows (stSet_grows hw))
        · exact stSet_grows hw
      · exact dropRestOp_grows (stSet_grows hw)

theorem execDisplayConcealment_grows {t stream : Nat} : OutGrows s (execDisplayConcealment t stream s) := by
  unfold execDisplayConcealment
  refine ev_grows fun s => ?_
  have hs := Grows.refl s
  split
  · exact hs
  · exact grows_ite hs (takeArea_grows (stMod_grows (stCount_grows (grows_ite (hostMiss_grows (stCount_grows hs)) hs))))

theorem execLateLimitExpiry_grows {t stream : Nat} : OutGrows s (execLateLimitExpiry t stream s) := by
  unfold execLateLimitExpiry
  refine ev_grows fun s => ?_
  have hs := Grows.refl s
  split
  · exact hs
  · refine grows_ite hs ?_
    split
    · exact hs
    · exact damage_grows (stMod_grows (setJob_grows (stopJobRuns_grows hs)))

theorem execConcealmentDone_grows {t stream : Nat} : OutGrows s (execConcealmentDone t stream s) := by
  unfold execConcealmentDone
  refine ev_grows fun s => ?_
  have h1 := takeArea_grows (.refl s)
  dsimp only
  split
  · exact h1
  · split
    · exact h1
    · exact grows_ite h1 (takeArea_grows (concealArea_grows (.upd h1)))

theorem execRecoveryRepeat_grows {t stream : Nat} : OutGrows s (execRecoveryRepeat t stream s) := by
  unfold execRecoveryRepeat
  refine ev_grows fun s => ?_
  have hs := Grows.refl s
  split
  · exact hs
  · exact grows_ite hs (stMod_grows (grows_foldl (fun _ _ => announce_grows (.refl _)) hs))

theorem execRecoverMessageRx_grows {t queue : Nat} : OutGrows s (execRecoverMessageRx t queue s) := by
  unfold execRecoverMessageRx
  refine ev_grows fun s => ?_
  split
  · exact .refl _
  · next q _ =>
    refine grows_ite (.refl _) ?_
    have hw := headWhole_grows (n := q) (.refl s)
    split
    next heq => rw [heq] at hw; exact hw
    next heq =>
      rw [heq] at hw
      refine grows_ite (dropRestOp_grows hw) ?_
      have hp := popHead_grows (n := q) hw
      dsimp only
      split
      · exact .upd hp
      · split
        · exact grows_ite (recoverEncode_grows hp) (.upd hp)
        · exact .upd hp

/-! ### DEV commands -/

theorem execDevInfo_grows {h : Hdr} : OutGrows s (execDevInfo h s) :=
  mbx_grows fun _ => .done (.refl _)

theorem execDevConfig_grows {h : Hdr} {key : Nat} {write : Bool} {value : Option Nat} : OutGrows s
    (execDevConfig h key write value s) := by
  unfold execDevConfig
  refine mbx_grows fun s => .bind fun _ _ => ?_
  dsimp only
  split
  · exact .bind fun _ hs' => .done (setConfig_grows (.refl s) hs')
  · exact .bind fun _ hs' => .done (by cases hs'; exact .refl s)

theorem execEngineReset_grows {h : Hdr} : OutGrows s (execEngineReset h s) :=
  mbx_grows fun _ => .ok (askReset_grows (outstanding_grows (.refl _)))

theorem execEngineResetDone_grows {t : Nat} : OutGrows s (execEngineResetDone t s) :=
  ev_grows fun _ => grows_ite (.refl _) (serveRings_grows (endLongs_grows (restartAssets_grows (portsStart_grows
    (rebuildQueues_grows (.refl _))))))

/-- An answer about a submission keeps it in the state that it carries. -/
def SubGrows (s₀ : State) : SubResult → Prop
  | .refuse _ s | .accept _ s => Grows s₀ s
  | .wait => True

theorem subGrows_ite {c : Prop} [Decidable c] {x y : SubResult} (hx : SubGrows s₀ x) (hy : SubGrows s₀ y) :
    SubGrows s₀ (if c then x else y) := by
  split <;> assumption

/-! ### Submission rings -/

theorem takeJob_grows {n idx : Nat} {x : Stream} {data : List Byte} {refs : List Nat} (hs : Grows s₀ s) :
    SubGrows s₀ (takeJob n x data idx refs s) := by
  unfold takeJob
  refine subGrows_ite hs ?_
  split
  · exact .unless hs (hostMiss_grows (stCount_grows (.refl _)))
  · next dl _ =>
    refine subGrows_ite hs ?_
    have ha := addJob_grows (n := n) (data := data) (j := jobOf x (parseJob data) data dl idx refs) hs
    split
    next heq => rw [heq] at ha; exact releaseWaiting_grows (noteHostGaps_grows (stMod_grows ha))
    · trivial

theorem takePacket_grows {q : Nat} {data : List Byte} {i : PktInfo} (hs : Grows s₀ s) : SubGrows s₀ (takePacket q data i s)
    := by
  unfold takePacket
  split
  · trivial
  · exact subGrows_ite (writePacket_grows hs) trivial

theorem acceptEntry_grows {q idx : Nat} {y : Queue} {r : DRing} {e : SubEntry} (hs : Grows s₀ s) :
    SubGrows s₀ (acceptEntry q y r e idx s) := by
  unfold acceptEntry
  refine subGrows_ite ?_ (subGrows_ite (takePacket_grows hs) (takePacket_grows hs))
  split
  · exact takeJob_grows hs
  · exact hs

theorem readEntry_grows {q idx : Nat} {y : Queue} {r : DRing} {e : SubEntry} (hs : Grows s₀ s) :
    SubGrows s₀ (readEntry q y r e idx s) := by
  have h1 {k : Nat} : Grows s₀ ((List.range k).foldl (fun s _ => readFailed (qFn y.w) s) s) :=
    grows_foldl (fun _ _ => readFailed_grows (.refl _)) hs
  exact subGrows_ite (acceptEntry_grows hs) (subGrows_ite trivial (subGrows_ite h1 (acceptEntry_grows h1)))

theorem takeSubmission_grows {q idx : Nat} {y : Queue} {r : DRing} {e : SubEntry} (hs : Grows s₀ s) :
    SubGrows s₀ (takeSubmission q y r e idx s) := by
  unfold takeSubmission
  refine subGrows_ite hs (subGrows_ite trivial ?_)
  dsimp only
  split
  · exact grows_ite (hostMiss_grows hs) hs
  · exact readEntry_grows hs

theorem execSubmissionFetch_grows {t q : Nat} {e : SubEntry} : OutGrows s (execSubmissionFetch t q e s) := by
  unfold execSubmissionFetch
  refine ev_grows fun s => ?_
  split
  · exact .refl _
  · split
    · exact .refl _
    · next y _ _ r _ =>
      refine grows_ite (.refl _) ?_
      have ht := takeSubmission_grows (q := q) (idx := r.head) (y := y) (r := r) (e := e) (.refl s)
      split
      · exact .refl _
      next heq => rw [heq] at ht; exact subRefused_grows ht
      next heq => rw [heq] at ht; exact subAccepted_grows ht

/-! ### Writes to host memory -/

theorem execHostLinkWrite_grows {t : Nat} : OutGrows s (execHostLinkWrite t s) := by
  refine ev_grows fun _ => grows_ite (.refl _) ?_
  split
  · exact sendCompl_grows (.refl _)
  · refine grows_ite (.refl _) ?_
    split
    · exact sendUnit_grows (.refl _)
    · exact .refl _

theorem execPacketDelivery_grows {t q bufAddr bufBytes : Nat} : OutGrows s (execPacketDelivery t q bufAddr bufBytes s) := by
  unfold execPacketDelivery
  refine ev_grows fun s => ?_
  have hs := Grows.refl s
  split
  · exact hs
  · split
    · exact hs
    · refine grows_ite hs (grows_ite (smallBuffer_grows hs) ?_)
      split
      · exact hs
      · exact grows_ite (deliver_grows hs) hs

/-! ### Enrollment events -/

theorem execEnrollRecordRx_grows {t : Nat} {port : BusPort} {r : EnrollRec} : OutGrows s (execEnrollRecordRx t port r s) :=
  ev_grows fun _ => grows_ite (.refl _) (grows_ite (grows_ite (grows_ite (takeRemoteKey_grows (.refl _)) (.refl _))
    (authorityRecord_grows (.refl _))) (grows_ite (nodeRecord_grows (.refl _)) (.refl _)))

theorem execEnrollTimeout_grows {t : Nat} {port : BusPort} {node : Nat} : OutGrows s (execEnrollTimeout t port node s) := by
  unfold execEnrollTimeout
  refine ev_grows fun s => ?_
  have hs := Grows.refl s
  split
  · exact grows_ite (repeatEnroll_grows hs) hs
  · exact hs

/-! ### FAULT commands and the collector -/

theorem execFaultSet_grows {h : Hdr} {first last severity reaction timeoutMs : Nat} : OutGrows s
    (execFaultSet h first last severity reaction timeoutMs s) :=
  mbx_grows fun _ => .bind fun _ _ => .bind fun _ _ => .done (grows_foldl (fun _ _ => srcPut_grows (.refl _)) (.refl _))

theorem execFaultThresholdSet_grows {h : Hdr} {faultOk flt : Nat} : OutGrows s (execFaultThresholdSet h faultOk flt s) :=
  mbx_grows fun _ => .bind fun _ _ => .done (.refl _)

theorem execFaultRead_grows {h : Hdr} {which : Nat} : OutGrows s (execFaultRead h which s) :=
  mbx_grows fun _ => .bind fun _ _ => .bind fun _ _ => .done (.refl _)

theorem execFaultLogRead_grows {h : Hdr} {start max : Nat} : OutGrows s (execFaultLogRead h start max s) :=
  mbx_grows fun _ => .bind fun _ _ => .bind fun _ _ => .done (.refl _)

theorem execFaultAck_grows {h : Hdr} {first last : Nat} : OutGrows s (execFaultAck h first last s) :=
  mbx_grows fun _ => .bind fun _ _ => .done (.opt (grows_foldl (fun _ _ => ackSource_grows (.refl _)) (.refl _)) (.refl _))

theorem execFaultCountRead_grows {h : Hdr} {first last : Nat} {clear : Bool} : OutGrows s
    (execFaultCountRead h first last clear s) :=
  mbx_grows fun _ => .bind fun _ _ => .bind fun _ _ => .done (grows_ite (.refl _) (.refl _))

theorem execFaultVerdict_grows {h : Hdr} {logIndex action : Nat} : OutGrows s (execFaultVerdict h logIndex action s) := by
  refine mbx_grows fun _ => .bind fun _ _ => ?_
  split
  · split
    · exact .bind fun _ _ => .done (decideVerdict_grows (.refl _))
    · exact .error
  · exact .error

theorem execFaultXfSet_grows {h : Hdr} {enable : Nat} : OutGrows s (execFaultXfSet h enable s) :=
  mbx_grows fun _ => .bind fun _ _ => .done (.refl _)

theorem execFaultMessage_grows {t : Nat} {msgs : List FaultMsg} : OutGrows s (execFaultMessage t msgs s) :=
  evOn_grows fun _ => takeMessages_grows (integrityLoss_grows (.refl _))

theorem execFaultVerdictTimeout_grows {t source : Nat} : OutGrows s (execFaultVerdictTimeout t source s) := by
  unfold execFaultVerdictTimeout
  refine evOn_grows fun s => ?_
  have hs := Grows.refl s
  split
  · exact hs
  · exact grows_ite hs (raise_grows (hostMiss_grows (decideVerdict_grows hs)))

theorem execLogIntakeDrain_grows {t : Nat} : OutGrows s (execLogIntakeDrain t s) :=
  ev_grows fun _ => (.refl _)

theorem execXfPairChange_grows {t pair : Nat} {tRail cRail : Bool} : OutGrows s (execXfPairChange t pair tRail cRail s) :=
  evOn_grows fun _ => grows_ite (.refl _) (grows_ite (endCond_grows (endCond_grows (.refl _))) (.unless (endCond_grows
    (.refl _)) (raise_grows (.refl _))))

theorem execXfBrokenExpiry_grows {t pair : Nat} : OutGrows s (execXfBrokenExpiry t pair s) :=
  evOn_grows fun _ => grows_ite (.refl _) (raise_grows (.refl _))

theorem execFltReadbackMismatch_grows {t : Nat} : OutGrows s (execFltReadbackMismatch t s) :=
  ev_grows fun _ => grows_ite (.refl _) (raise_grows (.refl _))

theorem execFltReadbackRestored_grows {t : Nat} : OutGrows s (execFltReadbackRestored t s) :=
  ev_grows fun _ => grows_ite (.refl _) (endCond_grows (.refl _))

/-! ### Registers of the host link -/

theorem execMbxDoorbellWrite_grows {t fn : Nat} {warden : Bool} {value : Word} {entries : List ReqEntry} : OutGrows s
    (execMbxDoorbellWrite t fn warden value entries s) :=
  evOn_grows fun _ => grows_ite (ringDoorbell_grows (.refl _)) (.refl _)

theorem execStalePhaseRetry_grows {t fn : Nat} {warden : Bool} {entry : ReqEntry} : OutGrows s
    (execStalePhaseRetry t fn warden entry s) :=
  evOn_grows fun _ => grows_ite (.refl _) (refetch_grows (fetchEntry_grows (.refl _)))

theorem execMbxEnableSet_grows {t fn : Nat} {warden : Bool} {value : Word} : OutGrows s
    (execMbxEnableSet t fn warden value s) :=
  evOn_grows fun _ => grows_ite (enableSet_grows (.refl _)) (.refl _)

theorem execMbxEnableClear_grows {t fn : Nat} {warden : Bool} : OutGrows s (execMbxEnableClear t fn warden s) :=
  evOn_grows fun _ => grows_ite (enableClear_grows (.refl _)) (.refl _)

theorem execMbxRspHeadWrite_grows {t fn : Nat} {warden : Bool} {value : Word} : OutGrows s
    (execMbxRspHeadWrite t fn warden value s) :=
  evOn_grows fun _ => grows_ite (headWrite_grows (.refl _)) (.refl _)

theorem execQueueDoorbellWrite_grows {t fn doorbell : Nat} {value : Word} : OutGrows s
    (execQueueDoorbellWrite t fn doorbell value s) :=
  evOn_grows fun _ => grows_ite (doorbellWrite_grows (.refl _)) (.refl _)

theorem execRegisterWrite_grows {t fn offset width : Nat} {value : DWord} : OutGrows s
    (execRegisterWrite t fn offset width value s) := by
  intro u h
  unfold execRegisterWrite at h
  split at h
  · dsimp only at h
    split at h <;> cases h
    exact barWrite_grows (advance_grows (.refl s))
  · cases h

theorem execMsixHoldoffEnd_grows {t fn vector : Nat} : OutGrows s (execMsixHoldoffEnd t fn vector s) := by
  unfold execMsixHoldoffEnd
  refine evOn_grows fun s => ?_
  have hs := Grows.refl s
  dsimp only
  split
  · exact hs
  · exact grows_ite hs (.opt (setVec_grows hs) (signal_grows (.refl _)))

/-! ### Resets and the keel -/

theorem execResetNAssert_grows {t : Nat} : OutGrows s (execResetNAssert t s) :=
  ev_grows fun _ => .upd (resetMain_grows (.refl _))

theorem execResetNDeassert_grows {t : Nat} {b : BootFacts} : OutGrows s (execResetNDeassert t b s) :=
  ev_grows fun _ => grows_ite (.refl _) (grows_ite (leaveReset_grows (.refl _)) (.refl _))

theorem execMainDomainResetRelease_grows {t : Nat} {b : BootFacts} : OutGrows s (execMainDomainResetRelease t b s) :=
  ev_grows fun _ => grows_ite (leaveReset_grows (.refl _)) (.refl _)

theorem execEnterSnowplough_grows {t : Nat} {c0Ok late : Bool} : OutGrows s (execEnterSnowplough t c0Ok late s) :=
  ev_grows fun _ => grows_ite (.refl _) (serveRings_grows (endLongs_grows (noteLate_grows (.opt (coreEnters_grows
    (startCollector_grows (portsStart_grows (.refl _)))) (raise_grows (.refl _))))))

theorem execHbmTrainingDone_grows {t : Nat} {ok : Bool} : OutGrows s (execHbmTrainingDone t ok s) :=
  ev_grows fun _ => grows_ite (.refl _) (grows_ite (.refl _) (grows_ite (raise_grows (.refl _)) (raise_grows (.refl _))))

theorem execEnterPiste_grows {t : Nat} {failed : List Nat} {tdcOk late : Bool} {s0 s1 : DevFacts} : OutGrows s
    (execEnterPiste t failed tdcOk late s0 s1 s) :=
  ev_grows fun _ => grows_ite (.refl _) (noteLate_grows (.upd (enumerate_grows (enumerate_grows (.unless (grows_foldl (fun
    _ _ => coreEnters_grows (.refl _)) (layHbm_grows (.refl _))) (raise_grows (.refl _)))))))

theorem execPerstNAssert_grows {t : Nat} : OutGrows s (execPerstNAssert t s) :=
  ev_grows fun _ => grows_ite (.refl _) (.upd (vfsAway_grows (mbxLayerReset_grows (.refl _))))

theorem execPerstNDeassert_grows {t : Nat} : OutGrows s (execPerstNDeassert t s) :=
  ev_grows fun _ => grows_ite (.refl _) (grows_ite (.refl _) (.opt (.opt (setFn_grows (.refl _)) (startReset_grows (.refl
    _))) (restartAssets_grows (.refl _))))

theorem execVfEnable_grows {t numVfs : Nat} : OutGrows s (execVfEnable t numVfs s) :=
  ev_grows fun _ => grows_ite (.refl _) (.upd (dropVfs_grows (.refl _)))

theorem execVfReturnExpiry_grows {t vf : Nat} : OutGrows s (execVfReturnExpiry t vf s) :=
  ev_grows fun _ => grows_ite (.refl _) (setFn_grows (flr_grows (.refl _)))

theorem execFunctionLevelReset_grows {t fn : Nat} : OutGrows s (execFunctionLevelReset t fn s) :=
  evOn_grows fun _ => grows_ite (flr_grows (.refl _)) (.refl _)

theorem execKeelFeedOutOfWindow_grows {t : Nat} {feed : Feed} : OutGrows s (execKeelFeedOutOfWindow t feed s) := by
  unfold execKeelFeedOutOfWindow
  refine ev_grows fun s => ?_
  have hs := Grows.refl s
  split
  · exact hs
  · split
    · exact .unless (noteFeed_grows hs) (grows_ite (takeFeed_grows (.refl _)) (.refl _))
    · exact .unless (noteFeed_grows hs) (grows_ite (takeFeed_grows (.refl _)) (.refl _))

theorem execKeelRevertExpiry_grows {t : Nat} : OutGrows s (execKeelRevertExpiry t s) :=
  ev_grows fun _ => grows_ite (noteFeed_grows (.refl _)) (.refl _)

theorem execSysrefStop_grows {t : Nat} : OutGrows s (execSysrefStop t s) :=
  ev_grows fun _ => grows_ite (.refl _) (.refl _)

theorem execSysrefReturn_grows {t : Nat} : OutGrows s (execSysrefReturn t s) :=
  ev_grows fun _ => (.refl _)

theorem execTamperTrip_grows {t source : Nat} : OutGrows s (execTamperTrip t source s) :=
  evOn_grows fun _ => grows_ite (.refl _) (grows_ite (.upd (raise_grows (.refl _))) (.opt (raise_grows (.refl _))
    (serveRings_grows (.refl _))))

theorem execTjThresholdCrossing_grows {t sensor : Nat} {temp : Int} : OutGrows s (execTjThresholdCrossing t sensor temp s)
    := by
  unfold execTjThresholdCrossing
  refine evOn_grows fun s => grows_ite (.refl _) ?_
  extract_lets b1 s1 top b2 s2
  have h1 : Grows s s1 := noteTemp_grows (.upd (.refl s))
  have h2 : Grows s s2 := grows_ite (raise_grows (.upd h1)) (grows_ite (endCond_grows (.upd h1)) h1)
  refine grows_ite ?_ (.upd h2)
  split
  · exact .upd h2
  · exact grows_ite (raise_grows (.upd h2)) h2

theorem execHostLinkRetrain_grows {t gen lanes : Nat} : OutGrows s (execHostLinkRetrain t gen lanes s) :=
  ev_grows fun _ => grows_ite (.refl _) (grows_ite (raise_grows (.refl _)) (.refl _))

/-! ### Storage -/

theorem execAssetReadIssue_grows {t : Nat} : OutGrows s (execAssetReadIssue t s) := by
  refine ev_grows fun _ => grows_ite (.refl _) ?_
  split
  · exact .refl _
  · split
    · exact .refl _
    · refine grows_ite (reqMod_grows (.refl _)) ?_
      split
      · exact .refl _
      · exact grows_ite (.refl _) (sendCmds_grows (takeStaging_grows (reqMod_grows (.refl _))))

theorem execNvmeCompletion_grows {t : Nat} {port : StPort} {cmd : Nat} {mediaError : Bool} : OutGrows s
    (execNvmeCompletion t port cmd mediaError s) := by
  unfold execNvmeCompletion
  refine ev_grows fun s => ?_
  have hs := Grows.refl s
  split
  · exact hs
  · exact grows_ite (dropCmds_grows hs) (grows_ite (grows_ite (countReread_grows (resend_grows hs)) (raise_grows
      (failChunk_grows (dropCmds_grows hs)))) (.opt (dropCmds_grows hs) (assetCount_grows (chunkMod_grows (.refl _)))))

theorem execNvmeCommandTimeout_grows {t : Nat} {port : StPort} {cmd : Nat} : OutGrows s
    (execNvmeCommandTimeout t port cmd s) := by
  unfold execNvmeCommandTimeout
  refine ev_grows fun s => ?_
  have hs := Grows.refl s
  split
  · exact hs
  · exact grows_ite hs (grows_ite (raise_grows (resend_grows hs)) (grows_ite (raise_grows (setStPort_grows hs))
      (raise_grows (event_grows (.upd (endOnPort_grows (setStPort_grows hs)))))))

theorem execS0Removal_grows {t : Nat} : OutGrows s (execS0Removal t s) :=
  ev_grows fun _ => grows_ite (.refl _) (raise_grows (event_grows (assetCount_grows (dropCartridge_grows (closePort_grows
    (loseDevice_grows (startWindow_grows (.refl _))))))))

theorem execS0Insertion_grows {t : Nat} {d : DevFacts} : OutGrows s (execS0Insertion t d s) :=
  ev_grows fun _ => grows_ite (.refl _) (.unless (startWindow_grows (setStPort_grows (.refl _))) (.opt (enumerate_grows
    (.refl _)) (event_grows (.refl _))))

theorem execS1LinkDown_grows {t : Nat} : OutGrows s (execS1LinkDown t s) :=
  ev_grows fun _ => grows_ite (.refl _) (raise_grows (loseDevice_grows (.refl _)))

theorem execInsertionWindowEnd_grows {t : Nat} : OutGrows s (execInsertionWindowEnd t s) :=
  ev_grows fun _ => (.refl _)

theorem execChunkVerify_grows {t req chunk : Nat} {crcOk tagOk : Bool} {payload : Option (List Byte)} : OutGrows s
    (execChunkVerify t req chunk crcOk tagOk payload s) := by
  unfold execChunkVerify
  refine ev_grows fun s => ?_
  have hs := Grows.refl s
  split
  · exact hs
  · exact grows_ite hs (grows_ite (passChunk_grows (assetCount_grows hs)) (grows_ite (sendCmds_grows (countReread_grows
      (chunkMod_grows (raise_grows (assetCount_grows hs))))) (raise_grows (failChunk_grows (assetCount_grows hs)))))

theorem execDecompressionDone_grows {t req chunk : Nat} {formatOk unitFault : Bool} : OutGrows s
    (execDecompressionDone t req chunk formatOk unitFault s) := by
  unfold execDecompressionDone
  refine ev_grows fun s => ?_
  have hs := Grows.refl s
  split
  · exact hs
  · split
    · exact hs
    · split
      · exact hs
      · exact grows_ite hs (grows_ite (unitFails_grows hs) (grows_ite (assignUnits_grows (queueOutput_grows (chunkMod_grows
          (releaseUnit_grows hs)))) (assignUnits_grows (formatFails_grows (chunkMod_grows (releaseUnit_grows hs))))))

theorem execAssetRequestComplete_grows {t req : Nat} : OutGrows s (execAssetRequestComplete t req s) := by
  unfold execAssetRequestComplete
  refine ev_grows fun s => ?_
  have hs := Grows.refl s
  split
  · exact hs
  · exact grows_ite (endRequest_grows hs) hs

/-! ### STREAM commands -/

theorem execStreamCreate_grows {h : Hdr} {recs : List Rec} : OutGrows s (execStreamCreate h recs s) := by
  refine mbx_grows fun _ => ?_
  split
  · exact .bind fun _ _ => .bind fun _ _ => .bind fun _ _ => .bind fun _ _ => .bind fun _ _ => .bind fun _ _ => .bind fun _
      _ => .bind fun _ _ => .ite (.bind fun _ _ => .bind fun _ _ => .bind fun _ _ => .bind fun _ _ => .done (stSet_grows
      (.refl _))) (.bind fun _ _ => .bind fun _ _ => .done (stSet_grows (.refl _)))
  · exact .bind fun _ _ => .bind fun _ _ => .bind fun _ _ => .bind fun _ _ => .bind fun _ _ => .bind fun _ _ => .bind fun _
      _ => .bind fun _ _ => .ite (.bind fun _ _ => .bind fun _ _ => .bind fun _ _ => .bind fun _ _ => .done (stSet_grows
      (.refl _))) (.bind fun _ _ => .bind fun _ _ => .done (stSet_grows (.refl _)))

theorem execStreamSet_grows {h : Hdr} {stream : Nat} {restart : Bool} {recs : List Rec} : OutGrows s
    (execStreamSet h stream restart recs s) :=
  mbx_grows fun _ => .bind fun _ _ => .bind fun _ _ => .bind fun _ _ => .bind fun _ _ => .bind fun _ _ => .bind fun _ _ =>
    .bind fun _ _ => .bind fun _ _ => .bind fun _ _ => .ite (.bind fun _ _ => .done (stSet_grows (.refl _))) (.ite (.bind
    fun _ _ => .done (stSet_grows (.refl _))) (.done (stSet_grows (.refl _))))

theorem execStreamDestroy_grows {h : Hdr} {stream : Nat} {force : Bool} : OutGrows s (execStreamDestroy h stream force s) :=
  mbx_grows fun _ => .bind fun _ _ => .bind fun _ _ => .bind fun _ _ => .bind fun _ _ => .bind fun _ _ => .done (.upd
    (grows_foldl (fun _ _ => removePkt_grows (.refl _)) (cancelJobs_grows (.refl _))))

theorem execStreamStatsRead_grows {h : Hdr} {stream : Nat} {clear : Bool} : OutGrows s
    (execStreamStatsRead h stream clear s) :=
  mbx_grows fun _ => .bind fun _ _ => .bind fun _ _ => .bind fun _ _ => .bind fun _ _ => .done (grows_ite (.upd
    (stSet_grows (.refl _))) (.refl _))

theorem execStreamRecover_grows {h : Hdr} {stream picture _firstLine _lineCount : Nat} : OutGrows s
    (execStreamRecover h stream picture _firstLine _lineCount s) :=
  mbx_grows fun _ => .bind fun _ _ => .bind fun _ _ => .bind fun _ _ => .bind fun _ _ => .bind fun _ _ => .done
    (recoverEncode_grows (.refl _))

theorem execStreamConceal_grows {h : Hdr} {stream verdict damageId : Nat} : OutGrows s
    (execStreamConceal h stream verdict damageId s) := by
  refine mbx_grows fun _ => .bind fun _ _ => .bind fun _ _ => .bind fun _ _ => .bind fun _ _ => .bind fun _ _ => ?_
  split
  · exact .error
  · exact .bind fun _ _ => .done (takeArea_grows (stSet_grows (.refl _)))

/-! ### TIME commands -/

theorem execTimeRead_grows {h : Hdr} : OutGrows s (execTimeRead h s) :=
  mbx_grows fun _ => .done (.refl _)

theorem execTimeSelect_grows {h : Hdr} {sel : Nat} : OutGrows s (execTimeSelect h sel s) :=
  mbx_grows fun _ => .bind fun _ _ => .done (grows_ite (switchTo_grows (.refl _)) (grows_ite (switchTo_grows (.refl _))
    (autoFollow_grows (.refl _))))

theorem execTimeAdjust_grows {h : Hdr} {dom : Nat} {offset rate : Bool} {rateAdj : Int} {delta : Ticks} : OutGrows s
    (execTimeAdjust h dom offset rate rateAdj delta s) := by
  refine mbx_grows fun _ => ?_
  split
  · exact .error
  · exact .bind fun _ _ => .done (.opt (grows_ite (setRate_grows (.refl _)) (.refl _)) (adjustBy_grows (.refl _)))

theorem execTimeServoSet_grows {h : Hdr} {dom : Nat} {recs : List Rec} : OutGrows s (execTimeServoSet h dom recs s) := by
  unfold execTimeServoSet
  refine mbx_grows fun s => ?_
  split
  · exact .error
  · next d _ =>
    refine .bind fun _ _ => ?_
    dsimp only
    split
    · exact .ite (.bind fun _ _ => .bind fun _ _ => .ite (.bind fun _ _ => .done (setServo_grows (.refl s)))
        (.bind fun _ _ => .done (setServo_grows (.refl s)))) (.bind fun _ _ => .done (setServo_grows (.refl s)))
    · exact .bind fun _ _ => .done (setServo_grows (.refl s))

theorem execTimePortSet_grows {h : Hdr} {port : Nat} {recs : List Rec} : OutGrows s (execTimePortSet h port recs s) := by
  refine mbx_grows fun _ => ?_
  split
  · exact .error
  · refine .bind fun _ _ => .done ?_
    split <;> exact .refl _

theorem execTimeFlSet_grows {h : Hdr} {fl : Nat} {recs : List Rec} : OutGrows s (execTimeFlSet h fl recs s) :=
  mbx_grows fun _ => .bind fun _ _ => .bind fun _ _ => .bind fun _ _ => .bind fun _ _ => .bind fun _ _ => .ite (.done
    (applyFl_grows (settleFl_grows (.refl _)))) (.ok (outstanding_grows (setFl_grows (settleFl_grows (.refl _)))))

theorem execTimeCmpArm_grows {h : Hdr} {cmp : Nat} {recs : List Rec} : OutGrows s (execTimeCmpArm h cmp recs s) :=
  mbx_grows fun _ => .bind fun _ _ => .bind fun _ _ => .bind fun _ _ => .bind fun _ _ => .bind fun _ _ => .bind fun _ _ =>
    .bind fun _ _ => .bind fun _ _ => .ok (fireCmp_grows (.upd (fireCmp_grows (.refl _))))

theorem execTimeCmpDisarm_grows {h : Hdr} {cmp : Nat} : OutGrows s (execTimeCmpDisarm h cmp s) :=
  mbx_grows fun _ => .bind fun _ _ => .bind fun _ _ => .done (.upd (fireCmp_grows (.refl _)))

theorem execTimeTrigSet_grows {h : Hdr} {trig : Nat} {recs : List Rec} : OutGrows s (execTimeTrigSet h trig recs s) :=
  mbx_grows fun _ => .bind fun _ _ => .bind fun _ _ => .bind fun _ _ => .done (.refl _)

theorem execTimeCapSet_grows {h : Hdr} {fifo edges : Nat} {sources : List Nat} : OutGrows s
    (execTimeCapSet h fifo edges sources s) :=
  mbx_grows fun _ => .bind fun _ _ => .bind fun _ _ => .bind fun _ _ => .done (.refl _)

theorem execTimeCapRead_grows {h : Hdr} {fifo max : Nat} : OutGrows s (execTimeCapRead h fifo max s) :=
  mbx_grows fun _ => .bind fun _ _ => .bind fun _ _ => .bind fun _ _ => .done (.refl _)

/-! ### Time events -/

theorem execComparatorFire_grows {t : Nat} {f : FireFacts} : OutGrows s (execComparatorFire t f s) :=
  evOn_grows fun _ => settleCmps_grows (grows_ite (yieldCmp_grows (.refl _)) (.refl _))

theorem execFlFrameEdge_grows {t fl tdc : Nat} : OutGrows s (execFlFrameEdge t fl tdc s) :=
  evOn_grows fun _ => grows_ite (rasterEdge_grows (.refl _)) (rekey_grows (.unless (routeInternal_grows (setFl_grows
    (flyOff_grows (.opt (setFl_grows (.refl _)) (flEvent_grows (raise_grows (.refl _))))))) (lateOnFl_grows (.refl _))))

theorem execFlLineEdge_grows {t fl tdc : Nat} : OutGrows s (execFlLineEdge t fl tdc s) :=
  evOn_grows fun _ => grows_ite (rasterEdge_grows (.refl _)) (grows_ite (.refl _) (grows_ite (setFl_grows (.refl _))
    (routeInternal_grows (setFl_grows (.refl _)))))

theorem execFlFlywheelTimeout_grows {t fl : Nat} : OutGrows s (execFlFlywheelTimeout t fl s) := by
  unfold execFlFlywheelTimeout
  refine evOn_grows fun s => ?_
  have hs := Grows.refl s
  dsimp only
  split
  · exact hs
  · exact grows_ite hs (.opt (routeInternal_grows (setFl_grows (flyOn_grows hs))) (rekey_grows (.refl _)))

theorem execFlChangeApply_grows {t fl : Nat} : OutGrows s (execFlChangeApply t fl s) :=
  evOn_grows fun _ => settleFl_grows (settleAnchor_grows (.refl _))

theorem execFlAnchorTx_grows {t fl : Nat} : OutGrows s (execFlAnchorTx t fl s) := by
  unfold execFlAnchorTx
  refine evOn_grows fun s => ?_
  have hs := Grows.refl s
  dsimp only
  split
  · exact grows_ite hs (queueTime_grows (setFl_grows hs))
  · exact hs

theorem execFlAnchorRx_grows {t : Nat} {port : BusPort} {a : FlAnchor} : OutGrows s (execFlAnchorRx t port a s) :=
  ev_grows fun _ => grows_ite (.refl _) (grows_ite (portCount_grows (.refl _)) (grows_foldl (fun _ _ => takeAnchor_grows
    (.refl _)) (.refl _)))

theorem execRelayAnchorTimeout_grows {t fl : Nat} : OutGrows s (execRelayAnchorTimeout t fl s) :=
  evOn_grows fun _ => grows_ite (flyOn_grows (.refl _)) (.refl _)

theorem execCapEdge_grows {t cap : Nat} {falling : Bool} {tdc : Nat} : OutGrows s (execCapEdge t cap falling tdc s) :=
  evOn_grows fun _ => grows_ite (.refl _) (grows_ite (.refl _) (.upd (capWrite_grows (.refl _))))

theorem execSyncTx_grows {t : Nat} {port : BusPort} {dom : Dom} : OutGrows s (execSyncTx t port dom s) :=
  ev_grows fun _ => grows_ite (.refl _) (queueTime_grows (setPort_grows (setServo_grows (.refl _))))

theorem execSyncRx_grows {t : Nat} {port : BusPort} {f : TimeFrame} : OutGrows s (execSyncRx t port f s) := by
  unfold execSyncRx
  refine ev_grows fun s => timeRx_grows (fun s => grows_ite (.refl _) ?_) (.refl s)
  extract_lets s1 v1 s2 t2 s3 v3 s4 due
  have h2 : Grows s s2 := setServo_grows (routeInternal_grows (.refl s))
  have h3 : Grows s s3 := .opt h2 (followStep_grows (.refl _))
  have h4 : Grows s s4 := grows_ite (grows_ite h2 (firstStep_grows h2)) (grows_ite (setDomSt_grows (setServo_grows h3)) h3)
  exact startExchange_grows (setServo_grows h4)

theorem execFollowUpRx_grows {t : Nat} {port : BusPort} {f : TimeFrame} : OutGrows s (execFollowUpRx t port f s) := by
  unfold execFollowUpRx
  refine ev_grows fun s => timeRx_grows (fun s => grows_ite (.refl _) ?_) (.refl s)
  dsimp only
  split
  · exact .refl _
  · exact grows_ite (.refl _) (grows_ite (setServo_grows (.refl _)) (grows_ite (firstStep_grows (setServo_grows (.refl _)))
      (grows_ite (followStep_grows (setServo_grows (.refl _))) (setServo_grows (.refl _)))))

theorem execDelayReqRx_grows {t : Nat} {port : BusPort} {f : TimeFrame} : OutGrows s (execDelayReqRx t port f s) :=
  ev_grows fun _ => timeRx_grows (fun _ => grows_ite (.refl _) (queueTime_grows (.refl _))) (.refl _)

theorem execDelayRspRx_grows {t requester : Nat} {port : BusPort} {f : TimeFrame} : OutGrows s
    (execDelayRspRx t port f requester s) := by
  unfold execDelayRspRx
  refine ev_grows fun s => timeRx_grows (fun s => ?_) (.refl s)
  dsimp only
  split
  · exact .refl _
  · refine grows_ite (.refl _) ?_
    have h1 := setServo_grows (d := f.domain) (v := { servoOf s f.domain with exch := none }) (.refl s)
    split
    · refine grows_ite h1 (autoFollow_grows ?_)
      have h2 {th : Ticks} {x : State} (hx : Grows s x) : Grows s (judgeLock f.domain th x) := judgeLock_grows hx
      exact .opt (h2 (grows_ite (recordExchange_grows h1) (servoLoop_grows h1))) (steerTb_grows (.refl _))
    · exact h1

theorem execSyncMissHoldover_grows {t : Nat} {dom : Dom} : OutGrows s (execSyncMissHoldover t dom s) :=
  ev_grows fun _ => grows_ite (setDomSt_grows (setServo_grows (.refl _))) (.refl _)

theorem execResidualSlewDone_grows {t : Nat} : OutGrows s (execResidualSlewDone t s) :=
  ev_grows fun _ => grows_ite (.refl _) (.refl _)

/-! ### TRUST commands -/

theorem execTrustInfo_grows {h : Hdr} : OutGrows s (execTrustInfo h s) := mbx_grows fun _ => .done
    (newChallenge_grows (.refl _))

theorem execTrustProvision_grows {h : Hdr} {rootHash pcbSvn : Nat} {blob : BlobFacts} {pcbOk : Bool} :
    OutGrows s (execTrustProvision h rootHash blob pcbOk pcbSvn s) := by
  refine mbx_grows fun s => .bind fun _ h0 => .bind fun _ _ => .bind fun _ _ => .done (eraseVault_grows ((Grows.refl
    s).updKeel le_rfl ?_))
  have hb : lifecycle s.trust = 0 := by simpa [need] using h0
  exact ⟨fun ⟨h1, h2, h3⟩ => ⟨⟨le_rfl, h2, h3⟩, ⟨h1, le_rfl, le_rfl⟩, fun h => absurd hb h⟩, le_rfl, le_rfl⟩

/-- Setting every bit of the RMA or of the field group burns fuses. -/
theorem burned_advance (a : Trust) (pk : Option Nat) : Burned a { a with lcRma := 8, pkStored := pk } ∧ Burned a
    { a with lcField := 8 } :=
  ⟨⟨fun ⟨h1, h2, h3⟩ => ⟨⟨h1, h2, le_rfl⟩, ⟨le_rfl, le_rfl, h3⟩, fun _ => rfl⟩, le_rfl, le_rfl⟩,
    ⟨fun ⟨h1, h2, h3⟩ => ⟨⟨h1, le_rfl, h3⟩, ⟨le_rfl, h2, le_rfl⟩, fun _ => rfl⟩, le_rfl, le_rfl⟩⟩

theorem execTrustLifecycleAdvance_grows {h : Hdr} {target oemChal neythChal : Nat} {oemOk neythOk : Bool} :
    OutGrows s (execTrustLifecycleAdvance h target oemChal neythChal oemOk neythOk s) := by
  refine mbx_grows fun s => ?_
  extract_lets two sample ok s' t
  have h1 : Grows s s' := useChallenge_grows (grows_ite (useChallenge_grows (.refl s)) (.refl s))
  obtain ⟨hr, hf⟩ := burned_advance t none
  refine .ite .error (.ite (.ok h1) (.done (eraseVault_grows (h1.updKeel le_rfl ?_))))
  split
  · exact hr
  · exact hf

theorem execTrustDebugUnlock_grows {h : Hdr} {chal : Nat} {oemOk neythOk : Bool} :
    OutGrows s (execTrustDebugUnlock h chal oemOk neythOk s) :=
  mbx_grows fun _ => .ite .error (.ite (.ok (useChallenge_grows (.refl _))) (.done (eraseVault_grows (useChallenge_grows (v
    := chal) (.refl _)))))

theorem execTrustFwStage_grows {h : Hdr} {sigOk : Bool} {lcMask svn meas : Nat} :
    OutGrows s (execTrustFwStage h sigOk lcMask svn meas s) := by
  refine mbx_grows fun s => .bind fun _ _ => .done ((Grows.refl s).updKeel le_rfl ?_)
  split <;> exact .refl s.trust

theorem execTrustFwActivate_grows {h : Hdr} : OutGrows s (execTrustFwActivate h s) :=
  mbx_grows fun _ => .bind fun _ _ => .done (.refl _)

theorem execTrustFwCommit_grows {h : Hdr} : OutGrows s (execTrustFwCommit h s) :=
  mbx_grows fun s => .done ((Grows.refl s).updKeel le_rfl
    ⟨(Burned.refl s.trust).1, Nat.le_add_right _ _, Nat.le_add_right _ _⟩)

theorem execTrustFwRecover_grows {h : Hdr} {sigOk : Bool} {lcMask svn meas : Nat} : OutGrows s
    (execTrustFwRecover h sigOk lcMask svn meas s) :=
  mbx_grows fun _ => .bind fun _ _ => .done (.refl _)

theorem execTrustPcbSet_grows {h : Hdr} {ok : Bool} {svn : Nat} : OutGrows s (execTrustPcbSet h ok svn s) :=
  mbx_grows fun _ => .bind fun _ _ => .bind fun _ _ => .done (.refl _)

theorem execTrustKeyLoad_grows {h : Hdr} {slot : Option Nat} {blob : BlobFacts} : OutGrows s
    (execTrustKeyLoad h slot blob s) :=
  mbx_grows fun _ => .bind fun _ _ => .bind fun _ _ => .bind fun _ _ => .bind fun _ _ => .bind fun _ _ => .done
    (putKey_grows (.refl _))

theorem execTrustKeyGenerate_grows {h : Hdr} {slot : Option Nat} : OutGrows s (execTrustKeyGenerate h slot s) :=
  mbx_grows fun _ => .bind fun _ _ => .bind fun _ _ => .done (putKey_grows (.refl _))

theorem execTrustKeyErase_grows {h : Hdr} {slot : Nat} : OutGrows s (execTrustKeyErase h slot s) :=
  mbx_grows fun _ => .bind fun _ _ => .bind fun _ _ => .bind fun _ _ => .bind fun _ _ => .done (.refl _)

theorem execTrustAuthoritySet_grows {h : Hdr} {port node : Nat} : OutGrows s (execTrustAuthoritySet h port node s) := by
  refine mbx_grows fun _ => ?_
  split
  · exact .error
  · exact .done (setPort_grows (.refl _))

theorem execTrustNodeRevoke_grows {h : Hdr} {port node subject : Nat} : OutGrows s
    (execTrustNodeRevoke h port node subject s) := by
  refine mbx_grows fun _ => ?_
  split
  · exact .error
  · exact .done (setPort_grows (abortEnroll_grows (dropNodeKeys_grows (.refl _))))

theorem execTrustSessionChallenge_grows {h : Hdr} : OutGrows s (execTrustSessionChallenge h s) :=
  mbx_grows fun _ => .done (newChallenge_grows (.refl _))

theorem execTrustSessionOpen_grows {h : Hdr} {chal key : Nat} {chainOk sigOk : Bool} :
    OutGrows s (execTrustSessionOpen h chal chainOk sigOk key s) :=
  mbx_grows fun _ => .bind fun _ _ => .bind fun _ _ => .ite (.ok (useChallenge_grows (.refl _))) (.done (useChallenge_grows
    (v := chal) (.refl _)))

theorem execTrustSessionClose_grows {h : Hdr} {session : Nat} : OutGrows s (execTrustSessionClose h session s) :=
  mbx_grows fun _ => .bind fun _ _ => .bind fun _ _ => .done (endSession_grows (.refl _))

theorem execTrustAttest_grows {h : Hdr} {nonce reportData : Nat} : OutGrows s (execTrustAttest h nonce reportData s) :=
  mbx_grows fun _ => .done (.refl _)

theorem execTrustTimeSet_grows {h : Hdr} {chal : Nat} {sigOk : Bool} {time : Ticks} : OutGrows s
    (execTrustTimeSet h chal sigOk time s) :=
  mbx_grows fun _ => .ite .error (.ite (.ok (useChallenge_grows (.refl _))) (.done (.updKeel (useChallenge_grows (.refl
    _)))))

/-! ### The two rows that end a keel's hold-up -/

/-- The keel lost both feeds: the FRC is zero, the queue of commands stands, and fuses are only burned. -/
def Restarts (s t : State) : Prop := t.pending = s.pending ∧ t.keel.frc = 0 ∧ Burned s.trust t.trust

/-- Either the FRC does not go back or the keel has lost both feeds. -/
def GrowsOrRestarts (s t : State) : Prop := Grows s t ∨ Restarts s t

theorem loseKeel_restarts : Restarts s (loseKeel s) := ⟨rfl, rfl, Burned.refl s.trust⟩

theorem keelUp_restarts {feed : Feed} : Restarts s (keelUp feed s) := ⟨rfl, rfl, .refl _⟩

theorem Restarts.after (h : Grows s₀ s) (k : Restarts s t) : GrowsOrRestarts s₀ t :=
  .inr ⟨k.1.trans h.1, k.2.1, h.2.2.trans k.2.2⟩

theorem Restarts.trans (h : Restarts s₀ s) (k : Restarts s t) : Restarts s₀ t :=
  ⟨k.1.trans h.1, k.2.1, h.2.2.trans k.2.2⟩

theorem execHoldUpExpiry_growsOrRestarts {x : Nat} (ht : execHoldUpExpiry x s = .next t) : GrowsOrRestarts s t := by
  have ha : Grows s (advance x s) := advance_grows (.refl s)
  cases ht
  dsimp only
  split
  · split
    · exact loseKeel_restarts.after ha
    · exact .inl ha
  · exact .inl ha

theorem execKeelFeedRestored_growsOrRestarts {x : Nat} {feed : Feed} (ht : execKeelFeedRestored x feed s = .next t) :
    GrowsOrRestarts s t := by
  have ha : Grows s (advance x s) := advance_grows (.refl s)
  cases ht
  beta_reduce
  extract_lets late s1 k₀ k held s2
  by_cases hl : late = true
  · have h1 : s1 = loseKeel (advance x s) := if_pos hl
    rw [h1]
    exact (loseKeel_restarts.trans keelUp_restarts).after ha
  · have h1 : s1 = advance x s := if_neg hl
    by_cases hp : s1.keel.powered = true
    · have h0 : Grows s s1 := h1 ▸ ha
      have hk : Grows s1 { s1 with keel := k } := by
        simp only [k]
        split <;> exact .refl s1
      have h2 : Grows s s2 := noteFeed_grows (h0.trans hk)
      rw [hp, Bool.not_true, if_neg Bool.false_ne_true]
      exact .inl (grows_ite h0 (grows_ite (takeFeed_grows h2) h2))
    · rw [if_pos (by simpa using hp), h1]
      exact keelUp_restarts.after ha

/-! ### Every row -/

/-- Of every row but the two that end a keel's hold-up the FRC does not go back. -/
theorem exec_growsOrRestarts (c : Instr) (ht : exec c s = .next t) :
    Grows s t ∨ Restarts s t ∧ ((∃ x f, c = .keelFeedRestored x f) ∨ ∃ x, c = .holdUpExpiry x) := by
  cases c with
  | devInfo => exact .inl (execDevInfo_grows t ht)
  | devConfig => exact .inl (execDevConfig_grows t ht)
  | engineReset => exact .inl (execEngineReset_grows t ht)
  | engineResetDone => exact .inl (execEngineResetDone_grows t ht)
  | timeRead => exact .inl (execTimeRead_grows t ht)
  | timeSelect => exact .inl (execTimeSelect_grows t ht)
  | timeAdjust => exact .inl (execTimeAdjust_grows t ht)
  | timeServoSet => exact .inl (execTimeServoSet_grows t ht)
  | timePortSet => exact .inl (execTimePortSet_grows t ht)
  | timeFlSet => exact .inl (execTimeFlSet_grows t ht)
  | timeCmpArm => exact .inl (execTimeCmpArm_grows t ht)
  | timeCmpDisarm => exact .inl (execTimeCmpDisarm_grows t ht)
  | timeTrigSet => exact .inl (execTimeTrigSet_grows t ht)
  | timeCapSet => exact .inl (execTimeCapSet_grows t ht)
  | timeCapRead => exact .inl (execTimeCapRead_grows t ht)
  | queueCreate => exact .inl (execQueueCreate_grows t ht)
  | queueSet => exact .inl (execQueueSet_grows t ht)
  | queueQuery => exact .inl (execQueueQuery_grows t ht)
  | queueDestroy => exact .inl (execQueueDestroy_grows t ht)
  | queueAck => exact .inl (execQueueAck_grows t ht)
  | queueQuotaSet => exact .inl (execQueueQuotaSet_grows t ht)
  | queueStatsRead => exact .inl (execQueueStatsRead_grows t ht)
  | queueHistSet => exact .inl (execQueueHistSet_grows t ht)
  | queueHistRead => exact .inl (execQueueHistRead_grows t ht)
  | queueRingSet => exact .inl (execQueueRingSet_grows t ht)
  | streamCreate => exact .inl (execStreamCreate_grows t ht)
  | streamSet => exact .inl (execStreamSet_grows t ht)
  | streamDestroy => exact .inl (execStreamDestroy_grows t ht)
  | streamStatsRead => exact .inl (execStreamStatsRead_grows t ht)
  | streamRecover h n p a b => exact .inl (execStreamRecover_grows (_firstLine := a) (_lineCount := b) t ht)
  | streamConceal => exact .inl (execStreamConceal_grows t ht)
  | assetVolumeOpen => exact .inl (execAssetVolumeOpen_grows t ht)
  | assetVolumeClose => exact .inl (execAssetVolumeClose_grows t ht)
  | assetContainerOpen => exact .inl (execAssetContainerOpen_grows t ht)
  | assetContainerClose => exact .inl (execAssetContainerClose_grows t ht)
  | assetRead => exact .inl (execAssetRead_grows t ht)
  | assetInstall => exact .inl (execAssetInstall_grows t ht)
  | assetStatsRead => exact .inl (execAssetStatsRead_grows t ht)
  | busPortSet => exact .inl (execBusPortSet_grows t ht)
  | busPortQuery => exact .inl (execBusPortQuery_grows t ht)
  | busPortRecover => exact .inl (execBusPortRecover_grows t ht)
  | busWake => exact .inl (execBusWake_grows t ht)
  | busFlowCreate => exact .inl (execBusFlowCreate_grows t ht)
  | busFlowSet => exact .inl (execBusFlowSet_grows t ht)
  | busFlowResume => exact .inl (execBusFlowResume_grows t ht)
  | busFlowDestroy => exact .inl (execBusFlowDestroy_grows t ht)
  | busFlowStats => exact .inl (execBusFlowStats_grows t ht)
  | busMbSet => exact .inl (execBusMbSet_grows t ht)
  | busMbSend => exact .inl (execBusMbSend_grows t ht)
  | busMbRead => exact .inl (execBusMbRead_grows t ht)
  | busMbRelease => exact .inl (execBusMbRelease_grows t ht)
  | busFilterSet => exact .inl (execBusFilterSet_grows t ht)
  | busInspectVerdict => exact .inl (execBusInspectVerdict_grows t ht)
  | busStatsRead => exact .inl (execBusStatsRead_grows t ht)
  | busTraverseSet => exact .inl (execBusTraverseSet_grows t ht)
  | busAnchorSet => exact .inl (execBusAnchorSet_grows t ht)
  | busAnchorQuery => exact .inl (execBusAnchorQuery_grows t ht)
  | busAnchorTakeover => exact .inl (execBusAnchorTakeover_grows t ht)
  | busGlobalIssue => exact .inl (execBusGlobalIssue_grows t ht)
  | busBarrierArrive => exact .inl (execBusBarrierArrive_grows t ht)
  | busPortStatsClear => exact .inl (execBusPortStatsClear_grows t ht)
  | schedHostSet => exact .inl (execSchedHostSet_grows t ht)
  | schedFnSet => exact .inl (execSchedFnSet_grows t ht)
  | schedShaperSet => exact .inl (execSchedShaperSet_grows t ht)
  | schedShaperBind => exact .inl (execSchedShaperBind_grows t ht)
  | schedShaperReset => exact .inl (execSchedShaperReset_grows t ht)
  | schedShaperRelease => exact .inl (execSchedShaperRelease_grows t ht)
  | schedPolicerSet => exact .inl (execSchedPolicerSet_grows t ht)
  | schedPolicerReset => exact .inl (execSchedPolicerReset_grows t ht)
  | schedGateSet => exact .inl (execSchedGateSet_grows t ht)
  | schedGateStart => exact .inl (execSchedGateStart_grows t ht)
  | schedGateStop => exact .inl (execSchedGateStop_grows t ht)
  | schedGateClass => exact .inl (execSchedGateClass_grows t ht)
  | schedStatsRead => exact .inl (execSchedStatsRead_grows t ht)
  | schedLatencySet => exact .inl (execSchedLatencySet_grows t ht)
  | schedLatencyRead => exact .inl (execSchedLatencyRead_grows t ht)
  | checkSet => exact .inl (execCheckSet_grows t ht)
  | checkRun => exact .inl (execCheckRun_grows t ht)
  | checkStateRead => exact .inl (execCheckStateRead_grows t ht)
  | checkStateWrite => exact .inl (execCheckStateWrite_grows t ht)
  | checkRelease => exact .inl (execCheckRelease_grows t ht)
  | trustInfo => exact .inl (execTrustInfo_grows t ht)
  | trustProvision => exact .inl (execTrustProvision_grows t ht)
  | trustLifecycleAdvance => exact .inl (execTrustLifecycleAdvance_grows t ht)
  | trustDebugUnlock => exact .inl (execTrustDebugUnlock_grows t ht)
  | trustFwStage => exact .inl (execTrustFwStage_grows t ht)
  | trustFwActivate => exact .inl (execTrustFwActivate_grows t ht)
  | trustFwCommit => exact .inl (execTrustFwCommit_grows t ht)
  | trustFwRecover => exact .inl (execTrustFwRecover_grows t ht)
  | trustPcbSet => exact .inl (execTrustPcbSet_grows t ht)
  | trustKeyLoad => exact .inl (execTrustKeyLoad_grows t ht)
  | trustKeyGenerate => exact .inl (execTrustKeyGenerate_grows t ht)
  | trustKeyErase => exact .inl (execTrustKeyErase_grows t ht)
  | trustAuthoritySet => exact .inl (execTrustAuthoritySet_grows t ht)
  | trustNodeRevoke => exact .inl (execTrustNodeRevoke_grows t ht)
  | trustSessionChallenge => exact .inl (execTrustSessionChallenge_grows t ht)
  | trustSessionOpen => exact .inl (execTrustSessionOpen_grows t ht)
  | trustSessionClose => exact .inl (execTrustSessionClose_grows t ht)
  | trustAttest => exact .inl (execTrustAttest_grows t ht)
  | trustTimeSet => exact .inl (execTrustTimeSet_grows t ht)
  | faultSet => exact .inl (execFaultSet_grows t ht)
  | faultThresholdSet => exact .inl (execFaultThresholdSet_grows t ht)
  | faultRead => exact .inl (execFaultRead_grows t ht)
  | faultLogRead => exact .inl (execFaultLogRead_grows t ht)
  | faultAck => exact .inl (execFaultAck_grows t ht)
  | faultCountRead => exact .inl (execFaultCountRead_grows t ht)
  | faultVerdict => exact .inl (execFaultVerdict_grows t ht)
  | faultXfSet => exact .inl (execFaultXfSet_grows t ht)
  | powerCapSet => exact .inl (execPowerCapSet_grows t ht)
  | powerQuery => exact .inl (execPowerQuery_grows t ht)
  | powerTelemetrySet => exact .inl (execPowerTelemetrySet_grows t ht)
  | pinClaim => exact .inl (execPinClaim_grows t ht)
  | pinRelease => exact .inl (execPinRelease_grows t ht)
  | pinQuery => exact .inl (execPinQuery_grows t ht)
  | pinGpioSet => exact .inl (execPinGpioSet_grows t ht)
  | pinGpioRead => exact .inl (execPinGpioRead_grows t ht)
  | diagCoreStats => exact .inl (execDiagCoreStats_grows t ht)
  | diagSelftest => exact .inl (execDiagSelftest_grows t ht)
  | diagTempRead => exact .inl (execDiagTempRead_grows t ht)
  | diagTraceRead => exact .inl (execDiagTraceRead_grows t ht)
  | mbxDoorbellWrite => exact .inl (execMbxDoorbellWrite_grows t ht)
  | stalePhaseRetry => exact .inl (execStalePhaseRetry_grows t ht)
  | mbxEnableSet => exact .inl (execMbxEnableSet_grows t ht)
  | mbxEnableClear => exact .inl (execMbxEnableClear_grows t ht)
  | mbxRspHeadWrite => exact .inl (execMbxRspHeadWrite_grows t ht)
  | queueDoorbellWrite => exact .inl (execQueueDoorbellWrite_grows t ht)
  | registerWrite => exact .inl (execRegisterWrite_grows t ht)
  | submissionFetch => exact .inl (execSubmissionFetch_grows t ht)
  | packetDelivery => exact .inl (execPacketDelivery_grows t ht)
  | hostLinkWrite => exact .inl (execHostLinkWrite_grows t ht)
  | msixHoldoffEnd => exact .inl (execMsixHoldoffEnd_grows t ht)
  | resetNAssert => exact .inl (execResetNAssert_grows t ht)
  | resetNDeassert => exact .inl (execResetNDeassert_grows t ht)
  | enterSnowplough => exact .inl (execEnterSnowplough_grows t ht)
  | enterPiste => exact .inl (execEnterPiste_grows t ht)
  | perstNAssert => exact .inl (execPerstNAssert_grows t ht)
  | perstNDeassert => exact .inl (execPerstNDeassert_grows t ht)
  | vfEnable => exact .inl (execVfEnable_grows t ht)
  | vfReturnExpiry => exact .inl (execVfReturnExpiry_grows t ht)
  | functionLevelReset => exact .inl (execFunctionLevelReset_grows t ht)
  | keelFeedOutOfWindow => exact .inl (execKeelFeedOutOfWindow_grows t ht)
  | keelFeedRestored x f => exact (execKeelFeedRestored_growsOrRestarts ht).imp_right fun h => ⟨h, .inl ⟨x, f, rfl⟩⟩
  | keelRevertExpiry => exact .inl (execKeelRevertExpiry_grows t ht)
  | holdUpExpiry x => exact (execHoldUpExpiry_growsOrRestarts ht).imp_right fun h => ⟨h, .inr ⟨x, rfl⟩⟩
  | sysrefStop => exact .inl (execSysrefStop_grows t ht)
  | tamperTrip => exact .inl (execTamperTrip_grows t ht)
  | s0Removal => exact .inl (execS0Removal_grows t ht)
  | s0Insertion => exact .inl (execS0Insertion_grows t ht)
  | s1LinkDown => exact .inl (execS1LinkDown_grows t ht)
  | insertionWindowEnd => exact .inl (execInsertionWindowEnd_grows t ht)
  | nvmeCompletion => exact .inl (execNvmeCompletion_grows t ht)
  | nvmeCommandTimeout => exact .inl (execNvmeCommandTimeout_grows t ht)
  | assetReadIssue => exact .inl (execAssetReadIssue_grows t ht)
  | chunkVerify => exact .inl (execChunkVerify_grows t ht)
  | decompressionDone => exact .inl (execDecompressionDone_grows t ht)
  | assetRequestComplete => exact .inl (execAssetRequestComplete_grows t ht)
  | cellWrite => exact .inl (execCellWrite_grows t ht)
  | cellRead => exact .inl (execCellRead_grows t ht)
  | dropRest => exact .inl (execDropRest_grows t ht)
  | queueRebuildDone => exact .inl (execQueueRebuildDone_grows t ht)
  | freeListRebuildDone => exact .inl (execFreeListRebuildDone_grows t ht)
  | histogramSample => exact .inl (execHistogramSample_grows t ht)
  | dispatchCycle => exact .inl (execDispatchCycle_grows t ht)
  | progressReport => exact .inl (execProgressReport_grows t ht)
  | runCommit => exact .inl (execRunCommit_grows t ht)
  | coreFault => exact .inl (execCoreFault_grows t ht)
  | runWatchdogExpiry => exact .inl (execRunWatchdogExpiry_grows t ht)
  | laneTestDone => exact .inl (execLaneTestDone_grows t ht)
  | thermalEvaluation => exact .inl (execThermalEvaluation_grows t ht)
  | slowCoreCheck => exact .inl (execSlowCoreCheck_grows t ht)
  | powerCapTick => exact .inl (execPowerCapTick_grows t ht)
  | lookaheadAnalysisDone => exact .inl (execLookaheadAnalysisDone_grows t ht)
  | laGuardRelease => exact .inl (execLaGuardRelease_grows t ht)
  | sliceIntake => exact .inl (execSliceIntake_grows t ht)
  | displayConcealment => exact .inl (execDisplayConcealment_grows t ht)
  | lateLimitExpiry => exact .inl (execLateLimitExpiry_grows t ht)
  | concealmentDone => exact .inl (execConcealmentDone_grows t ht)
  | recoveryRepeat => exact .inl (execRecoveryRepeat_grows t ht)
  | recoverMessageRx => exact .inl (execRecoverMessageRx_grows t ht)
  | comparatorFire => exact .inl (execComparatorFire_grows t ht)
  | flFrameEdge => exact .inl (execFlFrameEdge_grows t ht)
  | flLineEdge => exact .inl (execFlLineEdge_grows t ht)
  | flFlywheelTimeout => exact .inl (execFlFlywheelTimeout_grows t ht)
  | flChangeApply => exact .inl (execFlChangeApply_grows t ht)
  | flAnchorTx => exact .inl (execFlAnchorTx_grows t ht)
  | flAnchorRx => exact .inl (execFlAnchorRx_grows t ht)
  | relayAnchorTimeout => exact .inl (execRelayAnchorTimeout_grows t ht)
  | capEdge => exact .inl (execCapEdge_grows t ht)
  | syncTx => exact .inl (execSyncTx_grows t ht)
  | syncRx => exact .inl (execSyncRx_grows t ht)
  | followUpRx => exact .inl (execFollowUpRx_grows t ht)
  | delayReqRx => exact .inl (execDelayReqRx_grows t ht)
  | delayRspRx => exact .inl (execDelayRspRx_grows t ht)
  | syncMissHoldover => exact .inl (execSyncMissHoldover_grows t ht)
  | residualSlewDone => exact .inl (execResidualSlewDone_grows t ht)
  | arbitrationAttempt => exact .inl (execArbitrationAttempt_grows t ht)
  | frameReceive => exact .inl (execFrameReceive_grows t ht)
  | creditRx => exact .inl (execCreditRx_grows t ht)
  | flowOpenRx => exact .inl (execFlowOpenRx_grows t ht)
  | flowOpenRepeat => exact .inl (execFlowOpenRepeat_grows t ht)
  | creditRefresh => exact .inl (execCreditRefresh_grows t ht)
  | holdoffExpiry => exact .inl (execHoldoffExpiry_grows t ht)
  | dedupAgeExpiry => exact .inl (execDedupAgeExpiry_grows t ht)
  | headFrameAged => exact .inl (execHeadFrameAged_grows t ht)
  | openTimeoutExpiry => exact .inl (execOpenTimeoutExpiry_grows t ht)
  | hostTimeLaunch => exact .inl (execHostTimeLaunch_grows t ht)
  | integrationDone => exact .inl (execIntegrationDone_grows t ht)
  | portDisableAtIdle => exact .inl (execPortDisableAtIdle_grows t ht)
  | busoffRecoveryDone => exact .inl (execBusoffRecoveryDone_grows t ht)
  | stuckDominantCutoff => exact .inl (execStuckDominantCutoff_grows t ht)
  | lineHeldDominant => exact .inl (execLineHeldDominant_grows t ht)
  | dataDriverRunaway => exact .inl (execDataDriverRunaway_grows t ht)
  | busWakeDetect => exact .inl (execBusWakeDetect_grows t ht)
  | heartbeatTx => exact .inl (execHeartbeatTx_grows t ht)
  | heartbeatRx => exact .inl (execHeartbeatRx_grows t ht)
  | primarySilentSwitch => exact .inl (execPrimarySilentSwitch_grows t ht)
  | partnerSilent => exact .inl (execPartnerSilent_grows t ht)
  | anchorTakeoverCheck => exact .inl (execAnchorTakeoverCheck_grows t ht)
  | gopRequestRx => exact .inl (execGopRequestRx_grows t ht)
  | globalOpRx => exact .inl (execGlobalOpRx_grows t ht)
  | globalOpExecute => exact .inl (execGlobalOpExecute_grows t ht)
  | globalIssueTimeout => exact .inl (execGlobalIssueTimeout_grows t ht)
  | barrierReportRx => exact .inl (execBarrierReportRx_grows t ht)
  | barrierTimeout => exact .inl (execBarrierTimeout_grows t ht)
  | enrollRecordRx => exact .inl (execEnrollRecordRx_grows t ht)
  | enrollTimeout => exact .inl (execEnrollTimeout_grows t ht)
  | gateEntryBoundary => exact .inl (execGateEntryBoundary_grows t ht)
  | checkFeedPacket => exact .inl (execCheckFeedPacket_grows t ht)
  | faultMessage => exact .inl (execFaultMessage_grows t ht)
  | faultVerdictTimeout => exact .inl (execFaultVerdictTimeout_grows t ht)
  | logIntakeDrain => exact .inl (execLogIntakeDrain_grows t ht)
  | xfPairChange => exact .inl (execXfPairChange_grows t ht)
  | xfBrokenExpiry => exact .inl (execXfBrokenExpiry_grows t ht)
  | fltReadbackMismatch => exact .inl (execFltReadbackMismatch_grows t ht)
  | sysrefReturn => exact .inl (execSysrefReturn_grows t ht)
  | mainDomainResetRelease => exact .inl (execMainDomainResetRelease_grows t ht)
  | hbmTrainingDone => exact .inl (execHbmTrainingDone_grows t ht)
  | holdOffLevelReset => exact .inl (execHoldOffLevelReset_grows t ht)
  | lineIdleAfterHold => exact .inl (execLineIdleAfterHold_grows t ht)
  | memberHeartbeatAgeOut => exact .inl (execMemberHeartbeatAgeOut_grows t ht)
  | tjThresholdCrossing => exact .inl (execTjThresholdCrossing_grows t ht)
  | fltReadbackRestored => exact .inl (execFltReadbackRestored_grows t ht)
  | hostLinkRetrain => exact .inl (execHostLinkRetrain_grows t ht)

theorem exec_pending {c : Instr} (ht : exec c s = .next t) : t.pending = s.pending :=
  (exec_growsOrRestarts c ht).elim (·.1) (·.1.1)

theorem exec_burned {c : Instr} (ht : exec c s = .next t) : Burned s.trust t.trust :=
  (exec_growsOrRestarts c ht).elim (·.2.2) (·.1.2.2)

theorem step_burned (ht : step s = .next t) : Burned s.trust t.trust := by
  unfold step at ht
  split at ht
  · cases ht
    exact (tick_grows (.refl s)).2.2
  · next c rest _ =>
    have h := exec_burned (s := { s with pending := rest }) ht
    exact h

end Sys2Proof.Machine
end

section
/-! PROOFS. The queue of commands, the FRC and the fuses. -/

namespace Sys2Proof.Machine

open Sys2Proof.Safety

/-- Settles O3: every row keeps the queue, each operation by its own lemma. -/
theorem queueKept : Obligations.QueueKept := fun _ _ _ ht => exec_pending ht

/-- Settles O11: every row but the two that end a keel's hold-up leaves the FRC or moves it forward. -/
theorem frcNeverGoesBack : Obligations.FrcNeverGoesBack := fun c _ _ ht =>
  (exec_growsOrRestarts c ht).imp (·.2.1) fun ⟨h, hc⟩ => ⟨h.2.1, hc⟩

/-- Settles O12: a step burns fuses and takes none back, so no lifecycle and no floor falls. -/
theorem fusesOnlyBurn : Obligations.FusesOnlyBurn := by
  intro s t hs ht
  obtain ⟨hg, hfw, hcfg⟩ := step_burned ht
  obtain ⟨hlegal, hle, hroot⟩ := hg hs
  exact ⟨hlegal, hle.1, hle.2.1, hle.2.2, hle.lifecycle_le, hfw, hcfg, hroot⟩

end Sys2Proof.Machine
end

section
/-! PROOFS. The queue of commands, and what a mailbox request waits for and is checked for (17 R388, R396). -/

namespace Sys2Proof.Machine

open Sys2Proof.Safety

/-- Settles O1: `step` reads the front of the queue. -/
theorem stepRunsFront : Obligations.StepRunsFront := by
  intro c rest s hs
  unfold step
  rw [hs]

/-- Settles O4: each request is `mbx` with its own columns, which does no more for one that cannot start. -/
theorem requestWaits : Obligations.RequestWaits := by
  intro c sp h s hc hs
  obtain ⟨body, hb⟩ := request_body hc
  rw [hb]
  exact mbx_waits hs

/-- A request that can start and fails a check is answered with that check's status. -/
theorem mbx_checked {sp : Spec} {h : Hdr} {s : State} {e : Status} {body : State → Except Status (State × Option Reply)}
    (hs : startable sp h (advanceReq h s) = true) (he : checkReq sp (asRead h s) (begun sp h s) = some e) :
    mbx sp h s body = .next (finish h e [] (begun sp h s)) := by
  have hm : markStarted sp (asRead h s) (advanceReq h s) = begun sp h s := rfl
  unfold asRead at he hm
  unfold mbx
  simp only [hs, Bool.not_true, Bool.false_eq_true, if_false]
  rw [hm, he]
  rfl

/-- Settles O5: the checks come before the body of every request. -/
theorem failedCheckNoEffect : Obligations.FailedCheckNoEffect := by
  intro c sp h s e hc hs he
  obtain ⟨body, hb⟩ := request_body hc
  rw [hb]
  exact mbx_checked hs he

/-- Settles O6: by the order of the branches of `checkReq`. -/
theorem checkOrder : Obligations.CheckOrder := by
  intro sp h s
  refine ⟨fun hw hh => by simp [checkReq, hw, hh], fun hp hf => by simp [checkReq, hp, hf], fun hw hp => ?_⟩
  have h1 : (sp.w && !h.warden) = false := by
    cases hv : sp.w
    · rfl
    · simp [hw hv]
  have h2 : (sp.pf && h.fn != 0) = false := by
    cases hv : sp.pf
    · rfl
    · simp [hp hv]
  simp only [checkReq, h1, h2, Bool.false_eq_true, if_false]
  refine ⟨fun hs => by simp [hs], fun hs hr => by simp [hs, hr], fun hs h24 hroom => ?_, fun hs hr hroom => ?_⟩
  · simp [hs, h24, hroom]
  · have : (decide (sp.res > 24) && decide (h.room < sp.res)) = false := by
      simpa using hroom
    simp [hs, hr, this]

/-- The requests that HALTED serves while no firmware runs (17 Table 17-3, R388). -/
theorem request_core_iff (c : Instr) : (∃ r, request c = some r ∧ r.1.core = true) ↔
    (∃ h, c = .devInfo h) ∨ (∃ h, c = .engineReset h) ∨ (∃ h a b d e, c = .trustFwRecover h a b d e) := by
  cases c <;> simp [request]

/-- Settles O7: by the engine state. -/
theorem statesServe : Obligations.StatesServe := by
  intro sp h s
  refine ⟨fun he => ?_, fun he => ?_, fun he => ?_, fun he hf => ?_, fun he hf => ?_, request_core_iff⟩
  · simp [stateServes, he]
  · simp [stateServes, he]
  · simp [stateServes, he]
  · simp [stateServes, he, hf, Bool.and_comm]
  · simp [stateServes, he, hf, Bool.and_comm]

end Sys2Proof.Machine
end

section
/-! SUPPORT. Writing a mailbox, and answering into it (17 R395; 16 R383, R392). -/

namespace Sys2Proof.Machine

theorem setMbx_eq (s : State) (fn : Nat) (w : Bool) (m : Mbx) :
    setMbx s fn w m = { s with link := (setMbx s fn w m).link } := by
  cases w <;> rfl

@[simp] theorem setMbx_longs (s : State) (fn : Nat) (w : Bool) (m : Mbx) : (setMbx s fn w m).link.longs = s.link.longs := by
  cases w <;> rfl

@[simp] theorem setMbx_writes (s : State) (fn : Nat) (w : Bool) (m : Mbx) : (setMbx s fn w m).link.writes = s.link.writes := by
  cases w <;> rfl

@[simp] theorem setMbx_compl (s : State) (fn : Nat) (w : Bool) (m : Mbx) : (setMbx s fn w m).link.compl = s.link.compl := by
  cases w <;> rfl

@[simp] theorem canWrite_setMbx (s : State) (fn : Nat) (w : Bool) (m m' : Mbx) :
    canWrite (setMbx s fn w m) m' = canWrite s m' := by
  cases w <;> rfl

/-- Writing one mailbox leaves the others: the warden's ring is one, whatever function it is written under. -/
theorem setMbx_get_other {s : State} {fn fn' : Nat} {w w' : Bool} {m : Mbx} (h : w' ≠ w ∨ w' = false ∧ fn' ≠ fn) :
    mbxGet (setMbx s fn w m) fn' w' = mbxGet s fn' w' := by
  cases w <;> cases w'
  · have hf : fn' ≠ fn := h.elim (fun h => absurd rfl h) (·.2)
    exact congrArg Fn.mbx (setFn_get_other s fn fn' _ hf)
  · rfl
  · rfl
  · simp at h

/-- A response that the link takes joins the writes that wait for it. -/
theorem respond_of_canWrite {s : State} {fn : Nat} {w : Bool} (r : Rsp) (h : canWrite s (mbxGet s fn w) = true) :
    respond fn w r s = { s with link := { s.link with compl := s.link.compl ++ [.rsp fn w r] } } := if_pos h

/-- A response that the link does not take is held on its ring. -/
theorem respond_of_held {s : State} {fn : Nat} {w : Bool} (r : Rsp) (h : canWrite s (mbxGet s fn w) = false) :
    respond fn w r s = setMbx s fn w { mbxGet s fn w with held := (mbxGet s fn w).held ++ [r] } := by
  unfold respond
  simp only [h, Bool.false_eq_true, if_false]

/-- The response to a request: its opcode is that of the request as fetched (17 R395). -/
def answer (h : Hdr) (st : Status) (res : List Int) (m : Mbx) : Rsp :=
  { tag := h.tag, status := st, noInt := h.noInt, addr := h.resAddr, result := res
    op := ((m.fetched.find? (fun f => f.started && f.tag == h.tag)).map (fun f => f.opcode)).getD 0 }

/-- The request is no longer outstanding on its ring. -/
def closed (h : Hdr) (s : State) : State :=
  let m := mbxGet s h.fn h.warden
  setMbx s h.fn h.warden { m with fetched := dropFetched h.tag m.fetched }

theorem finish_eq (h : Hdr) (st : Status) (res : List Int) (s : State) :
    finish h st res s = respond h.fn h.warden (answer h st res (mbxGet s h.fn h.warden)) (closed h s) := rfl

end Sys2Proof.Machine
end

section
/-! PROOFS. What answering a request changes (17 R395; 16 R378, R383, R392). -/

namespace Sys2Proof.Safety

open Sys2Proof.Machine

/-- Settles O9: by whether the link takes the ring's responses, which closing the request does not change. -/
theorem answerFrame : Obligations.AnswerFrame := by
  intro h st res s
  extract_lets t m op r
  have hm : mbxGet (closed h s) h.fn h.warden = { m with fetched := dropFetched h.tag m.fetched } := setMbx_get ..
  have ht : t = respond h.fn h.warden r (closed h s) := finish_eq h st res s
  have hc : closed h s = { s with link := (closed h s).link } := setMbx_eq ..
  have hw : canWrite (closed h s) (mbxGet (closed h s) h.fn h.warden) = canWrite s m := by
    rw [hm]
    exact canWrite_setMbx ..
  have hother {fn : Nat} {w : Bool} (ho : w ≠ h.warden ∨ w = false ∧ fn ≠ h.fn) :
      mbxGet (closed h s) fn w = mbxGet s fn w := setMbx_get_other ho
  have hlongs : (closed h s).link.longs = s.link.longs := setMbx_longs ..
  have hwrites : (closed h s).link.writes = s.link.writes := setMbx_writes ..
  have hcompl : (closed h s).link.compl = s.link.compl := setMbx_compl ..
  cases hcw : canWrite s m
  case true =>
    have ht : t = { closed h s with link := { (closed h s).link with
        compl := (closed h s).link.compl ++ [.rsp h.fn h.warden r] } } := by
      rw [ht, respond_of_canWrite r (hw.trans hcw)]
    have hget (fn : Nat) (w : Bool) : mbxGet t fn w = mbxGet (closed h s) fn w := by rw [ht]; rfl
    refine ⟨?_, by rw [ht, ← hlongs], by rw [ht, ← hwrites], by rw [hget, hm], fun _ => ⟨?_, by rw [hget, hm]⟩, nofun,
      fun fn w ho => (hget fn w).trans (hother ho)⟩
    · rw [ht, hc]
    · rw [ht, ← hcompl]
  case false =>
    have ht : t = setMbx (closed h s) h.fn h.warden
        { m with fetched := dropFetched h.tag m.fetched, held := m.held ++ [r] } := by
      rw [ht, respond_of_held r (hw.trans hcw), hm]
    have hget : mbxGet t h.fn h.warden = { m with fetched := dropFetched h.tag m.fetched, held := m.held ++ [r] } := by
      rw [ht, setMbx_get]
    refine ⟨?_, ?_, ?_, by rw [hget], nofun, fun _ => ⟨?_, by rw [hget]⟩, fun fn w ho => ?_⟩
    · rw [ht, setMbx_eq, hc]
    · rw [ht, setMbx_longs, hlongs]
    · rw [ht, setMbx_writes, hwrites]
    · rw [ht, setMbx_compl, hcompl]
    · rw [ht, setMbx_get_other ho, hother ho]

end Sys2Proof.Safety
end

section
/-! PROOFS. Where the machine stops (15 Table 15-3; 16 Table 16-3). -/

namespace Sys2Proof.Machine

open Sys2Proof.Safety

theorem evOn_next {ok : Bool} {t : Nat} {f : State → State} {s : State} (h : ok = true) : ∃ u, evOn ok t s f = .next u := by
  subst h; exact ⟨_, rfl⟩

theorem evOn_ne_refused {ok : Bool} {t : Nat} {f : State → State} {s : State} {r : Refusal} : evOn ok t s f ≠ .refused r := by
  unfold evOn ev
  split <;> nofun

/-- A write of a register that names a function stops only at an open debug window. -/
theorem execRegisterWrite_of_lt {t fn off w : Nat} {v : DWord} {s : State} (hf : fn < 64) :
    execRegisterWrite t fn off w v s = if debugHit (advance t s) fn off w then .refused .debugWindow
      else .next (barWrite fn off w v (advance t s)) := if_pos hf

theorem execRegisterWrite_of_le {t fn off w : Nat} {v : DWord} {s : State} (hf : ¬ fn < 64) :
    execRegisterWrite t fn off w v s = .fault .noSuchObject := if_neg hf

/-- An event that names what the hardware has takes place: its row asks for just what makes it well-formed. -/
theorem event_next_of_wf {c : Instr} (s : State) (hc : request c = none) (hw : Instr.wf c = true)
    (hr : ∀ t fn off w v, c ≠ .registerWrite t fn off w v) : ∃ t, exec c s = .next t := by
  cases c <;> simp only [request, reduceCtorEq] at hc
  case registerWrite => exact (hr _ _ _ _ _ rfl).elim
  case mbxDoorbellWrite | stalePhaseRetry | mbxEnableSet | mbxEnableClear | mbxRspHeadWrite | queueDoorbellWrite |
      msixHoldoffEnd | functionLevelReset | tamperTrip | progressReport | runCommit | coreFault | runWatchdogExpiry |
      laneTestDone | thermalEvaluation | slowCoreCheck | comparatorFire | flFrameEdge | flLineEdge | flFlywheelTimeout |
      flChangeApply | flAnchorTx | relayAnchorTimeout | capEdge | checkFeedPacket | faultMessage | faultVerdictTimeout |
      xfPairChange | xfBrokenExpiry | tjThresholdCrossing => exact evOn_next hw
  all_goals exact ⟨_, rfl⟩

/-- A register write that names a function stops only at an open debug window. -/
theorem registerWrite_next {t fn off w : Nat} {v : DWord} {s : State} (hw : Instr.wf (.registerWrite t fn off w v) = true)
    (hd : debugHit (advance t s) fn off w = false) : ∃ u, exec (.registerWrite t fn off w v) s = .next u := by
  have hf : fn < 64 := by
    simp only [Instr.wf, Bool.and_eq_true, decide_eq_true_eq] at hw
    exact hw.1.1
  refine ⟨barWrite fn off w v (advance t s), (execRegisterWrite_of_lt hf).trans ?_⟩
  rw [hd, if_neg Bool.false_ne_true]

theorem exec_refused {c : Instr} {s : State} {r : Refusal} (he : exec c s = .refused r) : r = .debugWindow ∧
    ∃ t fn off w v, c = .registerWrite t fn off w v ∧ debugHit (advance t s) fn off w = true := by
  cases hc : request c
  case some p =>
    obtain ⟨body, hb⟩ := request_body (sp := p.1) (h := p.2) hc
    obtain ⟨t, ht⟩ := mbx_next (sp := p.1) (h := p.2) (s := s) (body := body)
    rw [hb, ht] at he
    cases he
  case none =>
    obtain ⟨t, f, hb⟩ | ⟨ok, t, f, hb⟩ | ⟨t, fn, off, w, v, rfl⟩ := event_body hc
    · rw [hb] at he
      cases he
    · rw [hb] at he
      exact absurd he evOn_ne_refused
    · have he : execRegisterWrite t fn off w v s = .refused r := he
      by_cases hf : fn < 64
      · rw [execRegisterWrite_of_lt hf] at he
        split at he
        · next hd => cases he; exact ⟨rfl, t, fn, off, w, v, rfl, hd⟩
        · cases he
      · rw [execRegisterWrite_of_le hf] at he
        cases he

theorem exec_next_of_wf {c : Instr} {s : State} (hw : Instr.wf c = true)
    (hd : ∀ t fn off w v, c = .registerWrite t fn off w v → debugHit (advance t s) fn off w = false) :
    ∃ t, exec c s = .next t := by
  cases hc : request c
  case some p =>
    obtain ⟨body, hb⟩ := request_body (sp := p.1) (h := p.2) hc
    rw [hb]
    exact mbx_next
  case none =>
    by_cases hr : ∃ t fn off w v, c = .registerWrite t fn off w v
    · obtain ⟨t, fn, off, w, v, rfl⟩ := hr
      exact registerWrite_next hw (hd _ _ _ _ _ rfl)
    · exact event_next_of_wf s hc hw fun t fn off w v h => hr ⟨t, fn, off, w, v, h⟩

theorem exec_fault {c : Instr} {s : State} {f : Fault} (he : exec c s = .fault f) : request c = none ∧ Instr.wf c = false := by
  have hc : request c = none := by
    cases hc : request c
    case none => rfl
    case some p =>
      obtain ⟨body, hb⟩ := request_body (sp := p.1) (h := p.2) hc
      obtain ⟨t, ht⟩ := mbx_next (sp := p.1) (h := p.2) (s := s) (body := body)
      rw [hb, ht] at he
      cases he
  refine ⟨hc, Bool.eq_false_iff.2 fun hw => ?_⟩
  by_cases hr : ∃ t fn off w v, c = .registerWrite t fn off w v
  · obtain ⟨t, fn, off, w, v, rfl⟩ := hr
    have hf : fn < 64 := by
      simp only [Instr.wf, Bool.and_eq_true, decide_eq_true_eq] at hw
      exact hw.1.1
    have he := (execRegisterWrite_of_lt hf).symm.trans he
    split at he <;> cases he
  · obtain ⟨t, ht⟩ := event_next_of_wf s hc hw fun t fn off w v h => hr ⟨t, fn, off, w, v, h⟩
    rw [ht] at he
    cases he

/-- Settles O10: a request always answers, an event asks for no more than being well-formed, and a register write stops
at an open debug window alone. -/
theorem onlyStops : Obligations.OnlyStops :=
  ⟨fun _ _ _ => exec_refused, fun _ _ _ => exec_fault, fun _ _ => exec_next_of_wf⟩

end Sys2Proof.Machine
end

section
/-! PROOFS. The state at reset, and what RESET_N leaves (15 R353; 19 R436, Table 19-3). -/

namespace Sys2Proof.Machine

open Sys2Proof.Safety

/-- Settles O13: the fuses of the state at reset are all clear. -/
theorem resetFuses : Obligations.ResetFuses :=
  ⟨⟨Nat.zero_le _, Nat.zero_le _, Nat.zero_le _⟩, rfl, rfl⟩

/-- Settles O53: `resetMain` names what is kept, at the row's instant, and takes the rest from power-up. -/
theorem resetNLeaves : Obligations.ResetNLeaves := by
  intro t s u hu
  cases hu
  refine ⟨rfl, rfl, rfl, rfl, advance_pending s t, ?_⟩
  simp only [resetMain, State.reset, advance_pending, advance_keelHalt, advance_free]

end Sys2Proof.Machine
end

section
/-! PROOFS. Domain time, and pulses on TRIG pins (02 R30, R54). -/

namespace Sys2Proof.Machine

theorem slewGain_nonneg (ns : Nat) : 0 ≤ slewGain ns := Int.natCast_nonneg _

/-- A gain clipped to a change lies between nothing and that change. -/
theorem clip_bounds (v : Int) {g : Int} (hg : 0 ≤ g) : let c := if v = 0 then 0 else if 0 ≤ v then min v g else max v (-g)
    (v = 0 → c = 0) ∧ (0 ≤ v → 0 ≤ c ∧ c ≤ v) ∧ (v ≤ 0 → v ≤ c ∧ c ≤ 0) := by
  intro c
  by_cases h0 : v = 0
  · have hc : c = 0 := if_pos h0
    omega
  · have hc : c = if 0 ≤ v then min v g else max v (-g) := if_neg h0
    by_cases hv : 0 ≤ v
    · have hc : c = min v g := hc.trans (if_pos hv)
      omega
    · have hc : c = max v (-g) := hc.trans (if_neg hv)
      omega

/-- What a slew has made lies between nothing and the whole change. -/
theorem slewGained_bounds (d : DomSet) (x : Ticks) :
    (d.slew = 0 → slewGained d x = 0) ∧ (0 ≤ d.slew → 0 ≤ slewGained d x ∧ slewGained d x ≤ d.slew) ∧
    (d.slew ≤ 0 → d.slew ≤ slewGained d x ∧ slewGained d x ≤ 0) :=
  clip_bounds d.slew (slewGain_nonneg _)

/-- A timestamp is the FRC with its TDC fraction, which has 6 bits. -/
theorem rawStamp_of_lt {frc tdc : Nat} (h : tdc < 64) :
    rawStamp frc tdc = Int.ofNat frc * 65536 + Int.ofNat (tdc * 1024) := by
  simp [rawStamp, Nat.mod_eq_of_lt h]

/-- Settles O19: the formula is that of `domAt`, with the bounds of the slew. -/
theorem domainTime : Obligations.DomainTime := by
  refine ⟨fun _ _ => rfl, fun _ _ => rawStamp_of_lt, fun d x => ⟨?_, slewGained_bounds d x⟩⟩
  rw [domAt, Int.fdiv_eq_ediv_of_nonneg _ (by positivity)]

/-- Settles O21: by whether the time-trigger role drives the pin. -/
theorem trigPulse : Obligations.TrigPulse := by
  intro i s _ x y
  have hy : y = if x.owner.isNone || faultRole s i then { x with ignored := x.ignored + 1 }
    else { x with pulseEnd := some (max (x.pulseEnd.getD 0) (s.keel.frc + x.width)) } := tgetD_tput ..
  constructor
  · intro ho hf
    rw [hy, if_neg (by simp [hf, Option.isNone_iff_eq_none, ho])]
  · intro h
    rw [hy, if_pos (by simpa [Option.isNone_iff_eq_none] using h)]

end Sys2Proof.Machine
end

section
/-! SUPPORT. Positions and times of a raster: rounding to the nearest time, and back to the latest position (02 R48). -/

namespace Sys2Proof.Machine

variable {a b : Int}

/-- The units that are over at a time are those whose rounded time is not after it. -/
theorem le_unitsAt_iff (ha : 0 < a) (hb : 0 < b) (u tau : Int) : u ≤ unitsAt a b tau ↔ timeOfUnits a b u ≤ tau := by
  have h1 : u ≤ unitsAt a b tau ↔ u * (2 * a) ≤ (2 * tau + 1) * b - 1 := by
    rw [unitsAt, Int.fdiv_eq_ediv_of_nonneg _ (by omega), Int.le_ediv_iff_mul_le (by omega)]
  have h2 : timeOfUnits a b u ≤ tau ↔ 2 * u * a + b < (tau + 1) * (2 * b) := by
    rw [timeOfUnits, Int.fdiv_eq_ediv_of_nonneg _ (by omega), ← Int.lt_add_one_iff, Int.ediv_lt_iff_lt_mul (by omega)]
  rw [h1, h2]
  constructor <;> intro h <;> linarith

/-- A time before the next unit's is one at which that unit is not over. -/
theorem unitsAt_lt_iff (ha : 0 < a) (hb : 0 < b) (u tau : Int) : unitsAt a b tau < u ↔ tau < timeOfUnits a b u := by
  rw [← not_le, le_unitsAt_iff ha hb, not_le]

/-- Where a unit takes at least one tick, rounding tells any two units apart. -/
theorem timeOfUnits_lt_succ (hb : 0 < b) (hab : b ≤ a) (u : Int) : timeOfUnits a b u < timeOfUnits a b (u + 1) := by
  have hstep : 2 * u * a + b + 1 * (2 * b) ≤ 2 * (u + 1) * a + b := by linarith
  have h := Int.ediv_le_ediv (by omega : (0 : Int) < 2 * b) hstep
  rw [Int.add_mul_ediv_right _ _ (by omega)] at h
  rw [timeOfUnits, timeOfUnits, Int.fdiv_eq_ediv_of_nonneg _ (by omega), Int.fdiv_eq_ediv_of_nonneg _ (by omega)]
  exact Int.lt_of_add_one_le h

/-- A number of units, converted to a time and back, is the same number. -/
theorem unitsAt_timeOfUnits (hb : 0 < b) (hab : b ≤ a) (u : Int) : unitsAt a b (timeOfUnits a b u) = u := by
  have ha : 0 < a := by omega
  have hle := (le_unitsAt_iff ha hb u (timeOfUnits a b u)).2 le_rfl
  have hlt := (unitsAt_lt_iff ha hb (u + 1) (timeOfUnits a b u)).2 (timeOfUnits_lt_succ hb hab u)
  omega

/-- On a raster, positions and times are units counted from the line's anchor. -/
theorem flIdxAt_of_raster {f : FallLine} (hf : flSource f = 1 ∨ flSource f = 2) (tau : Ticks) :
    flIdxAt f tau = some ((flAnchor f).1 + unitsAt (flRate f).1 (flRate f).2 (tau - (flAnchor f).2)) := by
  unfold flIdxAt
  obtain h | h := hf <;> rw [h] <;> rfl

theorem flTimeOf_of_raster {f : FallLine} (hf : flSource f = 1 ∨ flSource f = 2) (i : Int) :
    flTimeOf f i = some ((flAnchor f).2 + timeOfUnits (flRate f).1 (flRate f).2 (i - (flAnchor f).1)) := by
  unfold flTimeOf
  obtain h | h := hf <;> rw [h] <;> rfl

end Sys2Proof.Machine
end

section
/-! PROOFS. Positions of fall lines, and the servo loop (02 R37, R48). -/

namespace Sys2Proof.Machine

/-- Settles O20: a raster's positions are units of at least one tick counted from its anchor. -/
theorem positionRoundTrip : Obligations.PositionRoundTrip := by
  intro f i hf hp
  have hd : 1 ≤ flDen f * flLines f := Nat.mul_pos (Nat.le_max_left ..) (Nat.le_max_left ..)
  have hp : 64 * (flDen f * flLines f) ≤ flPeriodNum f := by rwa [← Nat.mul_assoc]
  obtain ⟨hb, hab⟩ : 0 < (flRate f).2 ∧ (flRate f).2 ≤ (flRate f).1 := by
    simp only [flRate, Int.ofNat_eq_natCast]
    omega
  simp only [flIdxAt_of_raster hf, flTimeOf_of_raster hf]
  refine ⟨⟨_, rfl, ?_⟩, fun tau j hj => ⟨_, _, rfl, rfl, ?_, ?_⟩⟩
  · rw [add_sub_cancel_left, unitsAt_timeOfUnits hb hab, add_sub_cancel]
  all_goals
    obtain rfl := Option.some.inj hj
    have ha := hb.trans_le hab
  · rw [add_sub_cancel_left, ← le_sub_iff_add_le']
    exact (le_unitsAt_iff ha hb _ _).1 le_rfl
  · rw [add_assoc, add_sub_cancel_left, ← sub_lt_iff_lt_add']
    exact (unitsAt_lt_iff ha hb _ _).1 (lt_add_one _)

@[simp] theorem servoOf_setServo (d : Dom) (v : Servo) (s : State) : servoOf (setServo d v s) d = v := by cases d <;> rfl

theorem servoOf_setRate (d : Dom) (r : Int) (s : State) : servoOf (setRate d r s) d = servoOf s d := by cases d <;> rfl

theorem domNow_setRate (d : Dom) (r : Int) (s : State) : domNow (setRate d r s) d = domNow s d := by
  obtain ⟨_, _, _, _, hnow, _⟩ := rateChangeNoJump d r s
  exact hnow

theorem rateAdj_setRate (d : Dom) (r : Int) (s : State) : (domSet (setRate d r s).keel d).rateAdj = clipRate r :=
  (rateChangeNoJump d r s).1

/-- Settles O26: by whether theta is beyond 1 µs; a new rate leaves domain time where it is. -/
theorem servoLoop_rate : Obligations.ServoLoop := by
  intro d theta s sv
  constructor
  · intro hlo hhi ratio integ
    have hin : ¬(theta < -microTicks ∨ microTicks < theta) := not_or.2 ⟨not_lt.2 hlo, not_lt.2 hhi⟩
    have h : servoLoop d theta s = setRate d (clampI (sv.freqEst - integ - sar ratio (fnat sv.f 0x2304 2))
        (sv.freqEst - ppm500) (sv.freqEst + ppm500)) (setServo d { sv with integ := integ } s) := if_neg hin
    rw [h, servoOf_setRate, servoOf_setServo]
    refine ⟨rateAdj_setRate .., rfl, (domNow_setRate ..).trans ?_⟩
    unfold domNow frcTicks
    rw [setServo_keel]
  · intro hout
    have hout : theta < -microTicks ∨ microTicks < theta := hout.symm
    exact ⟨_, if_pos hout, rfl⟩

end Sys2Proof.Machine
end

section
/-! PROOFS. Token buckets and gate lists (13 R323, R332). -/

namespace Sys2Proof.Machine

/-- The gain of a bucket in units of 1/8000000000 of a token, with what it carried. -/
def bucketUnits (b : Bucket) (frc : Nat) : Nat := (frc - b.upd) * b.rate * 65536 + b.carry

theorem refill_eq (b : Bucket) (frc : Nat) : refill b frc =
    { b with tokens := min (byteTokens b.burst) (b.tokens + Int.ofNat (bucketUnits b frc / 8000000000))
             carry := bucketUnits b frc % 8000000000, upd := max b.upd frc } := rfl

/-- The units of a whole time are those of its first part and of the rest. -/
theorem bucketUnits_split {b : Bucket} {x y : Nat} (hx : b.upd ≤ x) (hy : x ≤ y) :
    bucketUnits b y = (y - x) * b.rate * 65536 + bucketUnits b x := by
  have h : y - b.upd = (y - x) + (x - b.upd) := by omega
  simp only [bucketUnits, h]
  ring

/-- After a refill a bucket carries the part of a token that was left over. -/
theorem bucketUnits_refill {b : Bucket} {x y : Nat} (hx : b.upd ≤ x) :
    bucketUnits (refill b x) y = (y - x) * b.rate * 65536 + bucketUnits b x % 8000000000 := by
  simp only [refill_eq, bucketUnits, max_eq_right hx]

theorem refill_refill {b : Bucket} {x y : Nat} (hx : b.upd ≤ x) (hy : x ≤ y) : refill (refill b x) y = refill b y := by
  have hu := bucketUnits_refill (b := b) (y := y) hx
  have hs := bucketUnits_split hx hy
  rw [refill_eq (refill b x), refill_eq b y, hu, hs]
  simp only [refill_eq b x, Bucket.mk.injEq, Int.ofNat_eq_natCast, true_and]
  generalize (y - x) * b.rate * 65536 = g
  generalize bucketUnits b x = n
  omega

/-- Settles O39: the carried part keeps what a token's worth of time has not filled, and BURST clips at the end as on the
way. -/
theorem bucketNoLoss : Obligations.BucketNoLoss := by
  intro b x y hx hy
  refine ⟨refill_refill hx hy, min_le_left .., fun hb => ?_⟩
  have ht : (refill b x).tokens = b.tokens + Int.ofNat (bucketUnits b x / 8000000000) := min_eq_right hb
  have hc : (refill b x).carry = bucketUnits b x % 8000000000 := rfl
  have hu : bucketUnits b x = (x - b.upd) * b.rate * 65536 + b.carry := rfl
  rw [ht, hc]
  generalize (x - b.upd) * b.rate * 65536 = g at hu ⊢
  simp only [Int.ofNat_eq_natCast]
  omega

/-- Entries that are not reached leave the gate state as it is. -/
theorem foldl_mask_of_lt {s : State} {g : GateList} {x : Int} {r : List GateEntry} (m : Nat)
    (h : ∀ k ∈ r, x < entryOff s g k) : r.foldl (fun m e => if entryOff s g e ≤ x then e.mask else m) m = m := by
  induction r generalizing m with
  | nil => rfl
  | cons e r ih =>
    have he : ¬ entryOff s g e ≤ x := not_le.2 (h e List.mem_cons_self)
    rw [List.foldl_cons, if_neg he]
    exact ih m fun k hk => h k (List.mem_cons_of_mem _ hk)

/-- Settles O41: the last entry reached writes the state, and those behind it are not reached. -/
theorem gateMask_last : Obligations.GateMask := by
  intro s g x l e r hg he hr
  rw [maskAt, hg, List.foldl_append, List.foldl_cons, if_pos he]
  exact foldl_mask_of_lt _ hr

end Sys2Proof.Machine
end

section
/-! PROOFS. Check values of parts, and of messages that carry their own (14 R341-R345). -/

namespace Sys2Proof.Machine

/-- Bytes of which none is the last one are fed whole. -/
theorem crcFeed_cons (p : CrcParams) (k v : Nat) (x : Byte) {l : List Byte} (h : l ≠ []) :
    crcFeed p k v (x :: l) = crcFeed p k (crcByte p 8 v x) l := by
  cases l with
  | nil => exact absurd rfl h
  | cons y l => rfl

theorem crcFeed_zero_cons (p : CrcParams) (v : Nat) (x : Byte) (l : List Byte) :
    crcFeed p 0 v (x :: l) = crcFeed p 0 (crcByte p 8 v x) l := by
  cases l with
  | nil => rfl
  | cons y l => rfl

/-- A message fed in parts has the running value of the whole. -/
theorem crcFeed_append (p : CrcParams) (k v : Nat) (a : List Byte) {b : List Byte} (hb : b ≠ []) :
    crcFeed p k (crcFeed p 0 v a) b = crcFeed p k v (a ++ b) := by
  induction a generalizing v with
  | nil => rfl
  | cons x a ih =>
    have hne : a ++ b ≠ [] := by simp [hb]
    rw [crcFeed_zero_cons, ih, List.cons_append, crcFeed_cons p k v x hne]

theorem reflect_lt (w v : Nat) : reflect w v < 2 ^ w := by
  induction w generalizing v with
  | zero => exact Nat.one_pos
  | succ w ih =>
    have h1 := ih (v / 2)
    have h2 : v % 2 < 2 := Nat.mod_lt _ (by decide)
    rw [reflect, Nat.pow_succ']
    obtain h | h : v % 2 = 0 ∨ v % 2 = 1 := by omega
    all_goals rw [h]; omega

/-- A check value keeps within the width of its polynomial. -/
theorem crcFinal_lt {p : CrcParams} {v : Nat} (hx : p.xorout < 2 ^ p.width) (hv : v < 2 ^ p.width) :
    crcFinal p v < 2 ^ p.width := by
  unfold crcFinal
  refine Nat.xor_lt_two_pow ?_ hx
  split
  · exact reflect_lt ..
  · exact hv

@[simp] theorem orderBytes_length (p : CrcParams) (v : Nat) : (orderBytes p v).length = valueBytes p := by
  unfold orderBytes
  split <;> simp

/-- The bytes of a check value, put back from their order, spell it. -/
theorem leNat_orderBytes {p : CrcParams} {v : Nat} (hv : v < 2 ^ p.width) :
    leNat (if p.big then (orderBytes p v).reverse else orderBytes p v) = v := by
  have hw : 2 ^ p.width ≤ 256 ^ valueBytes p := by
    rw [show (256 : Nat) = 2 ^ 8 from rfl, ← Nat.pow_mul]
    exact Nat.pow_le_pow_right (by decide) (by unfold valueBytes; omega)
  have hv : leNat (leBytes (valueBytes p) v) = v := by
    rw [leNat_leBytes, Nat.mod_eq_of_lt (hv.trans_le hw)]
  unfold orderBytes
  split <;> simpa using hv

/-- A unit that strips holds back the last bytes of what it was fed, and computes over those before. -/
theorem unitFeedBytes_strip {u : CheckUnit} (hs : u.strip = true) (hh : u.ctx.held = []) (data tail : List Byte)
    (ht : tail.length = valueBytes u.p) : unitFeedBytes 0 (data ++ tail) u =
      { u with ctx := { u.ctx with value := crcFeed u.p 0 u.ctx.value data, held := tail
                                   bytes := (u.ctx.bytes + (data ++ tail).length) % 2 ^ 48 } } := by
  have hk : (data ++ tail).length - valueBytes u.p = data.length := by
    rw [List.length_append, ht, Nat.add_sub_cancel]
  simp only [unitFeedBytes, hs, if_true, hh, List.nil_append, hk, List.take_left, List.drop_left]

/-- Settles O43: the unit holds back just the check value, which is that of the data before it. -/
theorem checkParts : Obligations.CheckParts := by
  refine ⟨fun p k v a b hb => crcFeed_append p k v a hb, ?_⟩
  intro u data p hs _ _ hinit hpoly hxor
  have hv : crcFinal p (crcFeed p 0 p.init data) < 2 ^ p.width := crcFinal_lt hxor (crcFeed_lt p 0 _ data hpoly hinit)
  have hfeed := unitFeedBytes_strip (u := unitStart u) hs rfl data (orderBytes p (crcFinal p (crcFeed p 0 p.init data)))
    (orderBytes_length ..)
  rw [hfeed]
  have hlen : (orderBytes p (crcFinal p (crcFeed p 0 p.init data))).length = valueBytes p := orderBytes_length ..
  have hval := leNat_orderBytes hv
  simp only [unitMatch, Bool.and_eq_true, beq_iff_eq, decide_eq_true_eq]
  exact ⟨⟨hs, hlen⟩, hval⟩

end Sys2Proof.Machine
end

section
/-! SUPPORT. Bodies of requests: the rules that hold, one after another (17 R397). -/

namespace Sys2Proof.Machine

/-- A rule that yields a value lets the body go on with it. -/
theorem bind_of_eq_ok {α β : Type} {x : Except Status α} {a : α} (h : x = .ok a) (k : α → Except Status β) : (x >>= k) = k a := by
  subst h; rfl

theorem need_of_true {c : Bool} {e : Status} (h : c = true) : need c e = .ok () := by
  subst h; rfl

/-- A number in its range is taken where every step is. -/
theorem stepped_one {v lo hi : Nat} (h1 : lo ≤ v) (h2 : v ≤ hi) : stepped v lo hi 1 = .ok () :=
  need_of_true (by simp [h1, h2, Nat.mod_one])

end Sys2Proof.Machine
end

section
/-! PROOFS. The DEV commands (17 Tables 17-4, 17-4a; 19 R437). -/

namespace Sys2Proof.Machine

open Sys2Proof.Safety

/-- Settles O14: each command's rules answer at once, but ENGINE.RESET, which goes on as the warm reset. -/
theorem devCommands : Obligations.DevCommands := by
  refine ⟨?info, ?read, ?vfReturn, ?reset⟩
  case info =>
    intro h s hs b
    unfold exec execDevInfo
    exact mbx_answers (r := (.ok, _)) hs rfl
  case read =>
    intro h key v s hs h1 h7
    unfold exec execDevConfig
    exact mbx_answers (r := (.ok, _)) hs (need_bind_of_true (by simp [h1, h7]) _)
  case vfReturn =>
    intro h v s hs h1 h60 b
    have hset (b : State) : setConfig h 6 (some v) b = .ok { b with link := { b.link with vfReturn := v } } :=
      bind_of_eq_ok (stepped_one h1 h60) _
    unfold exec execDevConfig
    exact mbx_answers (r := (.ok, _)) hs ((need_bind_of_true rfl _).trans (bind_of_eq_ok (hset _) _))
  case reset =>
    intro h s hs b hp
    have hask : askReset (outstanding h .engineReset b) = startReset (outstanding h .engineReset b) :=
      if_neg (by simpa [outstanding] using hp)
    unfold exec execEngineReset
    exact mbx_goes_on hs (congrArg (fun t => Except.ok (t, none)) hask)

end Sys2Proof.Machine
end

section
/-! SUPPORT. A fall line that is OFF, and the terms of a port (02 Tables 2-6, 2-9). -/

namespace Sys2Proof.Machine

/-- A line that is OFF has no position, so nothing waits for its frame. -/
theorem flDue_of_off {s : State} {n : Nat} (h : flSource (flGet s n) = 3) : flDue s n = false := by
  have hi (tau : Ticks) : flIdxAt (flGet s n) tau = none := by
    unfold flIdxAt
    rw [h]
    rfl
  have hf : flFrame s n = none := by
    simp only [flFrame, flNow, hi, Option.map_none]
  dsimp only [flDue]
  rw [hf]
  cases (flGet s n).pendFrame <;> rfl

theorem settleFl_of_off {s : State} {n : Nat} (h : flSource (flGet s n) = 3) : settleFl n s = s :=
  if_pos (by simp [flDue_of_off h])

/-- The three terms of a port as one record each are taken in their ranges (Table 2-6). -/
theorem recsOk_termFields {tx rx asym : Int} (h1 : 0 ≤ tx) (h2 : tx < 65536) (h3 : 0 ≤ rx) (h4 : rx < 65536)
    (h5 : -32768 ≤ asym) (h6 : asym < 32768) :
    recsOk termFields [⟨0x2601, .num tx⟩, ⟨0x2602, .num rx⟩, ⟨0x2603, .num asym⟩] = .ok () := by
  refine need_of_true ?_
  have h2 : tx ≤ 65535 := by omega
  have h4 : rx ≤ 65535 := by omega
  have h6 : asym ≤ 32767 := by omega
  have hstep (x : Int) : Int.emod x 1 = 0 := Int.emod_one x
  simp [noDup, termFields, specOf, fld, inRange, h1, h2, h3, h4, h5, h6, hstep]

end Sys2Proof.Machine
end

section
/-! PROOFS. The TIME commands that set (02 Tables 2-3, 2-6, 2-9; 17 Table 17-5). -/

namespace Sys2Proof.Machine

open Sys2Proof.Safety

/-- Settles O16: every check of each command holds, and its rules write what the clause says. -/
theorem timeSettings : Obligations.TimeSettings := by
  refine ⟨?ta, ?tb, ?auto, ?adjust, ?servo, ?port, ?fallLine⟩
  case ta =>
    intro h s hs b
    unfold exec execTimeSelect
    exact mbx_answers (r := (.ok, _)) hs ((need_bind_of_true (by decide) _).trans (congrArg done (if_pos rfl)))
  case tb =>
    intro h s hs b
    unfold exec execTimeSelect
    exact mbx_answers (r := (.ok, _)) hs ((need_bind_of_true (by decide) _).trans (congrArg done ((if_neg (by decide)).trans (if_pos rfl))))
  case auto =>
    intro h s hs b
    unfold exec execTimeSelect
    exact mbx_answers (r := (.ok, _)) hs ((need_bind_of_true (by decide) _).trans (congrArg done ((if_neg (by decide)).trans (if_neg (by decide)))))
  case adjust =>
    intro h r s hs b hm
    unfold exec execTimeAdjust
    exact mbx_answers (r := (.ok, _)) hs (need_bind_of_true (beq_iff_eq.2 hm) _)
  case servo =>
    intro h recs s hs b hr hn
    unfold exec execTimeServoSet
    refine mbx_answers (r := (.ok, _)) hs ((bind_of_eq_ok hr _).trans ?_)
    dsimp only
    split
    · rw [hn]
      rfl
    · rfl
  case port =>
    intro h tx rx asym s c hs h1 h2 h3 h4 h5 h6 b
    unfold exec execTimePortSet
    exact mbx_answers (r := (.ok, _)) hs (bind_of_eq_ok (recsOk_termFields h1 h2 h3 h4 h5 h6) _)
  case fallLine =>
    intro h fl recs s hs b f hfl hr ha hf h3 hn3
    have hset : settleFl fl b = b := settleFl_of_off h3
    have hbusy : (!(names recs 0x2901 && flSource f == 3 && flNamed b fl)) = true := by simp [hn3]
    unfold exec execTimeFlSet
    refine mbx_answers (r := (.ok, _)) hs ((need_bind_of_true (decide_eq_true hfl) _).trans <| (bind_of_eq_ok hr _).trans <|
      (need_bind_of_true ha _).trans ?_)
    rw [show settleFl fl (begun _ _ s) = b from hset]
    exact (need_bind_of_true hf _).trans ((need_bind_of_true hbusy _).trans (if_pos h3))

end Sys2Proof.Machine
end

section
/-! SUPPORT. Queues that a caller may use, and the flags that an ACK leaves (03 R83; 17 R397). -/

namespace Sys2Proof.Machine

section
variable {α β : Type} {e : Status} {r : Except Status β}

/-- A rule that holds, and then the rest. -/
theorem need_then {c : Bool} (hc : c = true) {k : Unit → Except Status β} (h : k () = r) : (need c e >>= k) = r :=
  (need_bind_of_true hc k).trans h

/-- A rule that yields a value, and then the rest. -/
theorem ok_then {x : Except Status α} {a : α} (hx : x = .ok a) {k : α → Except Status β} (h : k a = r) : (x >>= k) = r :=
  (bind_of_eq_ok hx k).trans h

end

theorem owned_of_eq {h : Hdr} {o : Nat} (ho : o = h.fn) : owned h o = .ok () := need_of_true (beq_iff_eq.2 ho)

section
variable {h : Hdr} {s : State} {n : Nat} {x : Queue}

/-- The caller's own queue is found. -/
theorem ownQueue_eq (hn : n < 32768) (hq : qGet s n = some x) (ho : qFn x.w = h.fn) : ownQueue h s n = .ok x := by
  refine (need_bind_of_true (decide_eq_true hn) _).trans ((bind_of_eq_ok (a := x) ?_ _).trans (bind_of_eq_ok (owned_of_eq ho) _))
  rw [hq]
  rfl

theorem liveQueue_eq (hn : n < 32768) (hq : qGet s n = some x) (ho : qFn x.w = h.fn) (hs : x.stopped = false) :
    liveQueue h s n = .ok x :=
  (bind_of_eq_ok (ownQueue_eq hn hq ho) _).trans (need_bind_of_true (by simp [hs]) _)

end

/-- A sum of distinct powers of two spells its terms in its bits. -/
theorem testBit_foldl_range (c : Nat → Bool) (n : Nat) :
    (List.range n).foldl (fun v i => if c i then v + 2 ^ i else v) 0 < 2 ^ n ∧
    ∀ i, i < n → bitOf ((List.range n).foldl (fun v i => if c i then v + 2 ^ i else v) 0) i = c i := by
  induction n with
  | zero => exact ⟨Nat.one_pos, fun i hi => absurd hi (Nat.not_lt_zero i)⟩
  | succ n ih =>
    obtain ⟨hlt, hbit⟩ := ih
    rw [List.range_succ, List.foldl_append]
    generalize (List.range n).foldl (fun v i => if c i then v + 2 ^ i else v) 0 = v at hlt hbit
    simp only [List.foldl_cons, List.foldl_nil]
    cases hc : c n
    · refine ⟨(if_neg Bool.false_ne_true).trans_lt (hlt.trans (Nat.pow_lt_pow_succ (by decide))), fun i hi => ?_⟩
      rw [if_neg Bool.false_ne_true]
      obtain hi | rfl := Nat.lt_succ_iff_lt_or_eq.1 hi
      · exact hbit i hi
      · simp [bitOf, Nat.div_eq_of_lt hlt, hc]
    · rw [if_pos rfl]
      refine ⟨by rw [Nat.pow_succ]; omega, fun i hi => ?_⟩
      obtain hi | rfl := Nat.lt_succ_iff_lt_or_eq.1 hi
      · have hp : 2 ^ n = 2 ^ i * (2 * 2 ^ (n - i - 1)) := by
          rw [← Nat.pow_succ', ← Nat.pow_add]
          congr 1
          omega
        rw [← hbit i hi, bitOf, bitOf, hp, Nat.add_mul_div_left _ _ (Nat.two_pow_pos i), Nat.add_mul_mod_self_left]
      · simp [bitOf, Nat.add_div_right _ (Nat.two_pow_pos i), Nat.div_eq_of_lt hlt, hc]

/-- An ACK leaves the flags that it does not name and those raised in its own cycle (R83). -/
theorem bitOf_flagsLeft (frc mask : Nat) (q : Queue) {i : Nat} (hi : i < 8) :
    bitOf (flagsLeft frc mask q) i = (bitOf q.status i && (!(bitOf mask i) || flagFresh q frc i)) :=
  (testBit_foldl_range (fun i => bitOf q.status i && (!(bitOf mask i) || flagFresh q frc i)) 8).2 i hi

theorem bitOf_255 {i : Nat} (hi : i < 8) : bitOf 0xFF i = true := by
  interval_cases i <;> rfl

/-- An ACK of all flags with none raised in its own cycle leaves none. -/
theorem flagsLeft_of_stale {frc : Nat} {q : Queue} (hf : ∀ i, flagFresh q frc i = false) : flagsLeft frc 0xFF q = 0 := by
  have h : ∀ i ∈ List.range 8, (bitOf q.status i && (!(bitOf 0xFF i) || flagFresh q frc i)) = false := fun i hi => by
    simp [bitOf_255 (List.mem_range.1 hi), hf i]
  unfold flagsLeft
  generalize List.range 8 = l at h
  induction l with
  | nil => rfl
  | cons i l ih =>
    rw [List.foldl_cons, h i List.mem_cons_self, if_neg Bool.false_ne_true]
    exact ih fun k hk => h k (List.mem_cons_of_mem _ hk)

/-- A queue after the watermark flag `i` was raised again in the cycle of its ACK: it has counted once (R83). -/
def rearmed (frc mask i : Nat) (q : Queue) : Queue :=
  if bitOf mask i && flagFresh q frc i then (if i = 3 then { q with wmHighN := 1 } else { q with wmLowN := 1 }) else q

section
variable {n mask i : Nat} {s : State} {q : Queue}

theorem rearm_of_stale (hq : qGet s n = some q) (hf : flagFresh q s.keel.frc i = false) : rearm n mask i s = s := by
  unfold rearm
  simp only [hq, hf, Bool.and_false, Bool.not_false, if_true]

theorem rearm_get (hq : qGet s n = some q) : qGet (rearm n mask i s) n = some (rearmed s.keel.frc mask i q) := by
  unfold rearm rearmed
  simp only [hq]
  cases bitOf mask i && flagFresh q s.keel.frc i
  · exact hq
  · have hg : qGet (event (qFn q.w) 0x0301 [n, if i = 3 then 0 else 1, 0, qDepth q, 1]
        (qSet s n (if i = 3 then { q with wmHighN := 1 } else { q with wmLowN := 1 }))) n = _ :=
      (congrArg (fun m : Qm => tget m.queues n) (event_qm ..)).trans (qSet_get ..)
    simpa using hg

@[simp] theorem rearm_keel : (rearm n mask i s).keel = s.keel := by
  unfold rearm
  split
  · rfl
  · split
    · rfl
    · rw [event_keel, qSet_keel]

end

@[simp] theorem rearmed_status (frc mask i : Nat) (q : Queue) : (rearmed frc mask i q).status = q.status := by
  unfold rearmed
  (repeat' split) <;> rfl

@[simp] theorem rearmed_fresh (frc mask i f k : Nat) (q : Queue) : flagFresh (rearmed frc mask i q) f k = flagFresh q f k := by
  unfold rearmed flagFresh
  (repeat' split) <;> rfl

/-- A watermark count starts again at one where its flag was raised in the cycle of the ACK. -/
theorem rearmed_three {frc : Nat} {q : Queue} (hf : flagFresh q frc 3 = true) : (rearmed frc 0xFF 3 q).wmHighN = 1 := by
  rw [rearmed, hf]
  rfl

theorem rearmed_four {frc : Nat} {q : Queue} (hf : flagFresh q frc 4 = true) : (rearmed frc 0xFF 4 q).wmLowN = 1 := by
  rw [rearmed, hf]
  rfl

/-- The low watermark's count leaves that of the high one. -/
theorem rearmed_four_wmHighN (frc mask : Nat) (q : Queue) : (rearmed frc mask 4 q).wmHighN = q.wmHighN := by
  unfold rearmed
  split <;> rfl

/-- The histogram slots are no part of what is recorded beside a queue. -/
@[simp] theorem record_hists (n : Nat) (q : Queue) (m : Qm) : (record n q m).hists = m.hists := by
  unfold record
  split <;> rfl

theorem qSet_hists (s : State) (n : Nat) (q : Queue) : (qSet s n q).qm.hists = s.qm.hists := record_hists ..

/-- With nobody waiting for cells there is nothing to grant. -/
theorem grantWaiters_of_none {m : Qm} (h : m.waiters = []) : grantWaiters m = m := by
  unfold grantWaiters
  rw [h]
  rfl

end Sys2Proof.Machine
end

section
/-! PROOFS. The QUEUE commands (03 R60, R61, R69, R83-R86; 16 R470; 17 Table 17-6). -/

namespace Sys2Proof.Machine

open Sys2Proof.Safety

/-- Settles O27: the checks of each command hold in their order; for ACK, by whether a flag was raised in its own cycle. -/
theorem queueCommands : Obligations.QueueCommands := by
  refine ⟨?create, ?set, ?query, ?destroy, ?ack, ?quota⟩
  case create =>
    intro h q d n s hs b hq hd hf he hn hm
    unfold exec execQueueCreate
    refine mbx_answers (r := (.ok, _)) hs (need_then ?_ (need_then hd (need_then ?_ (need_then ?_ (ok_then hn
      (need_then ?_ rfl))))))
    · cases q with
      | none => rfl
      | some k => exact decide_eq_true (hq k rfl)
    all_goals rw [hf]
    · simp
    · exact he
    · exact decide_eq_true hm
  case set =>
    intro h n mask d x s hs b w hn hk hx ho hst hw hfn hmin hprod hcons hres
    have hargs : (decide (mask < 128) && decide (n < 32768) && qReservedOk (mergeWords mask zeroWords d)) = true := by
      simp [hk, hn, hres]
    have hsum : (decide (minSum b.qm (qFn w) (some n) + qMin w ≤ quotaOf b.qm (qFn w)) || decide (qMin w ≤ qMin x.w)) = true := by
      rw [hfn, Bool.or_eq_true, decide_eq_true_eq, decide_eq_true_eq]
      exact hmin.symm
    have hmoved : (!(qProducer w != qProducer x.w || qConsumer w != qConsumer x.w) || !(qNamed b n || (qOpen x).isSome)) = true := by
      rw [hprod, hcons]
      simp
    unfold exec execQueueSet
    exact mbx_answers (r := (.ok, _)) hs (need_then hargs (ok_then (ownQueue_eq hn hx ho) (need_then hw
      (need_then (by simp [hst]) (need_then (beq_iff_eq.2 (hfn.trans ho.symm)) (need_then hsum (need_then hmoved rfl)))))))
  case query =>
    intro h n x s hs b hn hx ho
    unfold exec execQueueQuery
    exact mbx_answers (r := (.ok, _)) hs (ok_then (ownQueue_eq hn hx ho) rfl)
  case destroy =>
    intro h n x s hs b hn hx ho hst hnamed
    have hnamed : (!qNamed b n) = true := by rw [hnamed]; rfl
    unfold exec execQueueDestroy
    refine mbx_answers (r := (.ok, _)) hs (ok_then (ownQueue_eq hn hx ho) (need_then hnamed (need_then rfl ?_)))
    rw [hst]
    rfl
  case ack =>
    intro h n x s hs b hn hx ho hst
    have hexec : exec (.queueAck h n 0xFF) s = answeredOk h [Int.ofNat (statusWord x)]
        (rearm n 0xFF 4 (rearm n 0xFF 3 (qSet b n { x with status := flagsLeft b.keel.frc 0xFF x, wmHighN := 0, wmLowN := 0 }))) := by
      unfold exec execQueueAck
      exact mbx_answers (r := (.ok, _)) hs ((need_bind_of_true (by decide) _).trans (bind_of_eq_ok (liveQueue_eq hn hx ho hst) _))
    have hget := qSet_get b n { x with status := flagsLeft b.keel.frc 0xFF x, wmHighN := 0, wmLowN := 0 }
    refine ⟨fun hf => ?_, fun i hi hset hf => ⟨_, _, hexec, rearm_get (rearm_get hget), ?_⟩⟩
    · rw [hexec, rearm_of_stale hget (hf 3), rearm_of_stale hget (hf 4), flagsLeft_of_stale hf]
    · refine ⟨?_, ?_, ?_⟩
      · simp only [rearmed_status]
        rw [bitOf_flagsLeft _ _ _ hi, hset, hf, Bool.or_true, Bool.and_self]
      · rintro rfl
        exact (rearmed_four_wmHighN ..).trans (rearmed_three hf)
      · rintro rfl
        rw [rearm_keel]
        exact rearmed_four ((rearmed_fresh ..).trans hf)
  case quota =>
    intro h fn cells s hs b hfn hc he hm hw
    have hargs : (decide (fn < 64) && decide (cells < 2 ^ 32)) = true := by
      rw [decide_eq_true hfn, decide_eq_true hc]
      rfl
    unfold exec execQueueQuotaSet
    exact mbx_answers (r := (.ok, _)) hs (need_then hargs (need_then he (need_then (decide_eq_true hm)
      (congrArg (fun m => done { b with qm := m }) (grantWaiters_of_none hw)))))

/-- Settles O28: the checks of each command hold in their order, and what it reads is the queue's own. -/
theorem queueReads : Obligations.QueueReads := by
  refine ⟨?stats, ?histSet, ?histRead, ?ring⟩
  case stats =>
    intro h n x s hs b hn hx ho
    unfold exec execQueueStatsRead
    exact mbx_answers (r := (.ok, _)) hs (ok_then (ownQueue_eq hn hx ho) rfl)
  case histSet =>
    intro h n metric edges x k s hs b hn hm hl ha he hx ho hst hh hslot hk u r
    have hm3 : decide (metric < 3) = true := decide_eq_true (by omega)
    have hm2 : metric ≠ 2 := by omega
    have hedges : (metric == 2 || (edges.length == 7 && ascending edges && edges.all (fun e => decide (e < 2 ^ 32)))) = true := by
      rw [hl, ha, List.all_eq_true.2 fun e h => decide_eq_true (he e h)]
      simp
    have hfree : (match x.histSlot with | some k => some k | none => tfree b.qm.hists 0 1024) = some k := by
      rw [hslot]
      exact hk
    have hu : u.qm.hists = b.qm.hists := qSet_hists ..
    unfold exec execQueueHistSet
    refine mbx_answers (r := (.ok, _)) hs (need_then hm3 (need_then hedges (ok_then (liveQueue_eq hn hx ho hst)
      ((if_neg hm2).trans (need_then hh ?_)))))
    rw [← hu]
    split
    · next hnone => exact absurd (hnone.symm.trans hfree) nofun
    · next k' hsome =>
      obtain rfl : k' = k := Option.some.inj (hsome.symm.trans hfree)
      rfl
  case histRead =>
    intro h n x k r s hs b hn hx ho hst hslot hr
    have hslot : x.histSlot.bind (fun k => (tget b.qm.hists k).map (fun r => (k, r))) = some (k, r) := by
      rw [hslot]
      exact congrArg (Option.map _) hr
    unfold exec execQueueHistRead
    refine mbx_answers (r := (.ok, _)) hs (ok_then (liveQueue_eq hn hx ho hst) ?_)
    split
    · next hnone => exact absurd (hnone.symm.trans hslot) nofun
    · next hsome =>
      obtain ⟨rfl, rfl⟩ := Prod.mk.inj (Option.some.inj (hsome.symm.trans hslot))
      rfl
  case ring =>
    intro h a x s hs b hside hn haddr hargs hx ho hprod hst hsub hdb r
    have hform : (decide (a.side < 2) && (a.addr == 0 || ringArgsOk h.fn a)) = true := by simp [hside, hargs]
    have hprod : (if a.side = 0 then qProducer x.w == 1 else qConsumer x.w == 2) = true := by simp [hside, hprod]
    have hdb : (!doorbellBound b h.fn a.doorbell) = true := by rw [hdb]; rfl
    have hfree : (if a.side = 0 then x.sub else x.del).isNone = true := by simp [hside, hsub]
    have hset : (if a.side = 0 then { x with sub := some r } else { x with del := some r }) = { x with sub := some r } :=
      if_pos hside
    unfold exec execQueueRingSet
    exact mbx_answers (r := (.ok, _)) hs (need_then hform (ok_then (ownQueue_eq hn hx ho) (need_then hprod
      (need_then (by simp [hst]) ((if_neg haddr).trans (need_then hdb (need_then hfree
      (congrArg (fun y => done (qSet b a.queue y)) hset))))))))

end Sys2Proof.Machine
end

section
/-! SUPPORT. Streams that a caller may use, and single records (17 R401-R403; 04 Table 4-3). -/

namespace Sys2Proof.Machine

theorem named_of_eq {α : Type} {o : Option α} {a : α} (h : o = some a) : named o = .ok a := by
  subst h
  rfl

/-- A single number in the range of its field is taken. -/
theorem recsOk_single {specs : List FieldSpec} {id : Nat} {f : FieldSpec} {lo hi v : Int} (hs : specOf specs id = some f)
    (hf : f.range = .int lo hi 1) (h1 : lo ≤ v) (h2 : v ≤ hi) : recsOk specs [⟨id, .num v⟩] = .ok () := by
  have hstep : Int.emod v (max 1 1) = 0 := Int.emod_one v
  refine need_of_true ?_
  simp only [List.map_cons, List.map_nil, noDup, List.all_cons, List.all_nil, hs, hf, inRange, h1, h2, hstep]
  rfl

/-- A single record of a field that may change is free. -/
theorem recsFree_single {specs : List FieldSpec} {id : Nat} {f : FieldSpec} (v : RVal) (hs : specOf specs id = some f)
    (hf : f.fixed = false) : recsFree specs [⟨id, v⟩] = .ok () := by
  refine need_of_true ?_
  simp only [List.all_cons, List.all_nil, hs, hf]
  rfl

/-- The operands of STREAM.SET on a decode stream (17 Table 17-2). -/
def decodeSpecs : List FieldSpec := createFields ++ dispatchFields ++ decFields

/-- OFFSET is a field of decode streams that may change, of 48 bits. -/
theorem specOf_decode_offset : specOf decodeSpecs 0x4304 = some ⟨0x4304, .int (-(2 ^ 47)) (2 ^ 47 - 1) 1, false, false⟩ := rfl

/-- In PISTE nothing of SNOWPLOUGH's limits holds. -/
theorem snowOk_of_piste {s : State} (h : s.eng = .piste) (enc : Bool) (f : Tbl RVal) : snowOk s enc f = .ok () := by
  unfold snowOk
  rw [h]
  rfl

end Sys2Proof.Machine
end

section
/-! PROOFS. The STREAM commands (04 R89; 05 R126; 07 R173; 17 Table 17-7). -/

namespace Sys2Proof.Machine

open Sys2Proof.Safety

/-- Settles O29: the checks of each command hold in their order; a decode stream takes none of the encode branches. -/
theorem streamCommands : Obligations.StreamCommands := by
  refine ⟨?create, ?set, ?destroy, ?stats, ?recover, ?conceal⟩
  case create =>
    intro h recs n s hs b specs f jq hkind hok hhave hcodec hfields hfl heng hq hn next
    have hfields : (decCodecOk f && decFieldsOk f) = true := by rw [hcodec, hfields]; rfl
    have hnext : (match qGet b jq with | some q => q.seq | none => 0) = next := by
      unfold next
      cases qGet b jq <;> rfl
    unfold exec execStreamCreate
    refine mbx_answers (r := (.ok, _)) hs ?_
    dsimp only
    rw [hkind]
    refine ok_then rfl (need_then rfl (ok_then hok (ok_then hhave (need_then hfields
      (need_then (bne_iff_ne.2 hfl) (need_then rfl (ok_then (snowOk_of_piste heng _ _) (ok_then hq (ok_then hn ?_)))))))))
    rw [← hnext]
    rfl
  case set =>
    intro h n off x s c hs b hn hx ho hk hst hlo hhi hf
    have hhi : off ≤ 2 ^ 47 - 1 := Int.le_sub_one_of_lt hhi
    unfold exec execStreamSet
    refine mbx_answers (r := (.ok, _)) hs (need_then (decide_eq_true hn) (ok_then (named_of_eq hx) (ok_then (owned_of_eq ho) ?_)))
    rw [hk]
    exact ok_then (recsOk_single specOf_decode_offset rfl hlo hhi) (need_then (by rw [hst]; rfl)
      (ok_then (recsFree_single _ specOf_decode_offset rfl) (need_then hf (need_then rfl (need_then rfl rfl)))))
  case destroy =>
    intro h n x s hs b hn hx ho hk hj keepUnit hnamed u streams units cores
    unfold exec execStreamDestroy
    refine mbx_answers (r := (.ok, _)) hs (need_then (decide_eq_true hn) (ok_then (named_of_eq hx) (ok_then (owned_of_eq ho)
      (need_then (congrArg not hnamed) ?_))))
    rw [hj]
    refine need_then rfl ?_
    simp only [List.length_nil, Nat.zero_add, List.foldl_nil]
    rfl
  case stats =>
    intro h n x s hs b hn hx ho hk
    unfold exec execStreamStatsRead
    refine mbx_answers (r := (.ok, _)) hs (need_then (decide_eq_true hn) (ok_then (named_of_eq hx) (ok_then (owned_of_eq ho)
      (need_then ?_ ?_))))
    · rw [hk]
      rfl
    · rw [hk]
      rfl
  case recover =>
    intro h n pic l k x s hs b hn hx ho hk hst
    unfold exec execStreamRecover
    exact mbx_answers (r := (.ok, _)) hs (need_then (decide_eq_true hn) (ok_then (named_of_eq hx) (ok_then (owned_of_eq ho)
      (need_then (by rw [hk]; rfl) (need_then (by rw [hst]; rfl) rfl)))))
  case conceal =>
    intro h n verdict id x a s hs b hn hv hx ho hk hst ha hdl areas
    have hargs : (decide (n < 4096) && decide (verdict < 4)) = true := by
      rw [decide_eq_true hn, decide_eq_true hv]
      rfl
    unfold exec execStreamConceal
    refine mbx_answers (r := (.ok, _)) hs (need_then hargs (ok_then (named_of_eq hx) (ok_then (owned_of_eq ho)
      (need_then (by rw [hk]; rfl) (need_then (by rw [hst]; rfl) ?_)))))
    rw [ha]
    refine need_then ?_ rfl
    cases hd : a.deadline with
    | none => rfl
    | some p => exact congrArg not (hdl p hd)

end Sys2Proof.Machine
end

section
/-! PROOFS. The checks of a container in their order (08 R186). -/

namespace Sys2Proof.Machine

variable {s : State} {p : StPort} {f : HacFacts}

/-- The policy of a container may be used on a port: it has no reserved bit, and not the bit that keeps it off S1 there. -/
def policyServes (p : StPort) (f : HacFacts) : Bool := !(decide (32 ≤ hacPolicy f) || (bitOf (hacPolicy f) 3 && p == .s1))

theorem policyServes_of {hp : hacPolicy f < 32} (h : bitOf (hacPolicy f) 3 = true → p = .s0) : policyServes p f = true := by
  cases h3 : bitOf (hacPolicy f) 3
  · simp [policyServes, h3, hp]
  · simp [policyServes, h h3, hp]

/-- With a good magic and a policy that may be used, the key blob and its expiry come next. -/
theorem hacCheck_keys (hm : hacMagicOk f = true) (hp : policyServes p f = true)
    (hk : (!f.blobOk || expired s (bitOf (hacPolicy f) 4) f.expiry) = true) : hacCheck s p f = some (.auth, false) := by
  rw [policyServes, Bool.not_eq_true'] at hp
  simp only [hacCheck, hm, hp, hk, Bool.not_true, Bool.false_eq_true, if_false, if_true]

/-- Behind the keys come the tags, and then the form of header and table. -/
theorem hacCheck_form (hm : hacMagicOk f = true) (hp : policyServes p f = true) (hb : f.blobOk = true)
    (he : expired s (bitOf (hacPolicy f) 4) f.expiry = false) : hacCheck s p f =
      if f.headerTagOk && f.tableTagOk then (if hacShapeOk f && tableOk (hacBytes f) (hacTable f) then none else some (.integrity, true))
      else some (.auth, true) := by
  rw [policyServes, Bool.not_eq_true'] at hp
  simp only [hacCheck, hm, hp, hb, he, Bool.not_true, Bool.false_eq_true, if_false, Bool.or_self]
  cases f.headerTagOk
  · rfl
  · cases f.tableTagOk
    · rfl
    · cases hacShapeOk f && tableOk (hacBytes f) (hacTable f) <;> rfl

/-- A container that passes every check may be opened. -/
theorem hacCheck_none (hm : hacMagicOk f = true) (hp : policyServes p f = true) (hb : f.blobOk = true)
    (he : expired s (bitOf (hacPolicy f) 4) f.expiry = false) (hh : f.headerTagOk = true) (ht : f.tableTagOk = true)
    (hs : hacShapeOk f = true) (htab : tableOk (hacBytes f) (hacTable f) = true) : hacCheck s p f = none := by
  rw [hacCheck_form hm hp hb he, hh, ht, hs, htab]
  rfl

/-- Settles O32: by the branches of `hacCheck` in their order. -/
theorem containerChecks : Obligations.ContainerChecks := by
  intro s p f
  refine ⟨fun hm => by simp [hacCheck, hm], fun hm hp => ?_, fun hm hlt hs0 => ?_⟩
  · have hp : (decide (32 ≤ hacPolicy f) || (bitOf (hacPolicy f) 3 && p == .s1)) = true := by simpa using hp
    simp only [hacCheck, hm, hp, Bool.not_true, Bool.false_eq_true, if_false, if_true]
  · have hp : policyServes p f = true := policyServes_of (hp := hlt) hs0
    refine ⟨fun hk => hacCheck_keys hm hp (by simpa using hk), fun hb he ht => ?_, fun hb he hh ht => ?_⟩
    · rw [hacCheck_form hm hp hb he, if_neg (by simpa [← Bool.not_eq_true, ← not_and_or] using ht)]
    · rw [hacCheck_form hm hp hb he, hh, ht]
      rfl

end Sys2Proof.Machine
end

section
/-! PROOFS. The ASSET commands (08 R184-R188, R200; 17 Table 17-8). -/

namespace Sys2Proof.Machine

open Sys2Proof.Safety

section
variable {h : Hdr} {s : State} {n : Nat}

theorem ownVolume_eq {v : Volume} (hn : n < 65536) (hv : tget s.asset.volumes n = some v) (ho : v.owner = h.fn) :
    ownVolume h s n = .ok v :=
  need_then (decide_eq_true hn) (ok_then (named_of_eq hv) (ok_then (owned_of_eq ho) rfl))

theorem ownContainer_eq {k : Container} (hn : n < 65536) (hk : tget s.asset.containers n = some k) (ho : k.owner = h.fn) :
    ownContainer h s n = .ok k :=
  need_then (decide_eq_true hn) (ok_then (named_of_eq hk) (ok_then (owned_of_eq ho) rfl))

end

/-- Settles O30: the checks of each command hold in their order; a container's are those of R186. -/
theorem assetObjects : Obligations.AssetObjects := by
  refine ⟨?volumeOpen, ?volumeClose, ?containerOpen, ?containerClose⟩
  case volumeOpen =>
    intro h slot nsid first count ns k s c hs b n hslot hst hkeys hk ho hkind hpres hmeta hprot hlba hfit hvol v
    have hform : (!ns.meta_ && !ns.prot && (ns.lbaSize == 512 || ns.lbaSize == 4096) && decide (first + count ≤ ns.lbas)) = true := by
      simpa [hmeta, hprot, hfit] using hlba
    have hslot : (decide (slot < 128) && (StPort.s1 == .s1 || (first == 0 && count == 0))) = true := by
      rw [decide_eq_true hslot]
      rfl
    unfold exec execAssetVolumeOpen
    exact mbx_answers (r := (.ok, _)) hs (ok_then rfl (need_then hslot (need_then hst (ok_then hkeys (ok_then (named_of_eq hk)
      (ok_then (owned_of_eq ho) (need_then (beq_iff_eq.2 hkind) (need_then hpres (need_then (decide_eq_true hvol)
      (need_then hform rfl))))))))))
  case volumeClose =>
    intro h n v s hs b hn hv ho u
    unfold exec execAssetVolumeClose
    exact mbx_answers (r := (.ok, _)) hs (ok_then (ownVolume_eq hn hv ho) (need_then rfl rfl))
  case containerOpen =>
    intro h volume offset f v s c hs b n hn hv ho hoff hst hkeys hlen hm hp h3 hb he hh ht hshape htab k vault
    have hpol : policyServes v.port f = true := by
      rw [policyServes, h3, decide_eq_false (by omega)]
      rfl
    unfold exec execAssetContainerOpen
    refine mbx_answers (r := (.ok, _)) hs (ok_then (ownVolume_eq hn hv ho) (need_then (beq_iff_eq.2 hoff) (need_then hst
      (ok_then hkeys (need_then (decide_eq_true hlen) ?_)))))
    rw [show hacCheck (begun _ _ s) v.port f = none from hacCheck_none hm hpol hb he hh ht hshape htab]
    rfl
  case containerClose =>
    intro h n k s hs b hn hk ho
    unfold exec execAssetContainerClose
    exact mbx_answers (r := (.ok, _)) hs (ok_then (ownContainer_eq hn hk ho) (need_then rfl rfl))

/-- Settles O31: the checks of each command hold in their order; ASSET.READ stays outstanding behind its first response. -/
theorem assetData : Obligations.AssetData := by
  refine ⟨?read, ?install, ?stats⟩
  case read =>
    intro h a k v s hs b n hn hk ho hv hf hargs hst hhost htex hsess hpol hown hlen u
    have hroom : (decide (b.asset.reqs.countP (fun e => e.2.h.fn == h.fn) < 256) && decide (b.asset.reqs.length < 1024)) = true := by
      rw [decide_eq_true hown, decide_eq_true hlen]
      rfl
    have hperm : ((!a.hostDecomp || bitOf k.policy 0) && (!a.texHost || bitOf k.policy 1) && (a.session || !bitOf k.policy 2)) = true := by
      rw [hhost, htex, hsess, hpol]
      rfl
    unfold exec execAssetRead
    exact mbx_goes_on hs (need_then hf (ok_then (ownContainer_eq hn hk ho) (ok_then (named_of_eq hv) (need_then hst
      (need_then hroom (need_then hargs (need_then hperm (need_then (by rw [hsess]; rfl) rfl))))))))
  case install =>
    intro h src dst off lba f crc a d s c hs b hsrc hdst ha hd hao hdo hap hdp hoff hs0 hs1 hkeys hhac h3 hlo hhi
    have hports : (a.port == .s0 && d.port == .s1 && off % 4096 == 0) = true := by simp [hap, hdp, hoff]
    have hfit : ¬(lba < d.scratchFirst ∨ d.scratchFirst + d.scratchCount < lba + (hacBytes f + d.lba - 1) / max 1 d.lba) := by
      omega
    unfold exec execAssetInstall
    refine mbx_answers (r := (.ok, _)) hs (ok_then (ownVolume_eq hsrc ha hao) (ok_then (ownVolume_eq hdst hd hdo)
      (need_then hports (need_then (Bool.and_eq_true_iff.2 ⟨hs0, hs1⟩) (ok_then hkeys ?_)))))
    rw [show hacCheck (begun _ _ s) .s0 f = none from hhac]
    exact (if_neg (by rw [h3]; nofun)).trans ((if_neg hfit).trans rfl)
  case stats =>
    intro h s hs b
    unfold exec execAssetStatsRead
    exact mbx_answers (r := (.ok, _)) hs (need_then rfl rfl)

end Sys2Proof.Machine
end

section
/-! SUPPORT. Fields that a record leaves alone, and a port's changes that change nothing (09 Table 9-7; 17 R401). -/

namespace Sys2Proof.Machine

/-- A record writes its own field alone. -/
theorem fnum_tput_other (f : Tbl RVal) (v : RVal) (d : Int) {id k : Nat} (h : k ≠ id) : fnum (tput f id v) k d = fnum f k d := by
  unfold fnum
  rw [tget_tput_other f id k v h]

theorem fnat_tput_other (f : Tbl RVal) (v : RVal) (d : Nat) {id k : Nat} (h : k ≠ id) : fnat (tput f id v) k d = fnat f k d :=
  congrArg Int.toNat (fnum_tput_other f v _ h)

theorem busPort_eq {n : Nat} {p : BusPort} (h : portOf n = some p) : busPort n = .ok p := by
  unfold busPort
  rw [h]

/-- A field that is none of a port's timing leaves what is locked while it runs. -/
theorem lockedValues_tput (s : State) (f : Tbl RVal) (v : RVal) {id : Nat} (h : id < 0x9702 ∨ 0x9708 < id) :
    lockedValues s (tput f id v) = lockedValues s f := by
  have hn (k d : Nat) (h1 : 0x9702 ≤ k) (h2 : k ≤ 0x9708) : fnat (tput f id v) k d = fnat f k d :=
    fnat_tput_other f v d (by omega)
  unfold lockedValues setRateOf
  simp [hn]

theorem enableOf_tput (f : Tbl RVal) (v : RVal) {id : Nat} (h : 0x9701 ≠ id) : enableOf (tput f id v) = enableOf f := by
  unfold enableOf
  rw [fnat_tput_other f v _ h]

@[simp] theorem changeMode_self (p : BusPort) (n : Nat) (s : State) : changeMode p n n s = s := if_pos (.inl rfl)

@[simp] theorem changeEnable_self (p : BusPort) (b : Bool) (s : State) : changeEnable p b b s = s := if_pos rfl

/-- A port in BUS_OFF starts to count bus idle. -/
theorem startRecover_of_busOff {p : BusPort} {s : State} (h : (portGet s p).conf = .busOff) :
    startRecover p s = setPort s p { portGet s p with rcv := { counting := true, need := 64, byCmd := true } } := by
  unfold startRecover
  dsimp only
  rw [h]

end Sys2Proof.Machine
end

section
/-! PROOFS. The BUS commands of a port (09 R222, R225; 11 R285; 17 Table 17-9). -/

namespace Sys2Proof.Machine

open Sys2Proof.Safety

/-- Settles O33: the checks of each command hold in their order; a field that is not locked changes nothing else. -/
theorem busPortCommands : Obligations.BusPortCommands := by
  refine ⟨?set, ?query, ?recover, ?wake, ?stats, ?clear⟩
  case set =>
    intro h n p mask s c hs b v hp hr f htim hnode hslot hfits
    have hok : recsOk portFields [⟨0xAC02, .num mask⟩] = .ok () := by
      refine need_of_true ?_
      rw [List.all_cons, show specOf portFields (Rec.mk 0xAC02 (.num mask)).id = some (fld 0xAC02 (.int 0 (2 ^ 64 - 1) 1)) from rfl]
      simp only [fld, hr]
      rfl
    have hlock : (!(enableOf v.f && lockedValues b v.f != lockedValues b f)) = true := by
      rw [lockedValues_tput b v.f (.num mask) (.inr (by decide))]
      simp
    have hmode : fnat f 0x0010 0 = fnat v.f 0x0010 0 := fnat_tput_other _ _ _ (by decide)
    have hen : enableOf f = enableOf v.f := enableOf_tput _ _ (by decide)
    have hsame (u : State) : changeMode p (fnat v.f 0x0010 0) (fnat f 0x0010 0) (changeEnable p (enableOf v.f) (enableOf f) u) = u := by
      rw [hmode, hen, changeMode_self, changeEnable_self]
    unfold exec execBusPortSet
    exact mbx_answers (r := (.ok, _)) hs (ok_then (busPort_eq hp) (ok_then hok (need_then (Bool.and_eq_true_iff.2 ⟨htim, hnode⟩)
      (need_then (congrArg not hslot) (need_then hlock (ok_then rfl (need_then hfits (congrArg done (hsame _)))))))))
  case query =>
    intro h s hs b v
    unfold exec execBusPortQuery
    exact mbx_answers (r := (.ok, _)) hs (ok_then rfl rfl)
  case recover =>
    intro h n p s hs b hp hconf u
    have hnot : ¬((portGet b p).recoveredAt = some b.keel.frc ∧ (portGet b p).conf = .errorActive) := by
      rw [hconf]
      rintro ⟨-, h⟩
      cases h
    have hu : (portGet u p).conf = .busOff := hconf
    unfold exec execBusPortRecover
    refine mbx_goes_on hs (ok_then (busPort_eq hp) ((if_neg hnot).trans (need_then ?_ ?_)))
    · rw [show (portGet (begun _ _ s) p).conf = .busOff from hconf]
      rfl
    · exact congrArg (fun t => Except.ok (t, none)) (startRecover_of_busOff hu)
  case wake =>
    intro h n p s hs b hp hl
    unfold exec execBusWake
    exact mbx_answers (r := (.ok, _)) hs (ok_then (busPort_eq hp) (need_then hl rfl))
  case stats =>
    intro h n p s hs b hp
    unfold exec execBusStatsRead
    exact mbx_answers (r := (.ok, _)) hs (ok_then (busPort_eq hp) rfl)
  case clear =>
    intro h n p s hs b hp
    unfold exec execBusPortStatsClear
    exact mbx_answers (r := (.ok, _)) hs (ok_then (busPort_eq hp) rfl)

end Sys2Proof.Machine
end

section
/-! PROOFS. The BUS commands of flows (10 R249, R250, R255-R257; 17 Table 17-9). -/

namespace Sys2Proof.Machine

open Sys2Proof.Safety

section
variable {h : Hdr} {s : State} {n flow : Nat} {p : BusPort} {f : Flow}

theorem ownFlow_eq (hp : portOf n = some p) (h1 : 1 ≤ flow) (h2 : flow ≤ 32767) (hf : flowGet (portGet s p) flow = some f)
    (ho : f.owner = h.fn) : ownFlow h s n flow = .ok (p, f) :=
  ok_then (busPort_eq hp) (need_then (Bool.and_eq_true_iff.2 ⟨decide_eq_true h1, decide_eq_true h2⟩)
    (ok_then (named_of_eq hf) (ok_then (owned_of_eq ho) rfl)))

theorem liveFlow_eq (hp : portOf n = some p) (h1 : 1 ≤ flow) (h2 : flow ≤ 32767) (hf : flowGet (portGet s p) flow = some f)
    (ho : f.owner = h.fn) (hs : f.stopped = false) : liveFlow h s n flow = .ok (p, f) :=
  ok_then (ownFlow_eq hp h1 h2 hf ho) (need_then (congrArg not hs) rfl)

end

/-- Settles O34: the checks of each command hold in their order, for a TX flow by its queue's consumer and for an RX flow
as no TX flow has its number. -/
theorem busFlowCommands : Obligations.BusFlowCommands := by
  refine ⟨?create, ?set, ?resume, ?destroy, ?stats⟩
  case create =>
    intro h recs p q s hs b f n fl hok hhave hp hn hq hcons hprod hrx hrules htx hrx' hlen hside hfits
    have hdir : (qConsumer q.w == 6 + portNum p && (qProducer q.w != 6 + portNum p || names recs 0xA904)) = true := by
      rw [beq_iff_eq.2 hcons, bne_iff_ne.2 hprod]
      rfl
    have hfree : (!thas (portGet b p).tx n && !thas (portGet b p).rx n) = true := by
      rw [htx, hrx']
      rfl
    unfold exec execBusFlowCreate
    refine mbx_answers (r := (.ok, _)) hs (ok_then hok (ok_then hhave (ok_then (busPort_eq hp) (need_then (bne_iff_ne.2 hn)
      (ok_then hq ?_)))))
    dsimp only
    rw [hdir]
    exact need_then rfl (need_then (congrArg not hrx) (ok_then hrules (need_then hfree (need_then (decide_eq_true hlen)
      (ok_then hside (need_then hfits rfl))))))
  case set =>
    intro h n flow recs p f s hs b v g hp h1 h2 htx htx' hrx ho hst hok hfree honly hrules
    have hget : flowGet v flow = some f := by
      rw [flowGet, htx', hrx]
      rfl
    have hdir : isTx v flow = false := htx
    unfold exec execBusFlowSet
    refine mbx_answers (r := (.ok, _)) hs (need_then (Bool.and_eq_true_iff.2 ⟨decide_eq_true h1, decide_eq_true h2⟩)
      (ok_then (busPort_eq hp) (ok_then hok (ok_then (liveFlow_eq hp h1 h2 hget ho hst) (ok_then hfree ?_)))))
    dsimp only
    rw [show isTx (portGet (begun _ _ s) p) flow = false from hdir]
    exact need_then (congrArg not honly) (ok_then hrules (need_then rfl rfl))
  case resume =>
    intro h n flow p f s hs b hp h1 h2 hf ho hst hstall u
    unfold exec execBusFlowResume
    refine mbx_answers (r := (.ok, _)) hs (ok_then (liveFlow_eq hp h1 h2 hf ho hst) (need_then hstall ?_))
    rw [Bool.not_true, Bool.and_false]
    rfl
  case destroy =>
    intro h n flow p f x s hs b hp h1 h2 hf ho hshare hx hst v
    unfold exec execBusFlowDestroy
    refine mbx_answers (r := (.ok, _)) hs (ok_then (ownFlow_eq hp h1 h2 hf ho) (need_then (congrArg not hshare) ?_))
    rw [show qGet (begun _ _ s) (flowQueue f) = some x from hx]
    refine need_then rfl ?_
    rw [hst]
    rfl
  case stats =>
    intro h n flow p f s hs b hp h1 h2 hf ho
    unfold exec execBusFlowStats
    exact mbx_answers (r := (.ok, _)) hs (ok_then (ownFlow_eq hp h1 h2 hf ho) rfl)

end Sys2Proof.Machine
end

section
/-! PROOFS. Message buffers (10 R260; 17 Table 17-9). -/

namespace Sys2Proof.Machine

open Sys2Proof.Safety

theorem ownMb_eq {h : Hdr} {v : Port} {n : Nat} {m : MsgBuf} (hn : n < 64) (hm : tget v.mbs n = some m) (ho : m.owner = h.fn) :
    ownMb h v n = .ok m :=
  need_then (decide_eq_true hn) (ok_then (named_of_eq hm) (ok_then (owned_of_eq ho) rfl))

section
variable {sp : Spec} {h : Hdr} {s b t : State} {body : State → Except Status (State × Option Reply)}

/-- A served request whose rules answer, in the state in which it begins. -/
theorem mbx_answers_at {r : Reply} (hs : servedBy sp h s = true) (hb : begun sp h s = b) (hr : body b = .ok (t, some r)) :
    mbx sp h s body = .next (finish h r.1 r.2 t) := mbx_answers hs (hb ▸ hr)

/-- A served request that goes on, in the state in which it begins. -/
theorem mbx_goes_on_at (hs : servedBy sp h s = true) (hb : begun sp h s = b) (hr : body b = .ok (t, none)) :
    mbx sp h s body = .next t := mbx_goes_on hs (hb ▸ hr)

end

/-- A buffer that nobody has is free to be claimed. -/
theorem mbClaim_of_none {h : Hdr} {v : Port} {n : Nat} (hn : n < 64) (hm : tget v.mbs n = none) : mbClaim h v n = .ok none := by
  refine need_then (decide_eq_true hn) ?_
  rw [hm]

/-- A buffer of flow 0 needs no opening. -/
theorem openMb_of_flow0 {p : BusPort} {n : Nat} {s : State} {m : MsgBuf} (hm : tget (portGet s p).mbs n = some m)
    (h0 : m.flow = 0) : openMb p n s = s := by
  unfold openMb
  simp only [hm, h0, decide_true, Bool.true_or, if_true]

/-- A frame of flow 0 takes the port's next sequence number. -/
theorem loadMb_of_flow0 {p : BusPort} {n : Nat} {m : MsgBuf} (h0 : m.flow = 0) (h : Hdr) (pay : List Byte) (s : State) :
    loadMb p n m h pay s = setPort s p { portGet s p with
      mbs := tput (portGet s p).mbs n { m with
        full := true, payload := pay, pend := some h, holdoff := none, lastNak := 0
        head := some { seq := (portGet s p).flow0, first := true, last := true, len := pay.length } }
      flow0 := ((portGet s p).flow0 + 1) % 65536, epochUsed0 := (portGet s p).epochUsed0 + 1 } := by
  unfold loadMb
  simp only [h0, if_true, bne_self_eq_false, Bool.and_false, beq_self_eq_true]
  rfl

/-- Settles O35: the checks of each command hold in their order; a frame of flow 0 goes with no opening. -/
theorem busMessageBuffers : Obligations.BusMessageBuffers := by
  refine ⟨?set, ?send, ?read, ?release⟩
  case set =>
    intro h n mb p q s c hs b v hp hmb hnone htake
    unfold exec execBusMbSet
    refine mbx_answers_at (b := b) (r := (.ok, _)) hs rfl (ok_then (busPort_eq hp) (ok_then rfl
      (ok_then (mbClaim_of_none hmb hnone) ?_)))
    refine ok_then rfl (need_then rfl (need_then rfl (ok_then rfl ?_)))
    dsimp only
    rw [htake]
    rfl
  case send =>
    intro h n mb len pay p m s hs b v u hp hlen hpay hmb hm ho htx hpend h0 hfits head m2
    have hargs : (decide (len ≤ 64) && pay.length == len) = true := by
      rw [decide_eq_true hlen, beq_iff_eq.2 hpay]
      rfl
    have hload : openMb p mb (loadMb p mb m h pay u) = setPort u p { v with
        mbs := tput v.mbs mb m2, flow0 := (v.flow0 + 1) % 65536, epochUsed0 := v.epochUsed0 + 1 } := by
      rw [loadMb_of_flow0 h0, hpay]
      exact openMb_of_flow0 (m := m2) (by rw [setPort_get]; exact tget_tput ..) h0
    unfold exec execBusMbSend
    exact mbx_goes_on hs (ok_then (busPort_eq hp) (need_then hargs (ok_then (ownMb_eq hmb hm ho) (need_then htx
      (need_then (by rw [hpend]; rfl) (need_then hfits (congrArg (fun t => Except.ok (t, none)) hload)))))))
  case read =>
    intro h n mb p m i s hs b v hp hmb hm ho htx hfull hbus hroom
    have hstate : (!m.tx && m.full) = true := by
      rw [htx, hfull]
      rfl
    unfold exec execBusMbRead
    refine mbx_answers (r := (.ok, _)) hs (ok_then (busPort_eq hp) (ok_then (ownMb_eq hmb hm ho) (need_then hstate
      (need_then ?_ ?_))))
    · rw [Bool.or_eq_true, decide_eq_true_eq, decide_eq_true_eq]
      exact hroom
    · rw [hbus]
      rfl
  case release =>
    intro h n mb p m s hs b v hp hmb hm ho hpend
    unfold exec execBusMbRelease
    exact mbx_answers (r := (.ok, _)) hs (ok_then (busPort_eq hp) (ok_then (ownMb_eq hmb hm ho)
      (need_then (by rw [hpend]; rfl) rfl)))

end Sys2Proof.Machine
end

section
/-! PROOFS. Filters, inspection, the bridge, anchors and global operations (12; 17 Table 17-9). -/

namespace Sys2Proof.Machine

open Sys2Proof.Safety

/-- A number just written is read back. -/
theorem fnat_tput (f : Tbl RVal) (id d : Nat) (v : Int) : fnat (tput f id (.num v)) id d = v.toNat := by
  unfold fnat fnum
  rw [tget_tput]

/-- A port whose anchor link is clear has nothing to clear. -/
theorem clearLink_of_false {p : BusPort} {s : State} (h : (portGet s p).anchor.link = false) : clearLink p s = s :=
  if_neg (by rw [h]; nofun)

/-- An operation that is no barrier is what the root makes of it. -/
theorem issueOp_fst {p : BusPort} {msg arg : Nat} {part tmo : Bool} {s : State} (h : msg ≠ 0x1A) :
    (issueOp p msg arg part tmo s).1 = rootOp s p msg arg part tmo := by
  unfold issueOp
  simp only [h, if_false]

/-- Settles O36: the checks of each command hold in their order. -/
theorem busTreeCommands : Obligations.BusTreeCommands := by
  refine ⟨?filter, ?inspect, ?traverse, ?anchor, ?query, ?takeover, ?issue, ?arrive⟩
  case filter =>
    intro h n entry x p s c hs b v hp h16 hlt hx ho
    have hown : (match tget v.filters entry with | some x => x.owner == h.fn | none => true) = true := by
      rw [hx]
      exact beq_iff_eq.2 ho
    have hoff : fnat (fapply (((tget v.filters entry).map (fun x => x.f)).getD []) [⟨0xAB01, .num 0⟩]) 0xAB01 0 = 0 := fnat_tput ..
    unfold exec execBusFilterSet
    exact mbx_answers (r := (.ok, _)) hs (ok_then (busPort_eq hp) (need_then (decide_eq_true hlt) (ok_then rfl
      (need_then (by rw [decide_eq_true h16]; rfl) (need_then hown ((if_pos hoff).trans rfl))))))
  case inspect =>
    intro h n flow p i q x bi s hs b hp hflow hi hq hx hbad hbi
    unfold exec execBusInspectVerdict
    exact mbx_answers (r := (.ok, _)) hs (ok_then (busPort_eq hp) (need_then (by rw [decide_eq_true hflow]; rfl)
      (ok_then (named_of_eq hi) (ok_then hq (ok_then (named_of_eq hx) (need_then (congrArg not hbad)
      (ok_then (named_of_eq hbi) rfl)))))))
  case traverse =>
    intro h s c hs b u
    have hoff : traverseOn u = false := by
      unfold traverseOn
      rw [show fnat u.bus.trav 0xC201 0 = 0 from fnat_tput ..]
      rfl
    unfold exec execBusTraverseSet
    refine mbx_answers (r := (.ok, _)) hs (ok_then rfl (need_then ?_ rfl))
    rw [Bool.or_eq_true]
    exact .inl (congrArg not hoff)
  case anchor =>
    intro h n partner p s recs c hs b v hok hhave hp hrole hlink hpartner a
    have hport : fnat (fapply [] recs) 0xC401 0 = n.toNat := rfl
    have hrole2 : fnat (fapply v.anchor.f recs) 0xC402 0 = 2 := by
      rw [show fapply v.anchor.f recs = tput (tput (tput v.anchor.f 0xC401 (.num n)) 0xC402 (.num 2)) 0xC403 (.num partner) from rfl,
        fnat_tput_other _ _ _ (by decide), fnat_tput]
      rfl
    have hsame : (fnat (fapply v.anchor.f recs) 0xC402 0 == anchorRole v && fopt (fapply v.anchor.f recs) 0xC403 == partnerOf v) = false := by
      rw [hrole2, hrole]
      rfl
    have hneeds : (fnat (fapply v.anchor.f recs) 0xC402 0 == 0 || (fopt (fapply v.anchor.f recs) 0xC403).isSome) = true := by
      rw [hpartner, Bool.or_eq_true]
      exact .inr rfl
    unfold exec execBusAnchorSet
    refine mbx_answers_at (b := b) (r := (.ok, _)) hs rfl (ok_then hok (ok_then hhave (ok_then (busPort_eq (hport ▸ hp))
      (need_then hneeds ?_))))
    dsimp only
    rw [hsame, if_neg Bool.false_ne_true, if_neg Bool.false_ne_true, clearLink_of_false hlink]
    rfl
  case query =>
    intro h n p s hs b ms hp hroom
    unfold exec execBusAnchorQuery
    refine mbx_answers (r := (.ok, _)) hs (ok_then (busPort_eq hp) (need_then ?_ rfl))
    rw [Bool.or_eq_true]
    exact .inr (decide_eq_true hroom)
  case takeover =>
    intro h n p s hs b v hp hrole h3 hact
    have hmay : (anchorRole v == 2 && !within3ms b (anchorHeard v false)) = true := by
      rw [hrole, h3]
      rfl
    unfold exec execBusAnchorTakeover
    exact mbx_answers_at (b := b) (r := (.ok, _)) hs rfl (ok_then (busPort_eq hp) (need_then hmay
      (congrArg done (if_neg (by rw [hact]; nofun)))))
  case issue =>
    intro h msg arg p s hs b hmsg harg hopen hroot hops o
    have hne : msg ≠ 0x1A := by omega
    have hissue : (issuable msg && decide (arg < 2 ^ 64)) = true := by
      rw [decide_eq_true harg]
      obtain rfl | rfl | rfl := hmsg <;> rfl
    unfold exec execBusGlobalIssue
    refine mbx_answers_at (b := b) (r := (.ok, _)) hs rfl (need_then hissue (need_then hopen ?_))
    rw [hroot]
    refine need_then (by rw [Bool.or_eq_true]; exact .inr (decide_eq_true hops)) ?_
    rw [show o = (issueOp p msg arg false false b).1 from (issueOp_fst hne).symm]
    exact congrArg (fun t => done t _) (if_neg hne)
  case arrive =>
    intro h id s hs b hid hnone
    have hget : tgetD b.bus.barriers id {} = {} := by
      unfold tgetD
      rw [hnone]
      rfl
    unfold exec execBusBarrierArrive
    refine mbx_goes_on_at (b := b) hs rfl (need_then (decide_eq_true hid) ?_)
    rw [hget]

end Sys2Proof.Machine
end

section
/-! PROOFS. The host link's and the shapers' commands (13 R322-R326; 17 Table 17-10). -/

namespace Sys2Proof.Machine

open Sys2Proof.Safety

theorem ownShaper_eq {h : Hdr} {s : State} {n : Nat} {x : Shaper} (hn : n < 4096) (hx : tget s.sched.shapers n = some x)
    (ho : x.owner = h.fn) : ownShaper h s n = .ok x :=
  need_then (decide_eq_true hn) (ok_then (named_of_eq hx) (ok_then (owned_of_eq ho) rfl))

/-- The lowest free number is claimed where none is asked for. -/
theorem claimNew_of_free {α : Type} {t : Tbl α} {top n : Nat} (h : tfree t 0 top = some n) : claimNew t top none = .ok n := by
  unfold claimNew
  rw [h]

/-- The bucket of a function with no new records is brought up to date under its own rate. -/
theorem fnBucket_own {frc burst : Nat} {o : Option Bucket} (hr : ∀ k, o = some k → k.rate ≠ 0) :
    (fnBucket frc ((o.map (fun b => b.rate)).getD 0) burst o).map clearDebt =
      o.map (fun k => clearDebt (retune (refill k frc) k.rate burst)) := by
  cases o with
  | none => rfl
  | some k => exact congrArg (Option.map clearDebt) (if_neg (hr k rfl))

/-- A flow of the caller's own takes a shaper. -/
theorem bindTo_flow {h : Hdr} {v : Port} {id : Nat} {f : Flow} (sh : Option Nat) (hf : tget v.tx id = some f)
    (ho : f.owner = h.fn) (hs : f.stopped = false) :
    bindTo h v 0 id sh = .ok { v with tx := tput v.tx id { f with shaper := sh } } :=
  (if_pos rfl).trans (ok_then (named_of_eq hf) (ok_then (owned_of_eq ho) (need_then (congrArg not hs) rfl)))

/-- Settles O37: the checks of each command hold in their order. -/
theorem schedShapers : Obligations.SchedShapers := by
  refine ⟨?host, ?fn, ?shaper, ?bind, ?reset, ?release, ?policer, ?policerReset⟩
  case host =>
    intro h w s c hs b hok
    unfold exec execSchedHostSet
    exact mbx_answers (r := (.ok, _)) hs (ok_then hok rfl)
  case fn =>
    intro h fn s c hs b x hfn he hrate k
    have hb : (fnBucket b.keel.frc ((x.b.map (fun b => b.rate)).getD 0) x.burst x.b).map clearDebt = k := fnBucket_own hrate
    unfold exec execSchedFnSet
    refine mbx_answers_at (b := b) (r := (.ok, _)) hs rfl (need_then (decide_eq_true hfn) (ok_then rfl (need_then rfl
      (need_then he ?_))))
    rw [← hb]
    rfl
  case shaper =>
    intro h rate n s c hs b hok hrate hfree x
    unfold exec execSchedShaperSet
    exact mbx_answers (r := (.ok, _)) hs (need_then rfl (ok_then hok (need_then hrate (need_then rfl
      (ok_then (claimNew_of_free hfree) rfl)))))
  case bind =>
    intro h n port flow p x f s c hs b v hn hp hx ho hport hf hof hst u
    have hsame : (match x.port with | some q => q == p | none => true) = true := by
      obtain h | h := hport <;> rw [h]
      exact beq_self_eq_true p
    unfold exec execSchedShaperBind
    exact mbx_answers (r := (.ok, _)) hs (ok_then (busPort_eq hp) (need_then rfl (ok_then (ownShaper_eq hn hx ho)
      (need_then hsame (ok_then (bindTo_flow _ hf hof hst) rfl)))))
  case reset =>
    intro h n x s hs b hn hx ho k
    unfold exec execSchedShaperReset
    exact mbx_answers (r := (.ok, _)) hs (ok_then (ownShaper_eq hn hx ho) rfl)
  case release =>
    intro h n x s hs b hn hx ho hbound hlb
    unfold exec execSchedShaperRelease
    refine mbx_answers_at (b := b) (r := (.ok, _)) hs rfl (ok_then (ownShaper_eq hn hx ho) (need_then ?_ rfl))
    rw [hbound, hlb]
    rfl
  case policer =>
    intro h rate n s c hs b hok hfree x
    unfold exec execSchedPolicerSet
    exact mbx_answers (r := (.ok, _)) hs (need_then rfl (ok_then hok (need_then rfl (ok_then (claimNew_of_free hfree) rfl))))
  case policerReset =>
    intro h n x s hs b hn hx ho k full
    unfold exec execSchedPolicerReset
    exact mbx_answers (r := (.ok, _)) hs (need_then (decide_eq_true hn) (ok_then (named_of_eq hx) (ok_then (owned_of_eq ho)
      (need_then rfl rfl))))

end Sys2Proof.Machine
end

section
/-! PROOFS. Gate lists, statistics and latency records (13 R331-R333, R339; 17 Table 17-10). -/

namespace Sys2Proof.Machine

open Sys2Proof.Safety

/-- The consumers that keep a latency record (R339). -/
theorem latency_consumer {x : Queue} (h : qConsumer x.w = 2 ∨ qConsumer x.w = 6 ∨ qConsumer x.w = 7) :
    [2, 6, 7].contains (qConsumer x.w) = true := by
  obtain h | h | h := h <;> rw [h] <;> rfl

theorem fnStats_length (s : State) (fn : Nat) : (fnStats s fn).length = 6 := rfl

/-- Settles O38: the checks of each command hold in their order, with a change of a running list waiting for its next
cycle. -/
theorem schedGates : Obligations.SchedGates := by
  refine ⟨?set, ?start, ?stop, ?cls, ?boundary, ?stats, ?latSet, ?latRead⟩
  case set =>
    intro h n g p s hs b v hp hg hpend hfits
    have hfree : v.gates.pending.isNone = true := by rw [hpend]; rfl
    refine ⟨fun hrun => ?_, fun hrun hat => ?_⟩
    · have hnow : ¬(v.gates.running && !atCycleStart b v) = true := by
        rw [hrun]
        nofun
      unfold exec execSchedGateSet
      exact mbx_answers_at (b := b) (r := (.ok, _)) hs rfl (ok_then (busPort_eq hp) (need_then hg (need_then hfree
        (need_then hfits ((if_neg hnow).trans rfl)))))
    · have hlater : (v.gates.running && !atCycleStart b v) = true := by
        rw [hrun, hat]
        rfl
      unfold exec execSchedGateSet
      exact mbx_goes_on_at (b := b) hs rfl (ok_then (busPort_eq hp) (need_then hg (need_then hfree
        (need_then hfits ((if_pos hlater).trans rfl)))))
  case start =>
    intro h n g p i s hs b v hp hg hbase hrun harm hfree u
    have hon (t : State) : (decide (3 ≤ g.base) && (baseNow t g.base).isNone) = false := by
      rw [decide_eq_false (by omega)]
      rfl
    unfold exec execSchedGateStart
    refine mbx_answers_at (b := b) (r := (.ok, _)) hs rfl (ok_then (busPort_eq hp) (ok_then (named_of_eq hg)
      (need_then (congrArg not hrun) (need_then (congrArg not harm) ?_))))
    rw [hfree]
    dsimp only
    rw [hon]
    rfl
  case stop =>
    intro h n p s hs b v hp hrun hstop hpend hat
    unfold exec execSchedGateStop
    refine mbx_goes_on_at (b := b) hs rfl (ok_then (busPort_eq hp) (need_then hrun (need_then (congrArg not hstop) ?_)))
    have hat (f : Gates → Gates) : atCycleStart (outstanding h (.gateStop p) (gatesMod p f b)) v = false := by
      rw [← hat]
      cases p <;> rfl
    have hcyc : (if (portGet b p).gates.pending.isSome then (portGet b p).gates.pendCycle else cycleNow b (portGet b p)) =
        cycleNow b v := if_neg (by rw [show (portGet b p).gates.pending = none from hpend]; exact Bool.false_ne_true)
    dsimp only
    rw [hat, hcyc]
    rfl
  case cls =>
    intro h n cls p s hs b v w hp h2 h63 hfits
    have hargs : (decide (2 ≤ cls) && decide (cls < 64) && true) = true := by
      rw [decide_eq_true h2, decide_eq_true (by omega)]
      rfl
    unfold exec execSchedGateClass
    exact mbx_answers (r := (.ok, _)) hs (ok_then (busPort_eq hp) (need_then hargs (need_then (bne_iff_ne.2 (by omega))
      (need_then hfits rfl))))
  case boundary =>
    intro t p g x c s b v hg hrun hpoint hpend
    unfold exec execGateEntryBoundary ev
    dsimp only
    rw [hg, hrun]
    dsimp only
    rw [hpoint]
    exact congrArg Host.Outcome.next (if_pos hpend)
  case stats =>
    intro h s hs b hfn hnone hroom
    have hmine : b.sched.policers.filter (fun e => e.2.owner == h.fn) = [] :=
      List.filter_eq_nil_iff.2 fun e he => by simpa using hnone e he
    unfold exec execSchedStatsRead
    refine mbx_answers_at (b := b) (r := (.ok, _)) hs rfl ?_
    dsimp only
    rw [if_neg hfn, hmine, List.flatMap_nil, List.append_nil]
    refine need_then ?_ rfl
    rw [fnStats_length, Bool.or_eq_true]
    exact .inr (decide_eq_true hroom)
  case latSet =>
    intro h q limit x s hs b hq hlimit hx ho hst hcons
    unfold exec execSchedLatencySet
    exact mbx_answers (r := (.ok, _)) hs (need_then (decide_eq_true hlimit) (ok_then (liveQueue_eq hq hx ho hst)
      (need_then (latency_consumer hcons) rfl)))
  case latRead =>
    intro h q x s hs b l hq hx ho hst hcons
    unfold exec execSchedLatencyRead
    exact mbx_answers (r := (.ok, _)) hs (ok_then (liveQueue_eq hq hx ho hst) (need_then (latency_consumer hcons) rfl))

end Sys2Proof.Machine
end

section
/-! PROOFS. The CHECK commands and the queue feed (14 R341-R351; 17 Table 17-11). -/

namespace Sys2Proof.Machine

open Sys2Proof.Safety

theorem tget_tfilter_kept {α : Type} (t : Tbl α) (p : Nat → α → Bool) {id : Nat} (h : ∀ v, p id v = true) :
    tget (tfilter t p) id = tget t id := by
  unfold tfilter
  induction t with
  | nil => rfl
  | cons e r ih =>
    obtain ⟨k, v⟩ := e
    by_cases hk : k = id
    · subst hk
      rw [List.filter_cons, if_pos (h v), tget, tget, if_pos rfl, if_pos rfl]
    · rw [List.filter_cons, show tget ((k, v) :: r) id = tget r id from if_neg hk, ← ih]
      split
      · exact if_neg hk
      · rfl

/-- PRESET stays what its record says, whether or not the fields of CUSTOM go with it. -/
theorem unitPreset_unitFields (f : Tbl RVal) (code : Int) : unitPreset (unitFields f [⟨0xE402, .num code⟩]) = code.toNat := by
  have hput : unitPreset (tput f 0xE402 (.num code)) = code.toNat := fnat_tput f 0xE402 2 code
  unfold unitFields
  dsimp only [fapply, List.foldl_cons, List.foldl_nil]
  split
  · exact hput
  · rw [← hput]
    unfold unitPreset fnat fnum
    rw [tget_tfilter_kept _ _ fun _ => by decide]

theorem unitNum_ok {n : Nat} (h : n < 8) : unitNum n = .ok () :=
  need_then (decide_eq_true (by omega)) (need_of_true (decide_eq_true h))

theorem ownUnit_eq {h : Hdr} {s : State} {n : Nat} {u : CheckUnit} (hn : n < 8) (hu : tget s.checks n = some u) (ho : u.owner = h.fn) :
    ownUnit h s n = .ok u :=
  ok_then (unitNum_ok hn) (ok_then (named_of_eq hu) (ok_then (owned_of_eq ho) rfl))

/-- A unit that the caller holds is claimed again as it stands (R348). -/
theorem claimUnit_own {h : Hdr} {s : State} {n : Nat} {u : CheckUnit} (hn : n < 8) (hu : tget s.checks n = some u)
    (ho : u.owner = h.fn) : claimUnit h s (some n) = .ok (n, u) := by
  unfold claimUnit
  refine ok_then (unitNum_ok hn) ?_
  rw [hu]
  exact need_then (beq_iff_eq.2 ho) rfl

/-- Settles O42: the checks of each command hold in their order, and a packet of the feed has no bad cell, no abort and
its end. -/
theorem checkCommands : Obligations.CheckCommands := by
  refine ⟨?set, ?run, ?read, ?write, ?release, ?feed⟩
  case set =>
    intro h n u code s c hs b f hn hlo hhi hu ho hfeed
    have hpreset : ¬unitPreset f = 0 := by
      rw [unitPreset_unitFields]
      omega
    unfold exec execCheckSet
    refine mbx_answers_at (b := b) (r := (.ok, _)) hs rfl (ok_then (recsOk_single (f := fld 0xE402 (.int 0 8 1)) rfl rfl (by omega) hhi)
      (ok_then (claimUnit_own hn hu ho) (need_then ?_ ?_)))
    · exact (if_neg hpreset).trans rfl
    · dsimp only
      rw [show fopt (unitFields u.f [⟨0xE402, .num code⟩]) 0xE40B = none from hfeed]
      rfl
  case run =>
    intro h n u addr data s c hs b p v hn hlen hu ho hfeed hstrip ctx
    have hargs : (decide (data.length ≤ 16777216) && decide (0 < 8)) = true := by
      rw [decide_eq_true hlen]
      rfl
    have hnostrip : (unitStart u).strip = false := hstrip
    unfold exec execCheckRun
    refine mbx_answers_at (b := b) (r := (.ok, _)) hs rfl (need_then hargs (ok_then (ownUnit_eq hn hu ho) (need_then (by rw [hfeed]; rfl)
      (need_then rfl (need_then rfl (need_then ?_ ?_))))))
    · rw [if_pos rfl, hnostrip]
      rfl
    · have hfed : unitFeedBytes 0 data (unitStart u) = { unitStart u with ctx := { ctx with open_ := true } } := by
        refine (if_neg (ne_of_eq_of_ne hnostrip Bool.false_ne_true)).trans ?_
        rw [show (unitStart u).ctx.bytes + data.length = data.length from Nat.zero_add _]
        rfl
      have hmode : (unitFeedBytes 0 data (unitStart u)).strip = false := by rw [hfed]; exact hstrip
      have hend : unitEnd (unitFeedBytes 0 data (unitStart u)) = { u with p := p, strip := false, ctx := ctx } := by
        rw [hfed]
        show ({ u with p := p, strip := unitStrip u.f, ctx := ctx } : CheckUnit) = _
        rw [hstrip]
      show Except.ok (finishRun h n addr data.length true (unitFeedBytes 0 data (unitStart u)) b) = _
      unfold finishRun
      rw [hmode, hend, hfed]
      rfl
  case read =>
    intro h n u s hs b hn hu ho hfeed
    unfold exec execCheckStateRead
    exact mbx_answers (r := (.ok, _)) hs (ok_then (ownUnit_eq hn hu ho) (need_then (by rw [hfeed]; rfl) rfl))
  case write =>
    intro h n u k s hs b hn hu ho hfeed hopen hval hheld
    have hargs : (decide (k.value < 2 ^ u.p.width) && decide (k.held.length ≤ valueBytes u.p)) = true := by
      rw [decide_eq_true hval, decide_eq_true hheld]
      rfl
    unfold exec execCheckStateWrite
    refine mbx_answers_at (b := b) (r := (.ok, _)) hs rfl (ok_then (ownUnit_eq hn hu ho) (need_then (by rw [hfeed]; rfl) ?_))
    rw [if_pos hopen]
    exact need_then hargs rfl
  case release =>
    intro h n u s hs b hn hu ho
    unfold exec execCheckRelease
    exact mbx_answers (r := (.ok, _)) hs (ok_then (ownUnit_eq hn hu ho) (need_then rfl rfl))
  case feed =>
    intro t n u q y p s b hn hu hfeed hq hserve hstop hblock hhead hgood habort hclosed
    have hcells : p.cells.any (fun c => c.bad) = false := List.any_eq_false.2 fun k hk => by rw [hgood k hk]; nofun
    have hready : (!(inService b) || y.stopped || y.blocked) = false := by
      rw [hserve, hstop, hblock]
      rfl
    have hstep (ok : Bool) : exec (.checkFeedPacket t ⟨n, ok⟩) s = .next (if ok then feedWhole n q p u b else feedSpoilt n q p u b) := by
      unfold exec execCheckFeedPacket
      refine (if_pos (decide_eq_true hn)).trans (congrArg Host.Outcome.next ?_)
      dsimp only
      rw [hu]
      dsimp only
      rw [hfeed]
      dsimp only
      rw [hq]
      dsimp only
      rw [hready, hhead]
      dsimp only
      rw [hcells, habort, hclosed]
      rfl
    exact ⟨hstep true, hstep false⟩

end Sys2Proof.Machine
end

section
/-! PROOFS. The TRUST commands of provisioning, lifecycle, firmware and configuration (15 R353-R364; 17 Table 17-12). -/

namespace Sys2Proof.Machine

open Sys2Proof.Safety

/-- An image whose signature holds and whose SVN and lifecycle are allowed passes (R357). -/
theorem imageCheck_ok {s : State} {lc svn : Nat} (h : imageAllowed s lc svn = true) : imageCheck s true lc svn = .ok () :=
  need_then rfl (need_of_true h)

/-- Settles O44: the tokens, signatures and floors that each command asks for hold. -/
theorem trustDevice : Obligations.TrustDevice := by
  refine ⟨?info, ?provision, ?field, ?rma, ?debug, ?stage, ?activate, ?commit, ?recover, ?pcb⟩
  case info =>
    intro h s hs b v c
    unfold exec execTrustInfo
    exact mbx_answers (r := (.ok, _)) hs rfl
  case provision =>
    intro h root blob svn s hs b hblank hform hkind hwrap hdev htag hmin hexp hcfg t
    have hblob : (blob.formOk && blob.kind == 3 && blob.wrap == 2 && blob.deviceOk && blob.tagOk &&
        decide (blob.minSvn ≤ b.trust.svn) && !(expired b blob.expires blob.expiry)) = true := by
      rw [hform, hkind, hwrap, hdev, htag, decide_eq_true hmin, hexp]
      rfl
    unfold exec execTrustProvision
    exact mbx_answers_at (b := b) (r := (.ok, _)) hs rfl (need_then (beq_iff_eq.2 hblank) (need_then hblob
      (need_then (decide_eq_true hcfg) rfl)))
  case field =>
    intro h oem neyth ok s c hs b hlife hes hchal u
    unfold exec execTrustLifecycleAdvance
    refine mbx_answers_at (b := b) (r := (.ok, _)) hs rfl ?_
    dsimp only
    rw [hlife, hes, hchal]
    rfl
  case rma =>
    intro h oem neyth s c hs b hlife hoem hneyth u
    unfold exec execTrustLifecycleAdvance
    refine mbx_answers_at (b := b) (r := (.ok, _)) hs rfl ?_
    dsimp only
    rw [hlife, hoem, hneyth, Bool.and_assoc, show ((2 : Nat) == 1 && (3 : Nat) == 2) = false from rfl, Bool.and_false]
    rfl
  case debug =>
    intro h chal ok s hs b hlife hchal u
    unfold exec execTrustDebugUnlock
    refine mbx_answers_at (b := b) (r := (.ok, _)) hs rfl ?_
    dsimp only
    rw [hlife, hchal]
    rfl
  case stage =>
    intro h lc svn meas s hs b hallow hrun i
    unfold exec execTrustFwStage
    refine mbx_answers_at (b := b) (r := (.ok, _)) hs rfl (ok_then (imageCheck_ok hallow) ?_)
    dsimp only
    rw [hrun]
    rfl
  case activate =>
    intro h s hs b hstaged
    unfold exec execTrustFwActivate
    exact mbx_answers (r := (.ok, _)) hs (need_then hstaged rfl)
  case commit =>
    intro h s hs b fw cfg n m
    unfold exec execTrustFwCommit
    exact mbx_answers (r := (.ok, _)) hs rfl
  case recover =>
    intro h lc svn meas s hs b hallow i
    unfold exec execTrustFwRecover
    exact mbx_answers_at (b := b) (r := (.ok, _)) hs rfl (need_then hallow rfl)
  case pcb =>
    intro h svn s hs b hcfg
    unfold exec execTrustPcbSet
    exact mbx_answers_at (b := b) (r := (.ok, _)) hs rfl (need_then rfl (need_then (decide_eq_true hcfg) rfl))

end Sys2Proof.Machine
end

section
/-! PROOFS. The TRUST commands of keys, nodes, sessions, attestation and secure time (15 R363-R373; 17 Table 17-12). -/

namespace Sys2Proof.Machine

open Sys2Proof.Safety

/-- A free general slot takes the key named for it (R365). -/
theorem keySlotFor_free {h : Hdr} {s : State} {n : Nat} (hfree : tget s.keel.vault.slots n = none) :
    keySlotFor h s (some n) = .ok n := by
  unfold keySlotFor
  dsimp only
  rw [hfree]

/-- A node without an exchange has none to abort (R366). -/
theorem abortEnroll_of_none {p : BusPort} {node : Nat} {s : State} (h : tget (portGet s p).enrolls node = none) :
    abortEnroll p node s = s := by
  unfold abortEnroll
  dsimp only
  rw [h]

/-- Settles O45: slots, blobs, ports and challenges are as each command asks for. -/
theorem trustKeys : Obligations.TrustKeys := by
  refine ⟨?load, ?generate, ?erase, ?authority, ?revoke, ?challenge, ?sopen, ?sclose, ?attest, ?time⟩
  case load =>
    intro h n blob s hs b hn hkeys hform hkind hfree hblob
    have hargs : (blob.formOk && (blob.kind == 1 || blob.kind == 2)) = true := by
      rw [hform, Bool.true_and, Bool.or_eq_true, beq_iff_eq, beq_iff_eq]
      exact hkind
    unfold exec execTrustKeyLoad
    exact mbx_answers_at (b := b) (r := (.ok, _)) hs rfl (need_then (decide_eq_true hn) (ok_then hkeys (need_then hargs
      (ok_then (keySlotFor_free hfree) (ok_then hblob rfl)))))
  case generate =>
    intro h n s hs b hn hfree v
    unfold exec execTrustKeyGenerate
    exact mbx_answers_at (b := b) (r := (.ok, _)) hs rfl (need_then (decide_eq_true hn) (ok_then (keySlotFor_free hfree) rfl))
  case erase =>
    intro h n k s hs b hn hk ho hunused vault
    have hany : b.asset.volumes.any (fun e => e.2.slot == n) = false :=
      List.any_eq_false.2 fun e he => by simpa using hunused e he
    unfold exec execTrustKeyErase
    exact mbx_answers_at (b := b) (r := (.ok, _)) hs rfl (need_then (decide_eq_true hn) (ok_then (named_of_eq hk)
      (ok_then (owned_of_eq ho) (need_then (congrArg not hany) rfl))))
  case authority =>
    intro h port node p s hs b hp
    unfold exec execTrustAuthoritySet
    refine mbx_answers_at (b := b) (r := (.ok, _)) hs rfl ?_
    rw [hp]
    rfl
  case revoke =>
    intro h port node subject p s c hs b hp hnone hnew left u
    have hport : portGet (dropNodeKeys p node b) p = portGet b p := by cases p <;> rfl
    have habort : abortEnroll p node (dropNodeKeys p node b) = dropNodeKeys p node b :=
      abortEnroll_of_none (by rw [hport]; exact hnone)
    unfold exec execTrustNodeRevoke
    refine mbx_answers_at (b := b) (r := (.ok, _)) hs rfl ?_
    rw [hp]
    dsimp only
    rw [habort, hport, hnew]
    rfl
  case challenge =>
    intro h s hs b v c
    unfold exec execTrustSessionChallenge
    exact mbx_answers (r := (.ok, _)) hs rfl
  case sopen =>
    intro h chal key s hs b hdebug hpcb hroom hmine hchal hid id qe u vault t
    have hserve : (!b.trust.debug && b.trust.pcbOk) = true := by
      rw [hdebug, hpcb]
      rfl
    have hfits : (decide (b.keel.vault.sessions.length < 64) &&
        decide (b.keel.vault.sessions.countP (fun e => e.2.owner == h.fn) < 16)) = true := by
      rw [decide_eq_true hroom, decide_eq_true hmine]
      rfl
    have hnext : (if b.trust.nextSession + 1 < 2 ^ 32 then b.trust.nextSession + 1 else 1) = b.trust.nextSession + 1 := if_pos hid
    unfold exec execTrustSessionOpen
    refine mbx_answers_at (b := b) (r := (.ok, _)) hs rfl (need_then hserve (need_then hfits ?_))
    dsimp only
    rw [hchal]
    refine (if_neg (by decide)).trans ?_
    unfold takeRandom
    rw [show (useChallenge chal b).trust = { b.trust with challenges := (useChallenge chal b).trust.challenges } from rfl]
    dsimp only
    rw [hnext]
    rfl
  case sclose =>
    intro h id k s hs b hk ho
    unfold exec execTrustSessionClose
    exact mbx_answers (r := (.ok, _)) hs (ok_then (named_of_eq hk) (ok_then (owned_of_eq ho) rfl))
  case attest =>
    intro h nonce data s hs b
    unfold exec execTrustAttest
    exact mbx_answers (r := (.ok, _)) hs rfl
  case time =>
    intro h chal time s hs b hpcb hchal u
    unfold exec execTrustTimeSet
    refine mbx_answers_at (b := b) (r := (.ok, _)) hs rfl ?_
    dsimp only
    rw [hpcb, hchal]
    rfl

end Sys2Proof.Machine
end

section
/-! PROOFS. The FAULT commands (18 R411-R426; 17 Table 17-13). -/

namespace Sys2Proof.Machine

open Sys2Proof.Safety

theorem srcRange_single {n : Nat} (h : n < 1024) : srcRange n n = true := by
  unfold srcRange
  rw [decide_eq_true (le_refl n), decide_eq_true h]
  rfl

/-- A range of one listed source. -/
theorem srcsIn_single {n : Nat} (h : srcListed n = true) : srcsIn n n = [n] := by
  unfold srcsIn
  rw [Nat.add_sub_cancel_left]
  exact List.filter_cons_of_pos (p := srcListed) h

/-- Settles O46: every number is in its range, and what a command names is there. -/
theorem faultCommands : Obligations.FaultCommands := by
  refine ⟨?set, ?threshold, ?read, ?log, ?ack, ?count, ?verdict, ?xf⟩
  case set =>
    intro h n sev ms s hs b hn hlisted hlocked hsev hlo hhi
    have hargs : (srcRange n n && decide (sev < 5) && decide (0 < 2) && decide (1 ≤ ms) && decide (ms ≤ 60000) &&
        !((0 : Nat) == 1 && decide (3 < sev))) = true := by
      rw [srcRange_single hn, decide_eq_true hsev, decide_eq_true hlo, decide_eq_true hhi]
      rfl
    unfold exec execFaultSet
    refine mbx_answers_at (b := b) (r := (.ok, _)) hs rfl (need_then hargs ?_)
    rw [srcsIn_single hlisted, List.any_cons, hlocked]
    rfl
  case threshold =>
    intro h x y s hs b hx1 hx5 hy1 hy5
    unfold exec execFaultThresholdSet
    refine mbx_answers_at (b := b) (r := (.ok, _)) hs rfl (need_then ?_ rfl)
    rw [decide_eq_true hx1, decide_eq_true hx5, decide_eq_true hy1, decide_eq_true hy5]
    rfl
  case read =>
    intro h r s hs b hlast
    unfold exec execFaultRead
    exact mbx_answers_at (b := b) (r := (.ok, _)) hs rfl (need_then rfl (ok_then (named_of_eq hlast) rfl))
  case log =>
    intro h first n s hs b recs hfirst hlo hhi hroom
    have hargs : (decide (first < 64) && decide (1 ≤ n) && decide (n ≤ 64)) = true := by
      rw [decide_eq_true hfirst, decide_eq_true hlo, decide_eq_true hhi]
      rfl
    unfold exec execFaultLogRead
    exact mbx_answers_at (b := b) (r := (.ok, _)) hs rfl (need_then hargs (need_then
      (Bool.or_eq_true_iff.2 (.inr (decide_eq_true hroom))) rfl))
  case ack =>
    intro h n s hs b hn hlisted u v
    have hlatched : latchedIn (if latchedIn u 0 1023 = 0 then v else u) n n = latchedIn u n n := by
      split <;> rfl
    unfold exec execFaultAck
    refine mbx_answers_at (b := b) (r := (.ok, _)) hs rfl (need_then (srcRange_single hn) ?_)
    rw [srcsIn_single hlisted, ← hlatched]
    rfl
  case count =>
    intro h a z s hs b hle hz hroom
    have hrange : srcRange a z = true := by
      unfold srcRange
      rw [decide_eq_true hle, decide_eq_true hz]
      rfl
    unfold exec execFaultCountRead
    exact mbx_answers_at (b := b) (r := (.ok, _)) hs rfl (need_then hrange (need_then
      (Bool.or_eq_true_iff.2 (.inr (decide_eq_true hroom))) rfl))
  case verdict =>
    intro h idx act n x v s hs b holds hact hfind hv hdue
    unfold exec execFaultVerdict
    refine mbx_answers_at (b := b) (r := (.ok, _)) hs rfl (need_then (decide_eq_true hact) ?_)
    split
    · next m y hheld =>
      obtain ⟨rfl, rfl⟩ : m = n ∧ y = x := Prod.mk.inj (Option.some.inj (hheld.symm.trans hfind))
      rw [hv]
      exact need_then (decide_eq_true hdue) rfl
    · next hnone => exact absurd (hnone.symm.trans hfind) nofun
  case xf =>
    intro h e s hs b he
    unfold exec execFaultXfSet
    exact mbx_answers (r := (.ok, _)) hs (need_then (decide_eq_true he) rfl)

end Sys2Proof.Machine
end

section
/-! PROOFS. The PIN, POWER and DIAG commands (17 Tables 17-14 to 17-16; 20 R461). -/

namespace Sys2Proof.Machine

open Sys2Proof.Safety

/-- A pin that its caller owns (R404). -/
theorem ownPin_eq {h : Hdr} {s : State} {k i : Nat} (heng : pinEngine s k i = false) (ho : pinOwner s k i = some h.fn) :
    ownPin h s k i = .ok () := by
  unfold ownPin
  rw [heng, ho]
  exact need_of_true (beq_self_eq_true h.fn)

/-- What DIAG.TEMP.READ returns for sensor `i`: its reading in 1/16 degree, or a free value (log 11). -/
def tempOf (s : State) (i : Nat) : Int :=
  ((if i < 16 then (coreGet s i).temp else tget s.board.temps i).map (fun v => v * 16)).getD
    (Int.ofNat (Config.freeValue (s.free + i)))

theorem temps_getElem (s : State) {i : Nat} (h : i < 24) : ((List.range 24).map (tempOf s))[i]? = some (tempOf s i) := by
  rw [List.getElem?_map, List.getElem?_range h]
  rfl

/-- Settles O47: the numbers are in their ranges, and the pins are free or the caller's. -/
theorem pinPowerDiag : Obligations.PinPowerDiag := by
  refine ⟨?claim, ?release, ?query, ?gpioSet, ?gpioRead, ?cap, ?power, ?telem, ?cores, ?selftest, ?temps, ?trace⟩
  case claim =>
    intro h k i s hs b hk hi heng hfree
    have hargs : (decide (k < 5) && decide (i < pinCount k)) = true := by
      rw [decide_eq_true hk, decide_eq_true hi]
      rfl
    have hclaim : claimIndex b k h.fn (some i) = .ok i := by
      unfold claimIndex
      dsimp only
      rw [heng, hfree]
      rfl
    unfold exec execPinClaim
    refine mbx_answers_at (b := b) (r := (.ok, _)) hs rfl (need_then hargs (ok_then hclaim ?_))
    rw [hfree]
    rfl
  case release =>
    intro h k i s hs b hk hi heng ho
    have hargs : (decide (k < 5) && decide (i < pinCount k)) = true := by
      rw [decide_eq_true hk, decide_eq_true hi]
      rfl
    unfold exec execPinRelease
    exact mbx_answers_at (b := b) (r := (.ok, _)) hs rfl (need_then hargs (ok_then (ownPin_eq heng ho)
      (need_then (Bool.or_true _) rfl)))
  case query =>
    intro h k i s hs b hk hi o
    have hargs : (decide (k < 5) && decide (i < pinCount k)) = true := by
      rw [decide_eq_true hk, decide_eq_true hi]
      rfl
    unfold exec execPinQuery
    exact mbx_answers_at (b := b) (r := (.ok, _)) hs rfl (need_then hargs rfl)
  case gpioSet =>
    intro h i level s hs b hi hlevel ho
    have hargs : (decide (i < 14) && decide (1 < 2) && decide (level < 2)) = true := by
      rw [decide_eq_true hi, decide_eq_true hlevel]
      rfl
    unfold exec execPinGpioSet
    exact mbx_answers_at (b := b) (r := (.ok, _)) hs rfl (need_then hargs (ok_then (ownPin_eq (s := b) (k := 4) rfl ho) rfl))
  case gpioRead =>
    intro h i ball s hs b hi ho
    unfold exec execPinGpioRead
    exact mbx_answers_at (b := b) (r := (.ok, _)) hs rfl (need_then (decide_eq_true hi) (ok_then (ownPin_eq (s := b) (k := 4) rfl ho) rfl))
  case cap =>
    intro h mw s hs b hlo hhi
    unfold exec execPowerCapSet
    refine mbx_answers (r := (.ok, _)) hs (need_then ?_ rfl)
    rw [decide_eq_true hlo, decide_eq_true hhi]
    rfl
  case power =>
    intro h est tj s hs b hest htj
    unfold exec execPowerQuery
    refine mbx_answers_at (b := b) (r := (.ok, _)) hs rfl ?_
    dsimp only
    rw [hest]
    dsimp only [Option.map_some, orFree]
    rw [htj]
    rfl
  case telem =>
    intro h i addr dev rail s hs b hi hlo hdev hrail haddr d
    have hargs : (decide (i < 8) && decide (dev < 3) && decide (rail < 8) && decide (addr < 256)) = true := by
      rw [decide_eq_true hi, decide_eq_true hdev, decide_eq_true hrail, decide_eq_true haddr]
      rfl
    unfold exec execPowerTelemetrySet
    refine mbx_answers_at (b := b) (r := (.ok, _)) hs rfl (need_then hargs ?_)
    dsimp only
    rw [if_neg (show ¬dev = 0 by omega)]
    rfl
  case cores =>
    intro h clear s hs b u v
    unfold exec execDiagCoreStats
    exact mbx_answers (r := (.ok, _)) hs rfl
  case selftest =>
    intro h fails s hs b hnone u test
    unfold exec execDiagSelftest
    exact mbx_goes_on_at (b := b) hs rfl (need_then (by rw [hnone]; rfl) rfl)
  case temps =>
    intro h s hs b hlife
    refine ⟨(List.range 24).map (tempOf b), ?length, ?answer, ?core, ?board⟩
    case length => rw [List.length_map, List.length_range]
    case answer =>
      unfold exec execDiagTempRead
      exact mbx_answers_at (b := b) (r := (.ok, _)) hs rfl (if_neg hlife)
    case core =>
      intro i t hi ht
      rw [temps_getElem b (by omega)]
      unfold tempOf
      rw [if_pos hi, ht]
      rfl
    case board =>
      intro i t hlo hhi ht
      rw [temps_getElem b hhi]
      unfold tempOf
      rw [if_neg (by omega), ht]
      rfl
  case trace =>
    intro h n addr s hs b hlife
    refine ⟨min n (Config.traceBytes b.free n), Nat.min_le_left _ _, ?_⟩
    unfold exec execDiagTraceRead
    exact mbx_answers_at (b := b) (r := (.ok, _)) hs rfl (need_then (bne_iff_ne.2 hlife) rfl)

end Sys2Proof.Machine
end

section
/-! PROOFS. The events of fall lines: changes, anchors, relay and residual (02 R33, R47, R467). -/

namespace Sys2Proof.Machine

open Sys2Proof.Safety

/-- The next state of an event is what it does in the state that its time has reached. -/
theorem ev_eq {t : Nat} {s b u : State} {f : State → State} (hb : advance t s = b) (h : f b = u) : ev t s f = .next u := by
  subst hb
  exact congrArg Host.Outcome.next h

/-- The next state of an event about an object that exists. -/
theorem evOn_eq {ok : Bool} {t : Nat} {s b u : State} {f : State → State} (hok : ok = true) (hb : advance t s = b)
    (h : f b = u) : evOn ok t s f = .next u :=
  (if_pos hok).trans (ev_eq hb h)

theorem settleFl_of_none {s : State} {n : Nat} (h : (flGet s n).pending = []) : settleFl n s = s := by
  unfold settleFl
  rw [h]
  rfl

theorem settleAnchor_of_none {s : State} {n : Nat} (h : (flGet s n).anchorNext = none) : settleAnchor n s = s := by
  unfold settleAnchor
  dsimp only
  rw [h]

theorem flGet_rekey (s : State) (n : Nat) : flGet (rekey n s) n = flGet s n := rfl

/-- Settles O24: each event finds what it waits for due. -/
theorem fallLineEvents : Obligations.FallLineEvents := by
  refine ⟨?change, ?anchor, ?send, ?receive, ?relay, ?residual⟩
  case change =>
    intro t fl s b hfl hpend hanchor
    have hsome : (flGet b fl).pending.isEmpty = false := List.isEmpty_eq_false_iff.2 hpend
    have hstep : exec (.flChangeApply t fl) s = .next (settleFl fl b) := by
      unfold exec execFlChangeApply
      exact evOn_eq (decide_eq_true hfl) rfl (congrArg (settleFl fl) (settleAnchor_of_none hanchor))
    refine ⟨fun hdue => ?_, fun hdue => ?_⟩
    · rw [hstep]
      unfold settleFl
      dsimp only
      rw [hsome, hdue]
      rfl
    · rw [hstep]
      unfold settleFl
      dsimp only
      rw [hsome, hdue]
      rfl
  case anchor =>
    intro t fl k recs j s b f hfl hpend hnext hframe
    unfold exec execFlChangeApply
    refine evOn_eq (b := b) (decide_eq_true hfl) rfl ?_
    have hanchor : settleAnchor fl b = if Int.ofNat k ≤ j then
        rekey fl (setFl b fl { f with f := fapply f.f recs, anchorNext := none }) else b := by
      unfold settleAnchor
      dsimp only
      rw [hframe, show (flGet b fl).anchorNext = some (k, recs) from hnext]
    rw [hanchor]
    refine settleFl_of_none ?_
    split
    · rw [flGet_rekey, setFl_get]
      exact hpend
    · exact hpend
  case send =>
    intro t fl dk dst i s b f hfl hserve hout hnow hsent n u
    unfold exec execFlAnchorTx
    refine evOn_eq (b := b) (decide_eq_true hfl) rfl ?_
    dsimp only
    rw [show flist (flGet b fl).f 0x290C = [0, dk, dst] from hout, hnow]
    dsimp only
    rw [show (flGet b fl).sentFrame = none from hsent, hserve]
    rfl
  case receive =>
    intro t port a s b hserve htag
    unfold exec execFlAnchorRx
    refine ev_eq (b := b) rfl ?_
    rw [hserve, htag]
    rfl
  case relay =>
    intro t fl s b f hfl hsrc hlate
    unfold exec execRelayAnchorTimeout
    exact evOn_eq (b := b) (decide_eq_true hfl) rfl (if_pos ⟨hsrc, hlate⟩)
  case residual =>
    intro t s b hdone
    unfold exec execResidualSlewDone
    exact ev_eq (b := b) rfl (if_pos hdone)

end Sys2Proof.Machine
end

section
/-! PROOFS. The frames of the time exchange (02 R37, R41, R42, Tables 2-4 and 2-7). -/

namespace Sys2Proof.Machine

open Sys2Proof.Safety

theorem timeRx_of_taken {port : BusPort} {tagOk : Bool} {s : State} {f : State → State} (hserve : inService s = true)
    (htag : timeTagOk (portGet s port) tagOk = true) : timeRx port tagOk s f = f s := by
  unfold timeRx
  rw [hserve, htag]
  rfl

theorem setServo_setServo (d : Dom) (v w : Servo) (s : State) : setServo d v (setServo d w s) = setServo d v s := by cases d <;> rfl

/-- The servo's own state says nothing about when a frame came in. -/
theorem ingress_setServo (d e : Dom) (v : Servo) (s : State) (p : BusPort) (frc tdc : Nat) :
    ingress (setServo d v s) p e frc tdc = ingress s p e frc tdc := by cases d <;> rfl

theorem termsOf_setServo (d : Dom) (v : Servo) (s : State) (p : BusPort) : termsOf (setServo d v s) p = termsOf s p := by
  cases d <;> rfl

/-- An edge that no FIFO selects goes nowhere (R55). -/
theorem routeInternal_of_none {s : State} {source flags : Nat} {time : Ticks}
    (h : ∀ n, n < 8 → (tgetD s.tu.caps n {}).sources = []) : routeInternal source flags time s = s := by
  unfold routeInternal
  simp only [List.foldl_cons, List.foldl_nil, h 4 (by decide), h 5 (by decide), h 6 (by decide), h 7 (by decide),
    List.contains_nil, Bool.false_eq_true, if_false]

/-- Settles O25: each frame passes the checks of its kind. -/
theorem timeExchange : Obligations.TimeExchange := by
  refine ⟨?sync, ?follow, ?followUp, ?delayReq, ?delayRsp, ?holdover⟩
  case sync =>
    intro t port d s b v sv hserve hleads hnone
    unfold exec execSyncTx
    refine ev_eq (b := b) rfl ?_
    dsimp only
    rw [show tget (portGet b port).syncAt (domNum d) = none from hnone, hserve, show leadsOn (portGet b port) d = true from hleads,
      setServo_keel]
    rfl
  case follow =>
    intro t port f s b hserve htag hfollows hlocked hepoch hnone u
    unfold exec execSyncRx
    refine ev_eq (b := b) rfl ((timeRx_of_taken hserve htag).trans ?_)
    simp only [hfollows, routeInternal_of_none hnone, setServo_keel, hlocked, hepoch, bne_self_eq_false, Bool.false_and,
      show (ServoState.locked == ServoState.free) = false from rfl, show (ServoState.locked == ServoState.holdover) = false from rfl,
      Bool.not_true, Bool.false_eq_true, if_false, servoOf_setServo, setServo_setServo, ingress_setServo]
    rfl
  case followUp =>
    intro t port f x s b sv hserve htag hfollows htwo hleader htseq hxepoch exch u
    have hstep : exec (.followUpRx t port f) s = .next (
        if (domSet b.keel f.domain).st == .free then firstStep f.domain f.epoch (f.origin - x.t2) u
        else if (domSet b.keel f.domain).epoch != f.epoch then followStep f.domain f.epoch x.step (f.origin - x.t2) u else u) := by
      unfold exec execFollowUpRx
      refine ev_eq (b := b) rfl ((timeRx_of_taken hserve htag).trans ?_)
      dsimp only
      rw [hfollows, show (servoOf b f.domain).twoStep = some x from htwo]
      dsimp only
      rw [hleader, htseq, hxepoch]
      simp only [bne_self_eq_false, Bool.false_or]
      rfl
    refine ⟨fun hset hsame => ?_, fun hset hnew => ?_, fun hfree => ?_⟩
    · rw [hstep, if_neg (by simpa using hset), if_neg (by simpa using hsame)]
    · rw [hstep, if_neg (by simpa using hset), if_pos (by simpa using hnew)]
    · rw [hstep, if_pos (by simpa using hfree)]
  case delayReq =>
    intro t port f s b hserve htag hleads
    unfold exec execDelayReqRx
    refine ev_eq (b := b) rfl ((timeRx_of_taken hserve htag).trans ?_)
    rw [hleads]
    rfl
  case delayRsp =>
    intro t port f node x t1 t3 s b sv hserve htag hfollows hexch hleader hnode ht1 ht3 htseq hepoch hcap hdue hdom hmode u theta
    have hintime : decide (x.sentAt + syncNs (servoOf b f.domain) < b.keel.frc) = false := decide_eq_false (not_lt.2 hdue)
    unfold exec execDelayRspRx
    refine ev_eq (b := b) rfl ((timeRx_of_taken hserve htag).trans ?_)
    dsimp only
    rw [show (servoOf b f.domain).exch = some x from hexch]
    dsimp only
    rw [hfollows, hleader, hnode, ht1, ht3, htseq, hepoch, hcap, setServo_keel, hintime]
    simp only [bne_self_eq_false, Bool.not_true, Bool.false_or, Bool.false_eq_true, if_false]
    rw [if_neg (show ¬fnat (servoOf b f.domain).f 0x2301 0 = 1 by rw [hmode]; decide)]
    simp only [theta, u, sv, hdom]
    rfl
  case holdover =>
    intro t d s b sv hlocked hlate
    unfold exec execSyncMissHoldover
    refine ev_eq (b := b) rfl ?_
    refine if_pos ?_
    rw [hlocked]
    exact decide_eq_true hlate

end Sys2Proof.Machine
end

section
/-! PROOFS. The events of the mailboxes' registers (16 R378-R391). -/

namespace Sys2Proof.Machine

open Sys2Proof.Safety

/-- Settles O48: the registers are live, and each write takes the branch that its fields say. -/
theorem mailboxEvents : Obligations.MailboxEvents := by
  refine ⟨?doorbell, ?stale, ?enable, ?clear, ?head, ?holdoff⟩
  case doorbell =>
    intro t fn w v es s b m tail hnamed hlive hready hstop htail
    have hstep : exec (.mbxDoorbellWrite t fn w v es) s = .next (ringDoorbell fn w tail es b) := by
      unfold exec execMbxDoorbellWrite
      exact evOn_eq (b := b) hnamed rfl (if_pos hlive)
    have hrings : ¬(!m.ready) = true := by rw [hready]; nofun
    have hgoes : ¬(m.stopped.isSome || tail == m.reqTail) = true := by rw [hstop, beq_eq_false_iff_ne.2 htail]; nofun
    refine ⟨fun hfar => ?far, fun hnear => ?near⟩
    case far =>
      rw [hstep]
      unfold ringDoorbell
      exact congrArg Host.Outcome.next ((if_neg hrings).trans ((if_neg hgoes).trans (if_pos hfar)))
    case near =>
      intro k m2
      rw [hstep]
      unfold ringDoorbell
      exact congrArg Host.Outcome.next ((if_neg hrings).trans ((if_neg hgoes).trans (if_neg (not_lt.2 hnear))))
  case stale =>
    intro t fn w e s b m hnamed hstale hdue hcan hread hphase
    unfold exec execStalePhaseRetry
    refine evOn_eq (b := b) hnamed rfl ?_
    have hfetch : fetchEntry fn w true e b = stopRing fn w 1 m.reqHead b := by
      unfold fetchEntry
      exact (if_neg (by rw [hread]; nofun)).trans ((if_pos (bne_iff_ne.2 hphase)).trans (if_pos rfl))
    dsimp only
    rw [hstale, decide_eq_false (not_lt.2 hdue), hcan, hfetch]
    rfl
  case enable =>
    intro t fn v s b m m2 hnamed hlive hoff hok
    have hstep : exec (.mbxEnableSet t fn true v) s =
        .next (if b.eng == .startHut then setMbx b fn true m2 else startRings fn true m2 b) := by
      unfold exec execMbxEnableSet
      refine evOn_eq (b := b) hnamed rfl ((if_pos hlive).trans ?_)
      unfold enableSet
      dsimp only
      rw [hoff]
      exact if_pos hok
    refine ⟨fun hhut => ?_, fun hserve => ?_, rfl⟩
    · rw [hstep, hhut]
      rfl
    · rw [hstep, if_neg (by simpa using hserve)]
  case clear =>
    intro t fn w s b m hnamed hlive hon m2 u
    unfold exec execMbxEnableClear
    refine evOn_eq (b := b) hnamed rfl ((if_pos hlive).trans ?_)
    unfold enableClear
    dsimp only
    rw [hon]
    rfl
  case head =>
    intro t fn w v s b m rh eh hnamed hlive hnone m2
    unfold exec execMbxRspHeadWrite
    refine evOn_eq (b := b) hnamed rfl ((if_pos hlive).trans ?_)
    have hall : decide (0 < (mbxGet b fn w).evtDropped) = false := decide_eq_false (Nat.not_lt.2 (Nat.le_of_eq hnone))
    unfold headWrite
    simp only [hall, Bool.false_and, Bool.false_eq_true, if_false]
    rfl
  case holdoff =>
    intro t fn v e s b x hfn hv hend hdue u
    have hargs : (decide (fn < 64) && decide (v < 256)) = true := by
      rw [decide_eq_true hfn, decide_eq_true hv]
      rfl
    unfold exec execMsixHoldoffEnd
    refine evOn_eq (b := b) hargs rfl ?_
    dsimp only
    rw [hend]
    exact if_neg (not_lt.2 hdue)

end Sys2Proof.Machine
end

section
/-! PROOFS. Data doorbells, registers, submissions, deliveries and the host link (13 R319, R320; 16 R385-R390). -/

namespace Sys2Proof.Machine

open Sys2Proof.Safety

/-- A write of FN_STATE goes nowhere else, whatever debug window is open. -/
theorem registerWrite_fnState {t fn : Nat} {v : DWord} {s b : State} (hb : advance t s = b) (hfn : fn < 64)
    (hlive : regLive b fn = true) :
    exec (.registerWrite t fn 4 4 v) s = .next (fnStateWrite fn (BitVec.ofNat 32 v.toNat) b) := by
  have hwindow : debugHit b fn 4 4 = false := by
    unfold debugHit
    rw [show decide (0x2000000 ≤ 4) = false from rfl, Bool.and_false, Bool.false_and, Bool.false_and]
  have hbar : decide (barBytes fn ≤ 4) = false := by
    unfold barBytes
    split <;> rfl
  have hwrite : barWrite fn 4 4 v b = fnStateWrite fn (BitVec.ofNat 32 v.toNat) b := by
    unfold barWrite
    rw [hlive, hbar]
    rfl
  subst hb
  unfold exec execRegisterWrite
  dsimp only
  rw [if_pos hfn, hwindow, hwrite]
  rfl

/-- What a 32-bit read of a live window returns. -/
theorem barRead_word {s : State} {fn off : Nat} (hlive : regLive s fn = true) (hoff : off < 0x100000) (halign : off % 4 = 0) :
    barRead s fn off 4 = some (read32 s fn off) := by
  have hbar : decide (barBytes fn ≤ off) = false := by
    unfold barBytes
    exact decide_eq_false (by split <;> omega)
  have hok : accessOk off 4 = true := by
    unfold accessOk
    rw [halign]
    rfl
  unfold barRead
  rw [hlive, hbar, hok]
  rfl

theorem rspBytes_length (ph : Bool) (r : Rsp) : (rspBytes ph r).length = 32 := by
  unfold rspBytes
  rw [List.length_append, List.length_append, List.length_append, leBytes_length, leBytes_length, leBytes_length, padTo_length]

theorem evtBytes_length (ph : Bool) (e : Evt) : (evtBytes ph e).length = 32 := by
  unfold evtBytes
  rw [List.length_append, List.length_append, List.length_append, leBytes_length, leBytes_length, leBytes_length, padTo_length]

/-- Settles O49: each event finds its ring, entry, packet or write, and takes the branch that the clause names. -/
theorem hostLinkEvents : Obligations.HostLinkEvents := by
  refine ⟨?doorbell, ?register, ?refused, ?accepted, ?delivery, ?write, ?retrain, ?reads, ?bytes⟩
  case doorbell =>
    intro t fn db v s b f hfn hdb hlive
    have hargs : (decide (fn < 64) && decide (db < 8192)) = true := by
      rw [decide_eq_true hfn, decide_eq_true hdb]
      rfl
    have hstep : exec (.queueDoorbellWrite t fn db v) s = .next (doorbellWrite fn db (Word.field v 15 0) b) := by
      unfold exec execQueueDoorbellWrite
      exact evOn_eq (b := b) hargs rfl (if_pos hlive)
    refine ⟨fun hnone => ?_, fun q del hring => ?_⟩
    · rw [hstep]
      unfold doorbellWrite
      rw [hnone]
    · rw [hstep]
      unfold doorbellWrite
      rw [hring]
  case register =>
    intro t fn v s b f one hfn hlive m f2
    exact registerWrite_fnState (b := b) rfl hfn hlive
  case refused =>
    intro t q e y r s b hq hsub hready hstop
    have htake : takeSubmission q y r e r.head b = .refuse .state b := by
      unfold takeSubmission
      dsimp only
      rw [hstop]
      rfl
    unfold exec execSubmissionFetch
    refine ev_eq (b := b) rfl ?_
    rw [hq]
    dsimp only
    rw [hsub]
    dsimp only
    rw [hready, htake]
    rfl
  case accepted =>
    intro t q e y r n b2 s b hq hsub hready htake
    unfold exec execSubmissionFetch
    refine ev_eq (b := b) rfl ?_
    rw [hq]
    dsimp only
    rw [hsub]
    dsimp only
    rw [hready, htake]
    rfl
  case delivery =>
    intro t q addr bytes y r s b fn hq hdel hcompl helig hstop hposted
    have hgo : (!b.link.compl.isEmpty || !(fnEligible b (qFn y.w)) || r.stopped || r.head == r.tail) = false := by
      rw [hcompl, helig, hstop, beq_eq_false_iff_ne.2 hposted]
      rfl
    have hstep : exec (.packetDelivery t q addr bytes) s = .next (if bytes < qPktMax y.w * 256 then smallBuffer q fn r b
        else match deliverable y with
          | none => b
          | some p => if packetFirst b q y p then deliver q addr y r p b else b) := by
      unfold exec execPacketDelivery
      refine ev_eq (b := b) rfl ?_
      rw [hq]
      dsimp only
      rw [hdel]
      dsimp only
      rw [hgo]
      rfl
    refine ⟨fun hsmall => ?small, fun p hfits hpkt hfirst => ?fits⟩
    case small =>
      intro u
      rw [hstep, if_pos hsmall]
      rfl
    case fits =>
      rw [hstep, if_neg (not_lt.2 hfits), hpkt]
      dsimp only
      rw [hfirst]
      rfl
  case write =>
    intro t w rest s b hup hperst hcompl
    unfold exec execHostLinkWrite
    refine ev_eq (b := b) rfl ?_
    rw [hup, hperst, hcompl]
    rfl
  case retrain =>
    intro t gen lanes s b hup hgen hlanes
    unfold exec execHostLinkRetrain
    refine ev_eq (b := b) rfl ?_
    dsimp only
    rw [hup, decide_eq_false (not_lt.2 hgen), decide_eq_false (not_lt.2 hlanes)]
    rfl
  case reads =>
    intro s fn hlive
    refine ⟨barRead_word hlive (by decide) rfl, barRead_word hlive (by decide) rfl, fun off w hoff hbad => ?_⟩
    unfold barRead
    rw [hlive, decide_eq_false (not_le.2 hoff), hbad]
    rfl
  case bytes => exact fun ph r e => ⟨rspBytes_length ph r, evtBytes_length ph e⟩

end Sys2Proof.Machine
end

section
/-! PROOFS. Leaving RESET_N notes when the main domain left reset (20 Table 20-8), which the clauses about RESET_N_DEASSERT and
MAIN_DOMAIN_RESET_RELEASE leave out. -/

namespace Sys2Proof.Machine

open Sys2Proof.Safety

/-- When the main domain last left reset, in the next state. -/
def bootAtOf : Host.Outcome State Fault Refusal → Option Nat
  | .next s => s.board.bootAt
  | _ => none

/-- A boot without an image in either slot. -/
def emptyBoot : BootFacts :=
  { rate := 0, termA := false, termB := false, slotAOk := false, slotALc := 0, slotASvn := 0, slotAMeas := 0, slotBOk := false,
    slotBLc := 0, slotBSvn := 0, slotBMeas := 0, pcbOk := false, pcbSvn := 0 }

theorem resetNDeassert_notes_bootAt : bootAtOf (exec (.resetNDeassert 5 emptyBoot) State.reset) = some 5 := by decide

theorem boot_notes_no_bootAt : (boot emptyBoot { advance 5 State.reset with resetN := false }).board.bootAt = none := by decide

/-- Refutes O50: RESET_N rises on the reset machine at FRC 5. The machine's next state has `board.bootAt = some 5`, that of the
equation has `none`, for `boot` alone does not set it. -/
theorem not_resetEvents : ¬ Obligations.ResetEvents := by
  rintro ⟨-, hdeassert, -⟩
  have hnext := congrArg bootAtOf (hdeassert 5 emptyBoot State.reset (by decide) (by decide))
  rw [resetNDeassert_notes_bootAt] at hnext
  exact absurd (hnext.trans boot_notes_no_bootAt) (by decide)

end Sys2Proof.Machine
end

section
/-! PROOFS. The storage ports and the asset path at work (08 R180-R194, R227). -/

namespace Sys2Proof.Machine

open Sys2Proof.Safety

theorem reqGet_setStPort (s : State) (p : StPort) (v : StorePort) (r : Nat) : reqGet (setStPort s p v) r = reqGet s r := by
  cases p <;> rfl

theorem stPort_setStPort (s : State) (p : StPort) (v : StorePort) : stPort (setStPort s p v) p = v := by cases p <;> rfl

/-- No command of a chunk is left exactly if none of the commands left is of it. -/
theorem cmdsOf_isEmpty {s : State} {p : StPort} {r c : Nat} :
    (cmdsOf s p r c).isEmpty = !((stPort s p).cmds.any (fun y => y.req == r && y.chunk == c)) := by
  unfold cmdsOf
  induction (stPort s p).cmds with
  | nil => rfl
  | cons y l ih =>
    rw [List.filter_cons, List.any_cons]
    split
    next h => rw [h]; rfl
    next h => rw [eq_false_of_ne_true h]; exact ih

/-- An insertion window that has ended is gone (R227). -/
theorem insertEnd_ended (p : Port) (now : Nat) :
    (match p.insertEnd with
      | some e => if e ≤ now then { p with insertEnd := none } else p
      | none => p) = { p with insertEnd := p.insertEnd.filter (fun e => decide (now < e)) } := by
  obtain hnone | ⟨e, hsome⟩ := Option.eq_none_or_eq_some p.insertEnd
  · rw [hnone]
    exact congrArg (fun o => { p with insertEnd := o }) hnone
  · rw [hsome]
    by_cases hended : e ≤ now
    · rw [Option.filter_some, decide_eq_false (Nat.not_lt.2 hended)]
      exact if_pos hended
    · rw [Option.filter_some, decide_eq_true (Nat.lt_of_not_le hended)]
      exact (if_neg hended).trans (congrArg (fun o => { p with insertEnd := o }) hsome)

/-- Settles O54: the command, chunk or request is found, and each event takes the branch of its clause. -/
theorem storageEvents : Obligations.StorageEvents := by
  refine ⟨?completion, ?timeout, ?issue, ?verify, ?decoded, ?complete, ?removal, ?insertion, ?linkDown, ?window⟩
  case completion =>
    intro t p id media x s b left hfind hin u
    have hstep : exec (.nvmeCompletion t p id media) s = .next (
        if media then
          if x.mediaFails < 2 then
            countReread p x.req (resend p id (fun y => { y with mediaFails := y.mediaFails + 1, fua := true, timeouts := 0 }) b)
          else
            raise (stBase p + 4) 1 (addrPort (2 + stNum p)) false (failChunk x.req x.chunk .integrity 0x12
              (dropCmds p (fun y => y.req == x.req && y.chunk == x.chunk) b))
        else if (cmdsOf u p x.req x.chunk).isEmpty then
          assetCount p 1 (((reqGet u x.req).bind (fun q => (chunkEntry q x.chunk).map (fun e => e.stored))).getD 0)
            (chunkMod x.req x.chunk (fun y => { y with st := .staged }) u)
        else u) := by
      unfold exec execNvmeCompletion
      refine ev_eq (b := b) rfl ?_
      rw [hfind]
      dsimp only
      rw [hin]
      rfl
    have hleft : (cmdsOf u p x.req x.chunk).isEmpty = !(left.any (fun y => y.req == x.req && y.chunk == x.chunk)) := by
      rw [cmdsOf_isEmpty, stPort_setStPort]
    refine ⟨fun hmedia hmore => ?more, fun q e hmedia hlast hreq hentry => ?last, fun hmedia hfew => ?again,
      fun hmedia hmany => ?failed⟩
    case more =>
      rw [hstep, hmedia, hleft, hmore]
      rfl
    case last =>
      rw [hstep, hmedia, hleft, hlast, reqGet_setStPort, hreq, Option.bind_some, hentry]
      rfl
    case again =>
      rw [hstep, hmedia]
      exact congrArg Host.Outcome.next (if_pos hfew)
    case failed =>
      rw [hstep, hmedia]
      exact congrArg Host.Outcome.next (if_neg (Nat.not_lt.2 hmany))
  case timeout =>
    intro t p id x s b hfind hlate hwait
    have hdue : ¬(decide (b.keel.frc < x.issued + 500000000) || completes b p id) = true := by
      rw [decide_eq_false (Nat.not_lt.2 hlate), hwait]
      nofun
    refine ⟨fun hfew => ?few, fun htwo => ?two⟩
    case few =>
      unfold exec execNvmeCommandTimeout
      refine ev_eq (b := b) rfl ?_
      rw [hfind]
      exact (if_neg hdue).trans (if_pos hfew)
    case two =>
      intro cmds
      unfold exec execNvmeCommandTimeout
      refine ev_eq (b := b) rfl ?_
      rw [hfind]
      exact (if_neg hdue).trans ((if_neg (by omega)).trans (if_pos htwo))
  case issue =>
    intro t r q c e s b heng hturn hnext hlive hentry hroom u
    unfold exec execAssetReadIssue
    refine ev_eq (b := b) rfl ((if_neg (by rw [heng]; nofun)).trans ?_)
    rw [hturn]
    dsimp only
    rw [hnext]
    dsimp only
    rw [hlive, if_neg Bool.false_ne_true, hentry]
    exact if_neg (Nat.not_lt.2 hroom)
  case verify =>
    intro t r c desc q s b hreq heng hin
    unfold exec execChunkVerify
    refine ev_eq (b := b) rfl ?_
    rw [hreq]
    dsimp only
    rw [heng, hin]
    rfl
  case decoded =>
    intro t r c q x u s b hreq hchunk hunit heng hst
    unfold exec execDecompressionDone
    refine ev_eq (b := b) rfl ?_
    rw [hreq]
    dsimp only
    rw [hchunk]
    dsimp only
    rw [hunit]
    dsimp only
    rw [heng, hst]
    rfl
  case complete =>
    intro t r q s b hreq hwhole
    unfold exec execAssetRequestComplete
    refine ev_eq (b := b) rfl ?_
    rw [hreq]
    exact if_pos hwhole
  case removal =>
    intro t s b hon hthere u
    unfold exec execS0Removal
    exact ev_eq (b := b) rfl (if_neg (by rw [hon, hthere]; nofun))
  case insertion =>
    intro t d s b hon hgone u w
    have hstep : exec (.s0Insertion t d) s = .next (if u.eng != .piste then u
        else if w.asset.s0.enumd then event 0 0x0502 [0] w else w) := by
      unfold exec execS0Insertion
      exact ev_eq (b := b) rfl (if_neg (by rw [hon, hgone]; nofun))
    have heq : u.eng = b.eng := rfl
    refine ⟨fun heng => ?_, fun heng hfound => ?_, fun heng hnone => ?_⟩
    · rw [hstep, heq, if_pos (bne_iff_ne.2 heng)]
    · rw [hstep, heq, heng, hfound]
      rfl
    · rw [hstep, heq, heng, hnone]
      rfl
  case linkDown =>
    intro t s b hon hthere
    unfold exec execS1LinkDown
    refine ev_eq (b := b) rfl ?_
    rw [hon, hthere]
    rfl
  case window =>
    intro t s b ended
    unfold exec execInsertionWindowEnd
    exact ev_eq (b := b) rfl (congrArg₂ (fun x y => { b with bus := { b.bus with oa := x, ob := y } })
      (insertEnd_ended b.bus.oa b.keel.frc) (insertEnd_ended b.bus.ob b.keel.frc))

end Sys2Proof.Machine
end

section
/-! PROOFS. Packets, the banks and the journal, rebuilds and samples of the queue manager (03 R63-R85). -/

namespace Sys2Proof.Machine

open Sys2Proof.Safety

/-! ### The banks and the journal (R75, R76) -/

theorem entriesOf_queue {n : Nat} {q : Queue} {e : JEntry} (h : e ∈ entriesOf n q) : e.queue = n := by
  unfold entriesOf at h
  obtain ⟨l, hl, he⟩ := List.mem_flatten.1 h
  obtain ⟨p, -, rfl⟩ := List.mem_map.1 hl
  obtain ⟨c, -, rfl⟩ := List.mem_map.1 he
  rfl

/-- The entries of a queue in a journal that has taken them anew are these alone. -/
theorem filter_entries (n : Nat) (q : Queue) (l : List JEntry) :
    (l.filter (fun e => e.queue != n) ++ entriesOf n q).filter (fun e => e.queue == n) = entriesOf n q := by
  have hold : (l.filter (fun e => e.queue != n)).filter (fun e => e.queue == n) = [] := by
    rw [List.filter_filter, List.filter_eq_nil_iff]
    intro e _ h
    rw [Bool.and_eq_true, beq_iff_eq, bne_iff_ne] at h
    exact h.2 h.1
  rw [List.filter_append, hold, List.nil_append, List.filter_eq_self]
  exact fun e he => beq_iff_eq.2 (entriesOf_queue he)

theorem qSet_qm (s : State) (n : Nat) (q : Queue) : (qSet s n q).qm = record n q { s.qm with queues := tput s.qm.queues n q } := rfl

theorem record_of_live {n : Nat} {q : Queue} {m : Qm} (h : q.blocked = false) : record n q m = journalSet n (entriesOf n q)
    { m with bankA := tput m.bankA n (bankOf q), bankB := tput m.bankB n (bankOf q), readPos := tput m.readPos n (readPosOf q) } :=
  if_neg (by rw [h]; nofun)

theorem record_of_blocked {n : Nat} {q : Queue} {m : Qm} (h : q.blocked = true) :
    record n q m = { m with bankA := tdel m.bankA n, bankB := tdel m.bankB n } :=
  if_pos h

/-! ### Queues without a packet (R63, R66, R70) -/

theorem qMod_of_get {n : Nat} {f : Queue → Queue} {s : State} {y : Queue} (h : qGet s n = some y) :
    qMod n f s = qSet s n (f y) := by
  unfold qMod
  rw [h]

theorem endOpen_of_none {n reason : Nat} {s : State} {y : Queue} (h : qGet s n = some y) (hopen : qOpen y = none) :
    endOpen n reason s = s := by
  unfold endOpen
  rw [h]
  dsimp only
  rw [hopen]

section
variable {n : Nat} {last err bad acked : Bool} {data : List Byte} {i : PktInfo} {s : State} {y : Queue}
  (hy : qGet s n = some y) (hrun : y.stopped = false) (hlive : y.blocked = false) (hopen : qOpen y = none)
include hy hrun hlive hopen

/-- A FIRST cell where no packet is open. -/
theorem writeCell_first : writeCell n true last err bad acked data i s =
    if y.credit = 0 then overrun n s
    else if err && last then endOpen n 3 (commitCell n data bad acked false (openPkt n i s))
    else commitCell n data bad acked last (openPkt n i s) := by
  unfold writeCell
  rw [hy]
  dsimp only
  rw [if_neg (show ¬(y.stopped || y.blocked) = true by rw [hrun, hlive]; nofun), endOpen_of_none hy hopen, if_pos rfl, hy]
  rfl

/-- A cell that is not FIRST where no packet is open. -/
theorem writeCell_orphan (hdiscard : y.discard = 0) :
    writeCell n false last err bad acked data i s = qSet s n { y with orphans := y.orphans + 1 } := by
  unfold writeCell
  rw [hy]
  dsimp only
  rw [if_neg (show ¬(y.stopped || y.blocked) = true by rw [hrun, hlive]; nofun), if_neg Bool.false_ne_true, hy]
  dsimp only
  rw [hopen]
  exact (if_neg Bool.false_ne_true).trans (if_pos hdiscard)

end

/-- The first packet of a queue that is not BLOCKED is its head. -/
theorem qFirst_of_qHead {y : Queue} (h : y.blocked = false) : qFirst y = qHead y :=
  (if_neg (by rw [h]; nofun)).symm

/-! ### A rebuild that loses nothing (R77) -/

theorem atPositions_nil (l : List Pkt) : atPositions l [] true = [] := by
  unfold atPositions
  rw [List.filter_eq_nil_iff.2 fun _ _ => by rw [List.contains_nil]; nofun]
  rfl

/-- Settles O55: each event finds its queue and its packet as the clause says, and the journal holds a queue's entries of
its last change alone. -/
theorem queueEvents : Obligations.QueueEvents := by
  refine ⟨?write, ?readNone, ?readCell, ?drop, ?rebuild, ?banks, ?blocked, ?freeList, ?sample⟩
  case write =>
    intro t n k y s b hy hrun hlive hshape
    have hstep : exec (.cellWrite t n k) s = .next (if k.mismatch then blockQueue n b
        else
          let b := if k.flMismatch && !b.qm.flBlocked then blockFreeList b else b
          if qProducer y.w = 4 then coreCell n k b
          else writeCell n k.first k.last k.err k.bad false k.data {} b) := by
      unfold exec execCellWrite
      refine ev_eq (b := b) rfl ?_
      rw [hy]
      exact if_neg (by rw [hrun, hlive, hshape]; nofun)
    refine ⟨fun hmis => ?mismatch, fun hmis hfl hprod => ?taken⟩
    case mismatch => rw [hstep, if_pos hmis]
    case taken =>
      have hwrite : exec (.cellWrite t n k) s = .next (writeCell n k.first k.last k.err k.bad false k.data {} b) := by
        rw [hstep, hmis, hfl]
        exact congrArg Host.Outcome.next (if_neg hprod)
      refine ⟨hwrite, fun hopen hfirst hcredit => ?_, fun hopen hfirst hcredit herr => ?_, fun hopen hfirst hdiscard => ?_⟩
      · rw [hwrite, hfirst, writeCell_first hy hrun hlive hopen, if_pos hcredit]
        exact congrArg Host.Outcome.next (qMod_of_get hy)
      · rw [hwrite, hfirst, writeCell_first hy hrun hlive hopen, if_neg hcredit, herr]
        rfl
      · rw [hwrite, hfirst, writeCell_orphan hy hrun hlive hopen hdiscard]
  case readNone =>
    intro t n y s b hy hrun hlive hawait hhead v
    unfold exec execCellRead
    refine ev_eq (b := b) rfl ?_
    rw [hy]
    dsimp only
    rw [hrun, hlive, hawait, qFirst_of_qHead hlive, hhead]
    rfl
  case readCell =>
    intro t n y p c r s b hy hrun hlive hawait hhead hcells hgood later v
    have hstep : exec (.cellRead t n false) s = .next (if releasesAtRead b n y then releaseCell n (qSet b n { y with lastRead := v })
        else qSet b n { y with lastRead := v, pkts := { p with readN := p.readN + 1 } :: y.pkts.drop 1 }) := by
      unfold exec execCellRead
      refine ev_eq (b := b) rfl ?_
      rw [hy]
      dsimp only
      rw [if_neg (ne_of_eq_of_ne hrun Bool.false_ne_true), if_neg (show ¬(y.blocked || y.awaitDrop) = true by rw [hlive, hawait]; nofun),
        if_neg Bool.false_ne_true, qFirst_of_qHead hlive, hhead]
      dsimp only
      rw [hcells]
      exact if_neg (ne_of_eq_of_ne hgood Bool.false_ne_true)
    refine ⟨fun hrel => ?_, fun hkeep => ?_⟩
    · rw [hstep, if_pos hrel]
    · rw [hstep, if_neg (by rw [hkeep]; nofun)]
  case drop =>
    intro t n y s b hy hrun hlive hrel
    have hstep (mismatch : Bool) : exec (.dropRest t n mismatch) s = .next (if mismatch then blockQueue n b else dropRestOp n b) := by
      unfold exec execDropRest
      refine ev_eq (b := b) rfl ?_
      rw [hy]
      exact if_neg (by rw [hrun, hlive, hrel]; nofun)
    exact ⟨hstep false, hstep true⟩
  case rebuild =>
    intro t n y s b hy hblocked hend hall u
    have hback : ∀ p, p ∈ y.pkts →
        (restored y (intactEntries n y [] b.qm) p && !((atPositions y.pkts [] true).contains p)) = true := by
      intro p hp
      rw [hall p hp, atPositions_nil, List.contains_nil]
      rfl
    have hgone : y.pkts.filter (fun p =>
        !(restored y (intactEntries n y [] b.qm) p && !((atPositions y.pkts [] true).contains p))) = [] :=
      List.filter_eq_nil_iff.2 fun p hp => by rw [hback p hp]; nofun
    unfold exec execQueueRebuildDone
    refine ev_eq (b := b) rfl ?_
    rw [hy]
    dsimp only
    rw [hblocked, hgone, List.filter_eq_self.2 hback, hend, List.contains_nil, Bool.not_false, Bool.and_true]
    dsimp only
    rw [← hend]
    rfl
  case banks =>
    intro n q s hlive m
    rw [show m = _ from (qSet_qm s n q).trans (record_of_live hlive)]
    exact ⟨filter_entries .., filter_entries .., tget_tput .., tget_tput .., tget_tput ..⟩
  case blocked =>
    intro n q s hblocked m
    rw [show m = _ from (qSet_qm s n q).trans (record_of_blocked hblocked)]
    exact ⟨rfl, rfl, tget_tdel .., tget_tdel ..⟩
  case freeList =>
    intro t s b hnone
    unfold exec execFreeListRebuildDone
    exact ev_eq (b := b) rfl (congrArg (fun m => { b with qm := m })
      (grantWaiters_of_none (m := { b.qm with flBlocked := false }) hnone))
  case sample =>
    intro t s b hserve hdue hists
    unfold exec execHistogramSample
    exact ev_eq (b := b) rfl (if_neg (by rw [hserve, decide_eq_false (Nat.not_lt.2 hdue)]; nofun))

end Sys2Proof.Machine
end

section
/-! PROOFS. The events of decode streams (07 R160-R177). -/

namespace Sys2Proof.Machine

open Sys2Proof.Safety

theorem stMod_keel (n : Nat) (f : Stream → Stream) (s : State) : (stMod n f s).keel = s.keel := by
  unfold stMod
  split <;> rfl

theorem stCount_keel (n ctr d : Nat) (s : State) : (stCount n ctr d s).keel = s.keel := stMod_keel ..

theorem announce_keel (n : Nat) (r : RecReq) (again : Bool) (s : State) : (announce n r again s).keel = s.keel := by
  unfold announce
  dsimp only
  split
  · rfl
  · split
    · rw [event_keel]
    · rw [stCount_keel, event_keel]

/-- Announcing any number of requests takes no time. -/
theorem announces_keel (n : Nat) (l : List RecReq) (s : State) :
    (l.foldl (fun s r => announce n r true s) s).keel = s.keel := by
  induction l generalizing s with
  | nil => rfl
  | cons r l ih => rw [List.foldl_cons, ih, announce_keel]

/-- A change of a stream is the same if it is the same for the stream as it stands. -/
theorem stMod_congr {n : Nat} {f g : Stream → Stream} {s : State} (h : ∀ x, stGet s n = some x → f x = g x) :
    stMod n f s = stMod n g s := by
  unfold stMod
  split
  · rfl
  next x hx => rw [h x hx]

theorem stHeight_stCount {n ctr d : Nat} {h : Nat} {s : State} (hs : ∀ x, stGet s n = some x → stHeight x = h) :
    ∀ x, stGet (stCount n ctr d s) n = some x → stHeight x = h := by
  unfold stCount stMod
  split
  · exact hs
  next y hy =>
    intro x hx
    rw [stSet_get] at hx
    cases hx
    exact hs y hy

/-- Settles O57: the stream is a decode stream in the state that each clause names. -/
theorem decodeEvents : Obligations.DecodeEvents := by
  refine ⟨?intake, ?display, ?late, ?done, ?repeated, ?recover⟩
  case intake =>
    intro t n refs x u p r s b hx hkind hhost hrun hserve hhead habort hrec
    unfold exec execSliceIntake
    refine ev_eq (b := b) rfl ?_
    rw [hx]
    dsimp only
    rw [if_neg (show ¬(x.kind != .decode || fromHost x || x.stopped || !(inService b)) = true by
      rw [hkind, hhost, hrun, hserve]; nofun), hhead]
    dsimp only
    rw [hrec, habort]
    rfl
  case display =>
    intro t n x s b hx hkind hrunning hrun hnone hreached a u
    have hmode : (if concealMode b x == 3 then hostMiss x.owner (stCount n ctrHostMiss 1 b) else b) = u :=
      if_congr beq_iff_eq rfl rfl
    have hheight : ∀ y, stGet (stCount n ctrConcealed 1 u) n = some y → stHeight y = stHeight x := by
      have hb : ∀ y, stGet b n = some y → stHeight y = stHeight x := fun y hy => by rw [Option.some.inj (hy.symm.trans hx)]
      refine stHeight_stCount ?_
      dsimp only [u]
      split
      · exact stHeight_stCount (s := b) hb
      · exact hb
    unfold exec execDisplayConcealment
    refine ev_eq (b := b) rfl ?_
    rw [hx]
    dsimp only
    rw [hnone, if_neg (show ¬(x.kind != .decode || !x.dec.running || x.stopped ||
      !(reached b (expectedDue b x).1 (expectedDue b x).2 0) || false) = true by
        rw [hkind, hrunning, hrun, hreached]; nofun), hmode]
    refine congrArg takeArea (stMod_congr fun y hy => ?_)
    rw [← hheight y hy]
  case late =>
    intro t n x j s b hx hkind hlate u
    unfold exec execLateLimitExpiry
    refine ev_eq (b := b) rfl ?_
    rw [hx]
    dsimp only
    rw [if_neg (by rw [hkind]; nofun), hlate]
  case done =>
    intro t n x a since s b hnow hx hdue
    unfold exec execConcealmentDone
    refine ev_eq (b := advance t s) rfl ?_
    dsimp only
    rw [show concealNow (takeArea (advance t s)) = some (n, a, since) from hnow]
    dsimp only
    rw [show stGet (takeArea (advance t s)) n = some x from hx]
    dsimp only
    rw [bne_self_eq_false, Bool.false_or]
    exact if_neg (by rw [decide_eq_false (Nat.not_lt.2 hdue)]; nofun)
  case repeated =>
    intro t n x s b hx hkind
    refine ⟨fun hoff => ?off, fun hon => ?on⟩
    case off =>
      unfold exec execRecoveryRepeat
      refine ev_eq (b := b) rfl ?_
      rw [hx]
      dsimp only
      rw [hkind, decide_eq_true hoff]
      rfl
    case on =>
      intro due
      unfold exec execRecoveryRepeat
      refine ev_eq (b := b) rfl ?_
      rw [hx]
      dsimp only
      rw [hkind, decide_eq_false hon, announces_keel]
      simp only [due, decide_eq_true_eq]
      rfl
  case recover =>
    intro t q u p n pic x s b hq hserve hhead habort hparse hx
    have hstep : exec (.recoverMessageRx t q) s = .next (if x.kind == .encode then recoverEncode n pic (popHead q u)
        else { popHead q u with arr := { (popHead q u).arr with recoverDrops := (popHead q u).arr.recoverDrops + 1 } }) := by
      unfold exec execRecoverMessageRx
      refine ev_eq (b := b) rfl ?_
      rw [hq]
      dsimp only
      rw [bne_self_eq_false, hserve, hhead]
      dsimp only
      rw [habort, hparse]
      dsimp only
      rw [hx]
      rfl
    refine ⟨fun henc => ?_, fun hother => ?_⟩
    · rw [hstep, if_pos (beq_iff_eq.2 henc)]
    · rw [hstep, if_neg (by simpa using hother)]

end Sys2Proof.Machine
end

section
/-! PROOFS. Bit stuffing (09 R211). -/

namespace Sys2Proof.Machine

open Sys2Proof.Safety

/-- No six equal bits follow each other. -/
def NoSix (l : List Bool) : Prop := ∀ i x, ¬∀ k, k < 6 → l[i + k]? = some x

/-- A list does not begin with `n` bits `x`. -/
def NoRun (n : Nat) (x : Bool) (l : List Bool) : Prop := ¬∀ k, k < n → l[k]? = some x

theorem NoRun.mono {m n : Nat} {x : Bool} {l : List Bool} (h : NoRun m x l) (hmn : m ≤ n) : NoRun n x l :=
  fun hall => h fun k hk => hall k (lt_of_lt_of_le hk hmn)

theorem NoRun.cons_ne {n : Nat} {x b : Bool} {l : List Bool} (hb : b ≠ x) (hn : 0 < n) : NoRun n x (b :: l) :=
  fun hall => hb (Option.some.inj (hall 0 hn))

theorem NoRun.cons {n : Nat} {x b : Bool} {l : List Bool} (h : NoRun n x l) : NoRun (n + 1) x (b :: l) :=
  fun hall => h fun k hk => (List.getElem?_cons_succ ..).symm.trans (hall (k + 1) (by omega))

theorem NoSix.cons {b : Bool} {l : List Bool} (hrun : NoRun 5 b l) (h : NoSix l) : NoSix (b :: l)
  | 0, x, hall => by
    have hb : b = x := Option.some.inj (hall 0 (by decide))
    subst hb
    refine hrun fun k hk => ?_
    rw [← hall (k + 1) (by omega), Nat.zero_add, List.getElem?_cons_succ]
  | i + 1, x, hall => h i x fun k hk => by
    rw [← hall k hk, Nat.add_right_comm, List.getElem?_cons_succ]

/-- Where `run` bits `last` have been sent, what follows neither lifts them to six nor has six of its own. -/
theorem stuffFrom_noSix (l : List Bool) : ∀ {run : Nat} {last : Bool}, run ≤ 4 →
    NoRun (6 - run) last (stuffFrom run last l) ∧ NoSix (stuffFrom run last l) := by
  induction l with
  | nil =>
    intro run last hrun
    exact ⟨fun hall => Option.some_ne_none _ (hall 0 (by omega)).symm, fun _ _ hall => Option.some_ne_none _ (hall 0 (by omega)).symm⟩
  | cons b r ih =>
    intro run last hrun
    rw [stuffFrom]
    by_cases hfive : (if (b == last) = true then run + 1 else 1) = 5
    · -- the fifth equal bit: its opposite is stuffed behind it
      obtain ⟨hnext, hsix⟩ := ih (run := 1) (last := !b) (by decide)
      rw [if_pos hfive]
      have hopp : (!b) ≠ b := Bool.not_ne_self b
      refine ⟨?_, .cons (.cons_ne hopp (by decide)) (.cons hnext hsix)⟩
      by_cases hb : b = last
      · subst hb
        exact (NoRun.cons (n := 1) (.cons_ne hopp (by decide))).mono (by omega)
      · exact .cons_ne hb (by omega)
    · rw [if_neg hfive]
      by_cases hb : b = last
      · subst hb
        rw [if_pos (beq_self_eq_true b)] at hfive ⊢
        obtain ⟨hnext, hsix⟩ := ih (run := run + 1) (last := b) (by omega)
        exact ⟨(NoRun.cons hnext).mono (by omega), .cons (hnext.mono (by omega)) hsix⟩
      · rw [if_neg (by simpa using hb)]
        obtain ⟨hnext, hsix⟩ := ih (run := 1) (last := b) (by decide)
        exact ⟨.cons_ne hb (by omega), .cons hnext hsix⟩

end Sys2Proof.Machine
end

section
/-! PROOFS. Attempts, receptions, credit, timers and error confinement of a bus port (10; 11 R284-R290). -/

namespace Sys2Proof.Machine

open Sys2Proof.Safety

theorem tmod_of_get {α : Type} {t : Tbl α} {n : Nat} {f : α → α} {v : α} (h : tget t n = some v) : tmod t n f = tput t n (f v) := by
  unfold tmod
  rw [h]

theorem txMod_of_get {p : BusPort} {n : Nat} {g : Flow → Flow} {s : State} {f : Flow} (h : tget (portGet s p).tx n = some f) :
    txMod p n g s = setPort s p { portGet s p with tx := tput (portGet s p).tx n (g f) } :=
  congrArg (fun tx => setPort s p { portGet s p with tx := tx }) (tmod_of_get h)

/-- Counting leaves the bits that a port sends as they are. -/
theorem counted_sent (c : Prop) [Decidable c] (p : BusPort) (i d : Nat) (s : State) :
    (portGet (if c then portCount p i d s else s) p).sent = (portGet s p).sent := by
  split
  · cases p <;> rfl
  · rfl

/-- What goes out is the wire form of the frame sent last. -/
theorem driveFrame_sent {p : BusPort} {loop : Nat} {s : State} {f : Frame} (h : (portGet s p).lastTx = some f) :
    (portGet (driveFrame p loop s) p).sent = sentOf s p f := by
  unfold driveFrame
  dsimp only
  rw [h]
  refine (counted_sent ..).trans ?_
  rw [setPort_get]

/-- A port that is in service and not cut off yet is cut off (R288, R290). -/
theorem cutOff_of_live {p : BusPort} {n : Nat} {s : State} (hserve : inService s = true) (hon : (portGet s p).enabled = true)
    (hconf : (portGet s p).conf ≠ .stuckOff) : cutOff p n s = stateEvent p (portGet s p).conf
      (raise (portBase p + n) 1 (addrPort (portNum p)) false (portCount p 47 1
        (setPort s p { portGet s p with conf := .stuckOff, cutoff := true, rcv := {}, passiveWait := false }))) :=
  if_neg (by rw [hserve, hon, beq_eq_false_iff_ne.2 hconf]; nofun)

/-- Outside the insertion window a quiet FORM error counts (R289). -/
theorem quietForm_counts {p : BusPort} {s : State} (h : (portGet s p).insertEnd = none) : quietForm p true s =
    setErrors p (portGet s p).tec (min 127 ((portGet s p).rec_ + 1)) (portCount p 38 1 s) := by
  unfold quietForm inInsertion
  dsimp only
  rw [h]
  rfl

/-- A live port that is not closing contends with its first candidate (R234). -/
theorem attempt_of_cand {p : BusPort} {others : List Nat} {r : SlotRead} {tdc loop : Nat} {c : Cand} {s u : State}
    (hlive : portLive s (portGet s p) = true) (hclosing : (portGet s p).closing = false) (hwake : (portGet s p).wakeReq = false)
    (hfree : (portGet s p).passiveWait = false ∨ others = [])
    (hu : prepPort p (setPort s p { portGet s p with passiveWait := false }) = u) (hbest : bestCand (candidates u p) = some c) :
    attempt p others r tdc loop s = if others.any (fun o => decide (o < arbField c)) then portCount p 4 1 (contendLate p c u)
      else winFrame p tdc loop c r (contendLate p c u) := by
  unfold attempt
  refine (if_neg (by rw [hlive, hclosing]; nofun)).trans ((if_neg (by rw [hwake]; nofun)).trans ((if_neg ?_).trans ?_))
  · obtain hpass | hnone := hfree
    · rw [hpass]
      nofun
    · rw [hnone]
      exact fun h => Bool.false_ne_true ((Bool.and_false _).symm.trans h)
  · dsimp only
    rw [hu, hbest]

/-- Settles O58: the port is in the state that each clause names, and the flow or timer is there. -/
theorem busEvents : Obligations.BusEvents := by
  refine ⟨?attempt, ?receive, ?credit, ?flowOpen, ?openRepeat, ?refresh, ?holdoff, ?dedup, ?aged, ?openTimeout, ?launch,
    ?integrated, ?disabled, ?recovered, ?cut, ?quiet, ?idle, ?level, ?wake, ?driven, ?stuffed⟩
  case attempt =>
    intro t p others r tdc loop c s b v hlive hclosing hwake hfree u hbest
    have hstep : exec (.arbitrationAttempt t p others ⟨r, tdc, loop⟩) s = .next (if others.any (fun o => decide (o < arbField c)) then
        portCount p 4 1 (contendLate p c u) else winFrame p tdc loop c r (contendLate p c u)) := by
      unfold exec execArbitrationAttempt
      exact ev_eq (b := advance t s) rfl (attempt_of_cand hlive hclosing hwake hfree rfl hbest)
    refine ⟨fun hlost => ?_, fun hwon => ?_⟩
    · rw [hstep, if_pos hlost]
    · rw [hstep, if_neg (by rw [hwon]; nofun)]
  case receive =>
    intro t p f s b v hlive hsof hcrc quiet
    have hcap : dataCapable quiet (portGet quiet p) = dataCapable b v := by cases p <;> rfl
    have hstep : exec (.frameReceive t p f none) s = .next (if f.fdf && !(dataCapable b v) then portCount p 50 1 quiet else receiveFrame p f b) := by
      have hfollows : followsIntegration b v f = true := decide_eq_true hsof
      unfold exec execFrameReceive
      refine ev_eq (b := b) rfl ((if_neg ?_).trans (if_neg ?_))
      · rw [hlive, hfollows]
        nofun
      · rw [hcrc]
        nofun
    refine ⟨fun hcan => ?_, fun hfdf hcannot => ?_⟩
    · rw [hstep, if_neg]
      obtain hshort | hdata := hcan
      · rw [hshort]
        nofun
      · rw [← hcap, hdata, Bool.not_true, Bool.and_false]
        exact Bool.false_ne_true
    · rw [hstep, hfdf, ← hcap, hcannot]
      rfl
  case credit =>
    intro t p src flow openId total f s b v hlive hf hopen hdest hmbs
    unfold exec execCreditRx
    refine ev_eq (b := b) rfl ((if_neg (by rw [hlive]; nofun)).trans ?_)
    rw [tmod_of_get hf, if_pos ⟨hopen, hdest⟩]
    have hnone : tmap v.mbs (fun _ m => mbOpened src flow openId m) = v.mbs := by
      rw [hmbs]
      rfl
    exact congrArg (fun m => setPort b p { v with tx := _, mbs := m }) hnone
  case flowOpen =>
    intro t p src flow seq openId auth s b v hlive hauth hroom
    have hneed : ((match tget v.rx flow with | some f => fnat f.f 0xA913 0 == 1 | none => false) && !auth) = false := by
      cases hf : tget v.rx flow with
      | none => rfl
      | some f =>
        by_cases hone : fnat f.f 0xA913 0 = 1
        · rw [hauth f hf hone]
          exact Bool.and_false _
        · exact (congrArg (· && !auth) (beq_eq_false_iff_ne.2 hone)).trans rfl
    unfold exec execFlowOpenRx
    refine ev_eq (b := b) rfl ((if_neg (by rw [hlive]; nofun)).trans ((if_neg (ne_of_eq_of_ne hneed Bool.false_ne_true)).trans (if_neg ?_)))
    rw [decide_eq_false (Nat.not_le.2 hroom), Bool.and_false]
    exact Bool.false_ne_true
  case openRepeat =>
    intro t p flow f s b v hmbs hf hopening hdue
    have hdue : (f.opening && msSince b f.openSent) = true := by
      rw [hopening]
      exact decide_eq_true hdue
    unfold exec execFlowOpenRepeat
    refine ev_eq (b := b) rfl ?_
    dsimp only
    rw [show (portGet b p).mbs = [] from hmbs, show tget (portGet b p).tx flow = some f from hf]
    exact if_pos hdue
  case refresh =>
    intro t p flow f s b v hf hrun hdue u
    unfold exec execCreditRefresh
    refine ev_eq (b := b) rfl ?_
    dsimp only
    rw [show tget (portGet b p).rx flow = some f from hf]
    exact if_neg (not_or.2 ⟨Nat.not_lt.2 hdue, by rw [hrun]; nofun⟩)
  case holdoff =>
    intro t p flow f e s b v hf hhold hdue
    have hwaited : waited b f.holdoff = true := by
      rw [hhold]
      exact decide_eq_true hdue
    unfold exec execHoldoffExpiry
    refine ev_eq (b := b) rfl ((txMod_of_get hf).trans ?_)
    rw [hwaited]
    rfl
  case dedup =>
    intro t p src flow s b v hnone kept
    unfold exec execDedupAgeExpiry
    refine ev_eq (b := b) rfl (congrArg (fun l => setPort b p { v with dedup := l }) (List.filter_congr fun d _ => ?_))
    rw [hnone, Bool.not_false, Bool.and_true, Bool.eq_iff_iff]
    simp only [Bool.not_eq_true', Bool.and_eq_false_iff, beq_eq_false_iff_ne, decide_eq_false_iff_not, decide_eq_true_eq,
      Nat.not_le, or_assoc]
    rfl
  case aged =>
    intro t p flow f h x s b v hmbs hf hstalled hhead hfirst hold
    have haged : (f.stalled.isNone && headAged b (portGet b p) f.head) = true := by
      unfold headAged dedupNs
      rw [hstalled, hhead, Option.bind_some, hfirst]
      dsimp only
      rw [decide_eq_true hold]
      rfl
    unfold exec execHeadFrameAged
    refine ev_eq (b := b) rfl ?_
    dsimp only
    rw [show (portGet b p).mbs = [] from hmbs, show tget (portGet b p).tx flow = some f from hf]
    exact if_pos haged
  case openTimeout =>
    intro t p flow f o s b v hf hsrc hnone hdue
    unfold exec execOpenTimeoutExpiry
    refine ev_eq (b := b) rfl ?_
    dsimp only
    rw [show tget (portGet b p).rx flow = some f from hf]
    dsimp only
    refine if_pos ?_
    rw [hsrc, decide_eq_true hdue]
    dsimp only
    rw [hnone]
    rfl
  case launch =>
    intro t p flow f q x tau s b v hf hmode hheld hq hx hlaunch hdue hintime
    unfold exec execHostTimeLaunch
    refine ev_eq (b := b) rfl ?_
    rw [show tget (portGet b p).tx flow = some f from hf]
    dsimp only
    rw [if_neg (show ¬(launchMode f != 2 || f.released) = true by rw [hmode, hheld]; nofun), hq, Option.bind_some, hx, Option.bind_some, hlaunch]
    have hpast : ¬activeNow b - tau < 0 := not_lt.2 (sub_nonneg.2 hdue)
    have hnear : activeNow b - tau < tickNs := sub_lt_iff_lt_add'.2 hintime
    exact (if_neg hpast).trans ((if_pos hnear).trans (txMod_of_get hf))
  case integrated =>
    intro t p s b v hserve hon hbus hstuck
    unfold exec execIntegrationDone
    refine ev_eq (b := b) rfl (if_pos ?_)
    rw [hserve, hon, bne_iff_ne.2 hbus, bne_iff_ne.2 hstuck]
    rfl
  case disabled =>
    intro t p s b v hclosing hidle
    unfold exec execPortDisableAtIdle
    refine ev_eq (b := b) rfl (if_pos ?_)
    rw [hclosing, decide_eq_true hidle]
    rfl
  case recovered =>
    intro t p n s b v hoff hcounting
    have hstep : exec (.busoffRecoveryDone t p n) s = .next (if v.rcv.need ≤ n then recoverPort p (!v.rcv.byCmd && !(recoverAsked b p)) b
        else setPort b p { v with rcv := { v.rcv with counted := max v.rcv.counted n } }) := by
      unfold exec execBusoffRecoveryDone
      exact ev_eq (b := b) rfl (if_neg (by rw [hoff, hcounting]; nofun))
    refine ⟨fun henough => ?_, fun hfew => ?_⟩
    · rw [hstep, if_pos henough]
    · rw [hstep, if_neg (Nat.not_le.2 hfew)]
  case cut =>
    intro t p s b v hserve hon hconf u stop
    refine ⟨?_, ?_⟩
    · unfold exec execStuckDominantCutoff
      exact ev_eq (b := b) rfl (cutOff_of_live hserve hon hconf)
    · unfold exec execDataDriverRunaway
      exact ev_eq (b := b) rfl (cutOff_of_live hserve hon hconf)
  case quiet =>
    intro t p s b v hlive hheld hwindow u
    refine ⟨?_, ?_⟩
    · unfold exec execDataDriverRunaway
      exact ev_eq (b := b) rfl ((if_neg Bool.false_ne_true).trans ((if_pos hlive).trans (quietForm_counts hwindow)))
    · unfold exec execLineHeldDominant
      refine ev_eq (b := b) rfl ((if_neg (by rw [hlive]; nofun)).trans ((if_neg (by rw [hheld]; nofun)).trans ?_))
      rw [quietForm_counts hwindow]
  case idle =>
    intro t p s b v hheld
    unfold exec execLineIdleAfterHold
    exact ev_eq (b := b) rfl (if_pos hheld)
  case level =>
    intro t p s b v hconf hlate
    unfold exec execHoldOffLevelReset
    refine ev_eq (b := b) rfl (if_pos ?_)
    rw [bne_iff_ne.2 hconf, decide_eq_true hlate]
    rfl
  case wake =>
    intro t p ns s b hpowered hsleeps hlong
    have hsleep : (b.keel.powered && (b.resetN || b.eng == .startHut || b.eng == .halted)) = true := by
      obtain h | h | h := hsleeps <;> simp [hpowered, h]
    unfold exec execBusWakeDetect
    refine ev_eq (b := b) rfl ?_
    dsimp only
    rw [hsleep, decide_eq_true hlong, Bool.true_or, if_neg (show ¬(2000 ≤ ns ∧ ns < 4000) by omega)]
    rfl
  case driven =>
    intro p loop f s htx v tag
    have hsent : v.sent = sentOf s p f := driveFrame_sent htx
    refine ⟨fun hfdf => ?_, fun hshort => ?_⟩
    · rw [hsent]
      unfold sentOf
      dsimp only
      rw [if_pos hfdf]
      exact ⟨rfl, rfl⟩
    · rw [hsent]
      unfold sentOf
      dsimp only
      rw [if_neg (by rw [hshort]; nofun)]
      exact ⟨rfl, rfl⟩
  case stuffed => exact fun l i x => (stuffFrom_noSix l (by decide)).2 i x

end Sys2Proof.Machine
end

section
/-! PROOFS. Heartbeats, anchors, global operations, barriers and enrollment (12 R297-R318; 15 R366, R367). -/

namespace Sys2Proof.Machine

open Sys2Proof.Safety

theorem setPort_setPort (s : State) (p : BusPort) (v w : Port) : setPort (setPort s p v) p w = setPort s p w := by cases p <;> rfl


/-- The members of a port do not choose the port followed. -/
theorem followPort_setMembers (s : State) (p : BusPort) (l : Tbl Member) :
    followPort (setPort s p { portGet s p with members := l }) = followPort s := by cases p <;> rfl

/-- A heartbeat that is not a primary's does not count as one (R307). -/
theorem countPrimary_of_other {p : BusPort} {hb : Heartbeat} {s : State} (h : bitOf hb.flags 0 = false) : countPrimary p hb s = s :=
  if_neg (by rw [h]; nofun)

/-- A port without an anchor role has no partner to hear (R308). -/
theorem hearPartner_of_none {p : BusPort} {hb : Heartbeat} {before : Nat} {s : State} (h : anchorRole (portGet s p) = 0) :
    hearPartner p hb before s = s :=
  if_pos (by rw [h]; rfl)

/-- A node that is a member already is not enrolled anew (R366). -/
theorem enrollNew_of_member {p : BusPort} {node : Nat} {s : State} : enrollNew p node true s = s := rfl

/-- An operation whose time has come is not late (R317). -/
theorem opLate_of_due {s : State} {o : GlobalOp} (hdue : Int.ofNat o.execNs * 65536 ≤ domNow s o.dom)
    (hsoon : domNow s o.dom < Int.ofNat o.execNs * 65536 + 65536) : opLate s o = some 0 := by
  have hlo : 0 ≤ domNow s o.dom - Int.ofNat o.execNs * tickNs := sub_nonneg.2 hdue
  have hhi : domNow s o.dom - Int.ofNat o.execNs * tickNs < tickNs := sub_lt_iff_lt_add'.2 hsoon
  unfold opLate
  dsimp only
  rw [if_neg (not_lt.2 hlo), Int.ediv_eq_zero_of_lt hlo hhi]
  rfl

/-- Settles O59: each event is due, and the node, operation or barrier is there. -/
theorem treeEvents : Obligations.TreeEvents := by
  refine ⟨?beat, ?duplicate, ?renewed, ?switched, ?silent, ?check, ?gone, ?request, ?taken, ?acts, ?unissued, ?report, ?deadline,
    ?reply, ?again⟩
  case beat =>
    intro t p x s b v hlive hlast hdue
    unfold exec execHeartbeatTx
    refine ev_eq (b := b) rfl (if_neg ?_)
    rw [hlive, show (portGet b p).hbAt = some x from hlast]
    dsimp only
    rw [decide_eq_true hdue]
    nofun
  case duplicate =>
    intro t p hb s b v hlive hsrc hseq
    unfold exec execHeartbeatRx
    exact ev_eq (b := b) rfl ((if_neg (by rw [hlive]; nofun)).trans ((if_pos hsrc).trans (if_neg (Nat.not_lt.2 hseq))))
  case renewed =>
    intro t p hb m s b v hlive hsrc hrole hprim hport hm hnear m2
    unfold exec execHeartbeatRx
    refine ev_eq (b := b) rfl ((if_neg (by rw [hlive]; nofun)).trans ((if_neg hsrc).trans ?_))
    have hrole2 : anchorRole (portGet (setPort b p { portGet b p with members := tput v.members hb.src m2 }) p) = 0 := by
      rw [setPort_get]
      exact hrole
    dsimp only
    rw [countPrimary_of_other hprim, hearPartner_of_none hrole2, followPort_setMembers, if_neg hport,
      show tget (portGet b p).members hb.src = some m from hm]
    dsimp only
    rw [hnear]
    exact enrollNew_of_member
  case switched =>
    intro t p s b hport hserve hnone
    unfold exec execPrimarySilentSwitch
    refine ev_eq (b := b) rfl (if_pos ?_)
    rw [decide_eq_true hport, hserve, hnone]
    rfl
  case silent =>
    intro t p s b v hsilent hfar hbeats hserve u
    have hstep (hrole : anchorRole v ≠ 0) : exec (.partnerSilent t p) s = .next (if anchorRole v = 1 then setLink p u
        else if v.anchor.acting then u else anchorMod p (fun a => { a with checkAt := some (u.keel.frc + 2000000) }) u) := by
      unfold exec execPartnerSilent
      refine ev_eq (b := b) rfl (if_neg ?_)
      rw [decide_eq_false hrole, hsilent, hfar, hbeats, hserve]
      nofun
    refine ⟨fun hprim => ?_, fun hsec hidle => ?_⟩
    · rw [hstep (by omega), if_pos hprim]
    · rw [hstep (by omega), if_neg (by omega), if_neg (by rw [hidle]; nofun)]
      unfold anchorMod
      dsimp only
      rw [setPort_get, setPort_setPort, setPort_keel]
  case check =>
    intro t p x s b v hrole hsilent hidle hcheck hdue hbeats followed
    have hstep : exec (.anchorTakeoverCheck t p) s = .next (if followed then
          anchorMod p (fun a => { a with checkAt := some (b.keel.frc + 1000000) }) (setLink p b)
        else if fnat v.anchor.f 0xC404 0 = 1 then
          anchorEvent p 5 (hostMiss 0 (anchorMod p (fun a => { a with link := true, checkAt := none }) b))
        else takeOver p b) := by
      unfold exec execAnchorTakeoverCheck
      refine ev_eq (b := b) rfl (if_neg ?_)
      rw [show (portGet b p).anchor.checkAt = some x from hcheck]
      dsimp only
      rw [decide_eq_true hdue, decide_eq_false (not_not_intro hrole), hsilent, hidle, hbeats]
      nofun
    refine ⟨fun hfree hengine => ?_, fun hfree hhost => ?_, fun hfollowed => ?_⟩
    · rw [hstep, if_neg (by rw [hfree]; nofun), if_neg (by omega)]
    · rw [hstep, if_neg (by rw [hfree]; nofun), if_pos hhost]
      rfl
    · rw [hstep, if_pos hfollowed]
  case gone =>
    intro t p node m s b v hm hold hnone henroll hbeats
    have hfar : within3ms b (some m.frc) = false := decide_eq_false (Nat.not_lt.2 hold)
    have habort : abortEnroll p node (setPort b p { v with members := tdel v.members node }) =
        setPort b p { v with members := tdel v.members node } :=
      abortEnroll_of_none (by rw [setPort_get]; exact henroll)
    have hbar : (setPort b p { v with members := tdel v.members node }).bus.barriers = [] := by
      rw [← hnone]
      cases p <;> rfl
    unfold exec execMemberHeartbeatAgeOut
    refine ev_eq (b := b) rfl ?_
    dsimp only
    rw [show tget (portGet b p).members node = some m from hm]
    dsimp only
    rw [hfar, hbeats, habort, hbar]
    exact congrArg (fun l => { setPort b p { v with members := tdel v.members node } with
      bus := { (setPort b p { v with members := tdel v.members node }).bus with barriers := l } }) hbar.symm
  case request =>
    intro t p op r s b hlive htype hroot hroom
    have hissue : issuable op.reqType = true := by
      obtain h | h | h := htype <;> rw [h] <;> rfl
    have hother : op.reqType ≠ 0x1A := by omega
    unfold exec execGopRequestRx
    refine ev_eq (b := b) rfl ((if_neg ?_).trans ?_)
    · rw [hlive, hissue, decide_eq_false (Nat.not_le.2 hroom), Bool.and_false]
      nofun
    · rw [hroot]
      exact if_neg hother
  case taken =>
    intro t p op s b hlive
    unfold exec execGlobalOpRx
    exact ev_eq (b := b) rfl (if_pos hlive)
  case acts =>
    intro t src id x s b hfind hdue hsoon
    unfold exec execGlobalOpExecute
    refine ev_eq (b := b) rfl ?_
    rw [hfind]
    dsimp only
    rw [opLate_of_due hdue hsoon]
    exact if_pos rfl
  case unissued =>
    intro t tag h msg arg due s b hissue hlate
    unfold exec execGlobalIssueTimeout
    refine ev_eq (b := b) rfl ?_
    rw [hissue]
    exact if_neg (Nat.not_lt.2 hlate)
  case report =>
    intro t p src id part x s b hx hexp hlive left
    unfold exec execBarrierReportRx
    refine ev_eq (b := b) rfl ?_
    rw [hx]
    exact if_neg (by rw [hexp, hlive]; nofun)
  case deadline =>
    intro t id x p s b hx hroot hmine hdue
    unfold exec execBarrierTimeout
    refine ev_eq (b := b) rfl ?_
    rw [hx, hroot]
    exact if_pos (by rw [hmine, decide_eq_true hdue]; rfl)
  case reply =>
    intro t p r e s b v hserve hpcb hauth hmsg he hexch hstage
    have hstep : exec (.enrollRecordRx t p r) s = .next (takeReply p e r b) := by
      unfold exec execEnrollRecordRx
      refine ev_eq (b := b) rfl ((if_neg (by rw [hserve, hpcb]; nofun)).trans ((if_pos hauth).trans ((if_neg (by omega)).trans ?_)))
      unfold authorityRecord
      dsimp only
      rw [show tget (portGet b p).enrolls r.src = some e from he, hmsg]
      exact if_pos (by
        show (e.exchange == r.exchange && e.stage == 1) = true
        rw [hexch, hstage, beq_self_eq_true]
        rfl)
    refine ⟨fun _ => hstep, fun n hrefused => ?_⟩
    rw [hstep]
    unfold takeReply
    rw [show refusal b (portGet b p) r = some n from hrefused]
  case again =>
    intro t p node e s b v he hlate
    have hstep : exec (.enrollTimeout t p node) s = .next (repeatEnroll p node b) := by
      unfold exec execEnrollTimeout
      refine ev_eq (b := b) rfl ?_
      rw [show tget (portGet b p).enrolls node = some e from he]
      exact if_pos hlate
    have hrepeat (hstage : e.stage < 11) : repeatEnroll p node b = if isMember b v node && decide (e.tries < 4) then
        startEnroll p node (e.tries + 1) b else raise 0x016 1 0 false (dropExchange p node b) := by
      unfold repeatEnroll
      dsimp only
      rw [show tget (portGet b p).enrolls node = some e from he]
      exact if_neg (by omega)
    refine ⟨fun hstage hmember hfew => ?_, fun hstage hend => ?_⟩
    · rw [hstep, hrepeat hstage, if_pos (by rw [hmember, decide_eq_true hfew]; rfl)]
    · rw [hstep, hrepeat hstage, if_neg]
      obtain hout | hmany := hend
      · rw [hout]
        nofun
      · rw [decide_eq_false (Nat.not_lt.2 hmany), Bool.and_false]
        exact Bool.false_ne_true

end Sys2Proof.Machine
end

section
/-! PROOFS. The events of the fault collector and of the dual-rail pairs (18). -/

namespace Sys2Proof.Machine

open Sys2Proof.Safety

/-- A message that names a listed source under a legal kind is one the collector takes. -/
theorem msgOk_of {m : FaultMsg} (hl : srcListed m.source = true) (h1 : 1 ≤ m.kind) (h2 : m.kind < 128) : msgOk m = true := by
  simp [msgOk, hl, h1, h2]

/-- Messages that are all taken go into the cycle together. -/
theorem exec_faultMessage {t : Nat} {l : List FaultMsg} {s : State} (hsrc : ∀ m ∈ l, m.source < 1024) (hok : ∀ m ∈ l, msgOk m = true) :
    exec (.faultMessage t l) s = .next (takeMessages l (integrityLoss l (advance t s))) := by
  unfold exec execFaultMessage
  refine evOn_eq (b := advance t s) (List.all_eq_true.mpr fun m hm => decide_eq_true (hsrc m hm)) rfl ?_
  dsimp only
  rw [List.filter_eq_self.mpr hok]

/-- Two messages reset the vault and the shadow floors whichever is named first. -/
theorem integrityLoss_swap (x y : FaultMsg) (s : State) : integrityLoss [y, x] s = integrityLoss [x, y] s := by
  have hany : ∀ p : FaultMsg → Bool, [y, x].any p = [x, y].any p := fun p => by simp [Bool.or_comm]
  unfold integrityLoss
  simp only [hany]

/-- The end of a condition takes nothing from the vault or the floors. -/
theorem integrityLoss_end {m : FaultMsg} (h : m.kind = 0x7F) (s : State) : integrityLoss [m] s = s := by
  simp [integrityLoss, h]

theorem takeMessages_one {m : FaultMsg} (h : m.kind ≠ 0x7F) (s : State) :
    takeMessages [m] s = raise m.source m.kind m.address m.held (queueFault m s) := by
  simp [takeMessages, h, insertMsg]

theorem takeMessages_end {m : FaultMsg} (h : m.kind = 0x7F) (s : State) :
    takeMessages [m] s = if (srcGet s m.source).address = m.address then endCond m.source s else s := by
  simp [takeMessages, h]

/-- Of two messages of one severity the lower source stands first (R420). -/
theorem insertMsg_lower {x y : FaultMsg} {s : State} (hlt : x.source < y.source) (hsev : sevNow s x.source = sevNow s y.source) :
    insertMsg s y [x] = [x, y] ∧ insertMsg s x [y] = [x, y] := by
  constructor
  · simp only [insertMsg]
    exact if_neg (by rw [hsev]; omega)
  · simp only [insertMsg]
    exact if_pos (.inr ⟨hsev.symm, hlt⟩)

theorem takeMessages_two {x y : FaultMsg} {s : State} (hx : x.kind ≠ 0x7F) (hy : y.kind ≠ 0x7F)
    (hlt : x.source < y.source) (hsev : sevNow s x.source = sevNow s y.source) :
    let lower := raise y.source y.kind y.address y.held (queueFault y (raise x.source x.kind x.address x.held (queueFault x s)))
    takeMessages [x, y] s = lower ∧ takeMessages [y, x] s = lower := by
  obtain ⟨hxy, hyx⟩ := insertMsg_lower hlt hsev
  have hone : ∀ m, insertMsg s m [] = [m] := fun _ => rfl
  constructor <;> simp [takeMessages, hx, hy, hone, hxy, hyx]

/-- Settles O60: the messages of one cycle go through `takeMessages`, in the order of severity and source, and each event of a pair
through its own guard. -/
theorem collectorEvents : Obligations.CollectorEvents := by
  unfold Obligations.CollectorEvents
  refine ⟨?message, ?two, ?verdict, ?drain, ?pair, ?flt⟩
  case message =>
    intro t m s b hsrc hlist h1 h2
    have hrun : exec (.faultMessage t [m]) s = .next (takeMessages [m] (integrityLoss [m] b)) :=
      exec_faultMessage (by simpa using hsrc) (by simpa using msgOk_of hlist h1 h2)
    refine ⟨fun hk => ?_, fun hk ha => ?_, fun hk ha => ?_⟩
    · rw [hrun, takeMessages_one hk]
    · rw [hrun, takeMessages_end hk, integrityLoss_end hk, if_pos ha]
    · rw [hrun, takeMessages_end hk, integrityLoss_end hk, if_neg ha]
  case two =>
    intro t x y s b hlt hy hxl hyl hx1 hx2 hy1 hy2 hsev first lower
    have hx : x.source < 1024 := hlt.trans hy
    have hxo := msgOk_of hxl hx1 (by omega)
    have hyo := msgOk_of hyl hy1 (by omega)
    obtain ⟨hxy, hyx⟩ := takeMessages_two (by omega) (by omega) hlt hsev
    constructor
    · rw [exec_faultMessage (by simp [hx, hy]) (by simp [hxo, hyo])]
      exact congrArg _ hxy
    · rw [exec_faultMessage (by simp [hx, hy]) (by simp [hxo, hyo]), integrityLoss_swap]
      exact congrArg _ hyx
  case verdict =>
    intro t src v s b hsrc hv hdue hnot
    unfold exec execFaultVerdictTimeout
    refine evOn_eq (b := b) (decide_eq_true hsrc) rfl ?_
    rw [hv]
    exact if_neg (by rw [hnot, Bool.or_false, decide_eq_true_eq]; omega)
  case drain =>
    intro t s b hcyc
    unfold exec execLogIntakeDrain
    refine ev_eq (b := b) rfl ?_
    rw [if_neg hcyc]
    simp only [Nat.sub_zero, Nat.zero_add, List.length_take]
  case pair =>
    intro t n s b hn hsense u
    refine ⟨?_, fun hlive => ?_, fun hnot => ?_⟩
    · unfold exec execXfPairChange
      refine evOn_eq (b := b) (decide_eq_true hn) rfl ?_
      exact if_neg (by rw [hsense]; nofun)
    · unfold exec execXfPairChange
      refine evOn_eq (b := b) (decide_eq_true hn) rfl ?_
      exact (if_neg (by rw [hsense]; nofun)).trans ((if_neg nofun).trans (if_neg (Bool.not_eq_true _ ▸ hlive)))
    · unfold exec execXfBrokenExpiry
      refine evOn_eq (b := b) (decide_eq_true hn) rfl ?_
      exact if_neg (by rw [hsense]; simpa using hnot)
  case flt =>
    intro t s b u
    refine ⟨fun hp hm => ?_, fun hm => ?_⟩
    · unfold exec execFltReadbackMismatch
      refine ev_eq (b := b) rfl ?_
      exact if_neg (by rw [hm, ← Option.not_isSome, hp]; nofun)
    · unfold exec execFltReadbackRestored
      refine ev_eq (b := b) rfl ?_
      exact if_neg (by rw [hm]; nofun)

end Sys2Proof.Machine
end

section
/-! PROOFS. A raise leaves the time unit alone, so a comparator that fires settles without waking another. -/

namespace Sys2Proof.Machine

open Sys2Proof.Safety

/-! ### The time unit under the operations of the queue manager -/

theorem foldl_tu {α : Type} {f : State → α → State} (hf : ∀ s a, (f s a).tu = s.tu) (l : List α) (s : State) : (l.foldl f s).tu = s.tu := by
  induction l generalizing s with
  | nil => rfl
  | cons a l ih => exact (ih _).trans (hf s a)

@[simp] theorem regrant_tu (n : Nat) (s : State) : (regrant n s).tu = s.tu := rfl

@[simp] theorem noteDepth_tu (n d : Nat) (s : State) : (noteDepth n d s).tu = s.tu := by
  simp only [noteDepth]
  (repeat' split) <;> simp

@[simp] theorem qChange_tu (n : Nat) (freed : List Cell) (f : Queue → Queue) (s : State) : (qChange n freed f s).tu = s.tu := by
  simp only [qChange]
  (repeat' split) <;> simp

@[simp] theorem qMod_tu (n : Nat) (f : Queue → Queue) (s : State) : (qMod n f s).tu = s.tu := by
  unfold qMod
  split <;> simp

@[simp] theorem rewindOpen_tu (n : Nat) (s : State) : (rewindOpen n s).tu = s.tu := by
  unfold rewindOpen
  split <;> simp

@[simp] theorem markOpen_tu (n reason : Nat) (s : State) : (markOpen n reason s).tu = s.tu := qMod_tu ..

@[simp] theorem endOpen_tu (n reason : Nat) (s : State) : (endOpen n reason s).tu = s.tu := by
  unfold endOpen
  (repeat' split) <;> simp

@[simp] theorem commitCell_tu (n : Nat) (data : List Byte) (bad acked last : Bool) (s : State) :
    (commitCell n data bad acked last s).tu = s.tu := by
  unfold commitCell
  split
  · rfl
  · split
    · rfl
    · simp

@[simp] theorem writePacket_tu (n : Nat) (data : List Byte) (acked : Bool) (i : PktInfo) (s : State) :
    (writePacket n data acked i s).tu = s.tu :=
  (qMod_tu ..).trans ((foldl_tu (fun _ _ => commitCell_tu ..) _ _).trans (qMod_tu ..))

/-! ### Under the streams, jobs and runs -/

@[simp] theorem stMod_tu (n : Nat) (f : Stream → Stream) (s : State) : (stMod n f s).tu = s.tu := by
  unfold stMod
  split <;> simp

@[simp] theorem setJob_tu (n seq : Nat) (f : Job → Job) (s : State) : (setJob n seq f s).tu = s.tu := stMod_tu ..

@[simp] theorem jobCommitted_tu (x : Stream) (j : Job) (st : Status) (s : State) : (jobCommitted x j st s).tu = s.tu := by
  unfold jobCommitted
  split <;> simp

@[simp] theorem freeChain_tu (q job core : Nat) (s : State) : (freeChain q job core s).tu = s.tu := by
  unfold freeChain
  split <;> simp

@[simp] theorem linkWhole_tu (q : Nat) (c : Chain) (s : State) : (linkWhole q c s).tu = s.tu := by
  unfold linkWhole
  split <;> simp

@[simp] theorem linkOne_tu (q : Nat) (c : Chain) (s : State) : (linkOne q c s).tu = s.tu := by
  unfold linkOne
  (repeat' split) <;> simp

@[simp] theorem linkCommitted_tu (q : Nat) (s : State) : (linkCommitted q s).tu = s.tu := by
  unfold linkCommitted
  (repeat' split)
  · rfl
  · rfl
  · refine foldl_tu (fun s c => ?_) _ _
    split <;> simp

@[simp] theorem dropOutput_tu (x : Stream) (r : Run) (core : Nat) (s : State) : (dropOutput x r core s).tu = s.tu := by
  simp only [dropOutput]
  (repeat' split) <;> simp

@[simp] theorem endRun_tu (core : Nat) (s : State) : (endRun core s).tu = s.tu := by
  simp only [endRun]
  (repeat' split) <;> simp

@[simp] theorem endRuns_tu (n : Nat) (s : State) : (endRuns n s).tu = s.tu := foldl_tu (fun _ _ => endRun_tu ..) _ _

/-- Jobs that are taken back are told to their host, and what they had committed is linked. -/
theorem toldJobs_tu (n : Nat) (x : Stream) (s : State) :
    (x.jobs.foldl (fun s j => jobCommitted x j .cancelled s) (endRuns n s)).tu = s.tu :=
  (foldl_tu (fun _ _ => jobCommitted_tu ..) _ _).trans (endRuns_tu ..)

@[simp] theorem cancelJobs_tu (n : Nat) (s : State) : (cancelJobs n s).1.tu = s.tu := by
  simp only [cancelJobs]
  (repeat' split) <;> simp [toldJobs_tu]

@[simp] theorem stopStream_tu (n : Nat) (s : State) : (stopStream n s).tu = s.tu := by
  unfold stopStream
  split
  · rfl
  · exact (stMod_tu ..).trans (cancelJobs_tu ..)

@[simp] theorem stopQueue_tu (n : Nat) (s : State) : (stopQueue n s).tu = s.tu := by
  unfold stopQueue
  split
  · rfl
  · refine (qMod_tu ..).trans ?_
    split <;> simp

@[simp] theorem stopFlow_tu (p : BusPort) (n : Nat) (s : State) : (stopFlow p n s).tu = s.tu := by
  simp only [stopFlow]
  split <;> simp

@[simp] theorem stopAsset_tu (fn tag : Nat) (s : State) : (stopAsset fn tag s).tu = s.tu := rfl

/-! ### Under the fault collector's reactions -/

@[simp] theorem quiesce_tu (s : State) : (quiesce s).tu = s.tu := by
  simp only [quiesce]
  exact foldl_tu (fun _ _ => endRun_tu ..) _ _

@[simp] theorem engineStop_tu (s : State) : (engineStop s).tu = s.tu := by
  unfold engineStop
  split <;> simp

@[simp] theorem cancelFetched_tu (fn : Nat) (warden : Bool) (s : State) : (cancelFetched fn warden s).tu = s.tu :=
  (foldl_tu (fun _ _ => respond_tu ..) _ _).trans (setMbx_tu ..)

@[simp] theorem endLongs_tu (p : Hdr → Long → Bool) (st : Status) (res : List Int) (s : State) : (endLongs p st res s).tu = s.tu :=
  foldl_tu (fun _ _ => finish_tu ..) _ _

@[simp] theorem cancelAll_tu (s : State) : (cancelAll s).tu = s.tu := by
  refine (foldl_tu (fun s n => (stMod_tu ..).trans (cancelJobs_tu n s)) _ _).trans ?_
  rw [cancelFetched_tu, foldl_tu (fun _ _ => cancelFetched_tu ..), endLongs_tu]

@[simp] theorem keelStop_tu (s : State) : (keelStop s).tu = s.tu := by
  simp only [keelStop, quiesce_tu]
  split <;> simp

@[simp] theorem streamStop_tu (addr : Nat) (s : State) : (streamStop addr s).tu = s.tu := by
  simp only [streamStop]
  split <;> simp

@[simp] theorem react_tu (sev addr : Nat) (s : State) : (react sev addr s).tu = s.tu := by
  unfold react
  (repeat' split) <;> simp

@[simp] theorem updRecs_tu (p : FaultRec → Bool) (f : FaultRec → FaultRec) (s : State) : (updRecs p f s).tu = s.tu := rfl

@[simp] theorem keepRec_tu (r : FaultRec) (s : State) : (keepRec r s).tu = s.tu := rfl

@[simp] theorem logRec_tu (r : FaultRec) (s : State) : (logRec r s).tu = s.tu := by
  unfold logRec
  split <;> rfl

@[simp] theorem updEvents_tu (f : List Int → List Int) (s : State) : (updEvents f s).tu = s.tu := rfl

@[simp] theorem rankLogged_tu (r : FaultRec) (s : State) : (rankLogged r s).1.tu = s.tu := by
  simp only [rankLogged]
  split <;> rfl

@[simp] theorem faultEvent_tu (r : FaultRec) (logged always : Bool) (s : State) : (faultEvent r logged always s).tu = s.tu := by
  simp only [faultEvent]
  (repeat' split) <;> simp

@[simp] theorem recordRaise_tu (src kind addr : Nat) (held : Bool) (s : State) : (recordRaise src kind addr held s).1.tu = s.tu := by
  unfold recordRaise
  extract_lets frc c1 s1 sev x0 x logged verdict same r x' s2 s3 c4 s4 s5 s6
  have h1 : s1.tu = s.tu := by unfold s1; split <;> rfl
  have h6 : s6.tu = s.tu := by
    clear_value s1
    unfold s6
    split <;> exact h1
  refine (faultEvent_tu ..).trans ?_
  split
  · exact (rankLogged_tu ..).trans ((logRec_tu ..).trans h6)
  · exact h6

@[simp] theorem holdRaise_tu (src kind addr : Nat) (held : Bool) (s : State) : (holdRaise src kind addr held s).tu = s.tu := rfl

/-- A raise, whatever it stops, leaves the time unit alone. -/
@[simp] theorem raise_tu (src kind addr : Nat) (held : Bool) (s : State) : (raise src kind addr held s).tu = s.tu := by
  simp only [raise]
  (repeat' split) <;> simp

/-! ### The comparators under a firing -/

@[simp] theorem pulse_cmps (i : Nat) (s : State) : (pulse i s).tu.cmps = s.tu.cmps := rfl

@[simp] theorem capWrite_cmps (n source flags : Nat) (time : Ticks) (s : State) :
    (capWrite n source flags time s).tu.cmps = s.tu.cmps := by
  simp only [capWrite]
  split <;> simp

@[simp] theorem routeInternal_cmps (source flags : Nat) (time : Ticks) (s : State) :
    (routeInternal source flags time s).tu.cmps = s.tu.cmps := by
  unfold routeInternal
  simp only [List.foldl_cons, List.foldl_nil]
  (repeat' split) <;> simp

/-- A comparator that is not armed does not fire. -/
theorem fireCmp_unarmed {late : Bool} {s : State} {i : Nat} (h : (tgetD s.tu.cmps i {}).armed = false) : fireCmp late s i = s := by
  unfold fireCmp
  split
  · rfl
  · next c hc =>
    have harm : c.armed = false := by simpa only [tgetD, hc, Option.getD_some] using h
    split
    · rfl
    · exact if_pos (by rw [harm]; rfl)

theorem foldl_fireCmp_unarmed {late : Bool} {s : State} {l : List Nat} (h : ∀ i ∈ l, (tgetD s.tu.cmps i {}).armed = false) :
    l.foldl (fireCmp late) s = s := by
  induction l with
  | nil => rfl
  | cons i l ih =>
    rw [List.foldl_cons, fireCmp_unarmed (h i List.mem_cons_self)]
    exact ih fun j hj => h j (List.mem_cons_of_mem _ hj)

/-- Where one comparator alone is armed and its firing changes no other, settling is that firing. -/
theorem settleCmps_alone {s : State} {cmp : Nat} (hcmp : cmp < 64) (hbefore : ∀ i, i ≠ cmp → (tgetD s.tu.cmps i {}).armed = false)
    (hafter : ∀ i, i ≠ cmp → (tgetD (fireCmp false s cmp).tu.cmps i {}).armed = false) :
    settleCmps s = fireCmp false s cmp := by
  obtain ⟨l, r, hlr⟩ := List.append_of_mem (List.mem_range.mpr hcmp)
  have hnodup : (l ++ cmp :: r).Nodup := hlr ▸ List.nodup_range
  obtain ⟨-, hr, hdisj⟩ := List.nodup_append.mp hnodup
  have hl : ∀ i ∈ l, i ≠ cmp := fun i hi => hdisj i hi cmp List.mem_cons_self
  have hr : ∀ i ∈ r, i ≠ cmp := fun i hi he => (List.nodup_cons.mp hr).1 (he ▸ hi)
  unfold settleCmps
  rw [hlr, List.foldl_append, foldl_fireCmp_unarmed fun i hi => hbefore i (hl i hi), List.foldl_cons]
  exact foldl_fireCmp_unarmed fun i hi => hafter i (hr i hi)

theorem settleCmps_unarmed {s : State} (h : ∀ i, (tgetD s.tu.cmps i {}).armed = false) : settleCmps s = s :=
  foldl_fireCmp_unarmed fun i _ => h i

/-- On a view the target of a comparator is what its descriptor holds. -/
theorem cmpTarget_base {s : State} {c : Cmp} (h : c.base < 3) : cmpTarget s c = c.target := if_pos h

theorem aimCmp_cmpTarget {s : State} {c : Cmp} (h : c.base < 3) : aimCmp s c (cmpTarget s c) = c := by
  rw [cmpTarget_base h]
  exact if_pos h

/-- A firing on time counts, disarms a single shot, acts, and sends its edge. -/
theorem actCmp_on_time {s : State} {i : Nat} {c : Cmp} {base : Int} (hbase : c.base < 3) (hper : c.periodic = false) :
    let u := { s with tu := { s.tu with cmps := tput s.tu.cmps i { c with armed := false, firings := c.firings + 1 } } }
    actCmp i c base 0 false s = routeInternal (0x40 + i) 0 (activeNow u) (actOrDefer i c (cmpTarget s c) none u) := by
  have hat : cmpTarget s c + Int.ofNat 0 * cmpPeriod s c = cmpTarget s c := by simp
  unfold actCmp
  rw [hat]
  simp [hper, aimCmp_cmpTarget hbase]

theorem actOrDefer_pulse {s : State} {i : Nat} {c : Cmp} {target : Int} {late : Option Nat} (h : c.action = 0) :
    actOrDefer i c target late s = pulse (c.arg % 8) s := by
  unfold actOrDefer
  rw [h]
  exact if_neg (by simp)

/-- A single shot on the active view that has reached its target fires its TRIG_PULSE on time. -/
theorem fireCmp_pulse {s : State} {cmp : Nat} {c : Cmp} (hc : tget s.tu.cmps cmp = some c) (harm : c.armed = true)
    (hbase : c.base = 0) (hper : c.periodic = false) (hact : c.action = 0) (htarget : c.target ≤ activeNow s) :
    fireCmp false s cmp = routeInternal (0x40 + cmp) 0 (activeNow s) (pulse (c.arg % 8)
      { s with tu := { s.tu with cmps := tput s.tu.cmps cmp { c with armed := false, firings := c.firings + 1 } } }) := by
  have hview : c.base < 3 := by omega
  have hnow : baseNow s c.base = some (activeNow s) := by rw [hbase]; rfl
  have hfire : fireCmp false s cmp = actCmp cmp c (activeNow s) 0 false s := by
    unfold fireCmp
    rw [hc]
    dsimp only
    rw [hnow, cmpTarget_base hview]
    refine (if_neg (by rw [harm]; simpa using htarget)).trans ?_
    simp [hper]
  rw [hfire, actCmp_on_time hview hper, actOrDefer_pulse hact]
  rfl

/-- A single shot on the active view that is let go is disarmed without firing. -/
theorem yieldCmp_once {s : State} {cmp : Nat} {c : Cmp} (hc : tget s.tu.cmps cmp = some c) (harm : c.armed = true)
    (hbase : c.base = 0) (hper : c.periodic = false) (htarget : c.target ≤ activeNow s) :
    yieldCmp s cmp = { s with tu := { s.tu with cmps := tput s.tu.cmps cmp { c with armed := false } } } := by
  have hview : c.base < 3 := by omega
  have hnow : baseNow s c.base = some (activeNow s) := by rw [hbase]; rfl
  unfold yieldCmp
  rw [hc]
  dsimp only
  rw [hnow]
  refine (if_neg (by rw [harm, cmpTarget_base hview]; simpa using htarget)).trans ?_
  simp [hper, aimCmp_cmpTarget hview]

/-- A capture FIFO with room takes the edge behind its entries. -/
theorem capWrite_room {n source flags : Nat} {time : Ticks} {s : State} (h : (tgetD s.tu.caps n {}).entries.length < 64) :
    let x := tgetD s.tu.caps n {}
    capWrite n source flags time s = { s with tu := { s.tu with caps := tput s.tu.caps n { x with
      entries := x.entries ++
        [{ time := time, epoch := activeEpoch s.keel, seq := x.seq, source := source, flags := flags + 4 * bit01 x.gap }]
      gap := false, seq := (x.seq + 1) % 65536 } } } :=
  if_neg (Nat.not_le.mpr h)

/-- A fall line off its flywheel stays as it is where the flywheel is ended. -/
theorem unflown {g : FallLine} (h : g.fly = false) : { g with fly := false } = g := by
  cases g
  cases h
  rfl

/-! ### The obligation -/

/-- Settles O23: the one armed comparator settles alone, and each edge passes the guards of its row. -/
theorem timeEdges : Obligations.TimeEdges := by
  unfold Obligations.TimeEdges
  refine ⟨?fire, ?cap, ?frame, ?line, ?raster, ?fly⟩
  case fire =>
    intro t cmp s b c hcmp hget harm hbase hper hact htarget hothers u
    constructor
    · unfold exec execComparatorFire
      refine evOn_eq (b := b) (decide_eq_true hcmp) rfl ?_
      have hfire := fireCmp_pulse hget harm hbase hper hact htarget
      refine (settleCmps_alone hcmp hothers fun i hi => ?_).trans hfire
      rw [hfire, routeInternal_cmps, pulse_cmps, tgetD, tget_tput_other _ _ _ _ hi]
      exact hothers i hi
    · unfold exec execComparatorFire
      refine evOn_eq (b := b) (decide_eq_true hcmp) rfl ?_
      refine (congrArg settleCmps (yieldCmp_once hget harm hbase hper htarget)).trans (settleCmps_unarmed fun i => ?_)
      by_cases hi : i = cmp
      · rw [hi, tgetD_tput]
      · rw [tgetD, tget_tput_other _ _ _ _ hi]
        exact hothers i hi
  case cap =>
    intro t cap falling tdc s b x hcap howner hedge hraw hroom tau
    have hrun : exec (.capEdge t cap falling tdc) s = .next (let w := capWrite cap cap (bit01 falling) tau b
        { w with tu := { w.tu with caps := tmod w.tu.caps cap fun y => { y with
          lastRaw := some (stampOf t tdc b), lastSeq := if x.entries.length < 64 then some x.seq else none } } }) := by
      unfold exec execCapEdge
      refine evOn_eq (b := b) (decide_eq_true hcap) rfl ?_
      refine (if_neg (by rw [hedge]; simpa using howner)).trans ?_
      exact if_neg (by rw [hraw]; nofun)
    refine ⟨_, hrun, ?_⟩
    dsimp only
    rw [capWrite_room hroom, tmod_of_get (tget_tput ..), tgetD_tput]
  case frame =>
    intro t fl tdc s b f hfl hsrc hstart hfly hlast tau u
    unfold exec execFlFrameEdge
    refine evOn_eq (b := b) (decide_eq_true hfl) rfl ?_
    have hf : dropTwin tau (flGet b fl) = f := by
      unfold dropTwin
      rw [show (flGet b fl).lastEdge = none from hlast]
    refine (if_neg (by rw [hsrc]; nofun)).trans ?_
    dsimp only
    rw [hf]
    refine congrArg (rekey fl) ((if_neg (by rw [hstart]; nofun)).trans (congrArg (lateOnFl fl) ?_))
    have hnumber : (if f.started = true then nextFrame f else fnat f.f 0x2908 0) = fnat f.f 0x2908 0 := if_neg (by rw [hstart]; nofun)
    have hwhole : ¬ (f.started && !f.fly && f.seen != flLines f) = true := by rw [hstart]; nofun
    have hoff : flyOff fl (setFl b fl f) = setFl b fl f := if_neg (by rw [setFl_get, hfly]; nofun)
    rw [hnumber, unflown (g := startFrame _ _ _ f) hfly, if_neg hwhole, hoff]
  case line =>
    intro t fl tdc s b f hfl hsrc hstart hfly hframes hline tau
    unfold exec execFlLineEdge
    refine evOn_eq (b := b) (decide_eq_true hfl) rfl ?_
    exact (if_neg (by rw [hsrc]; nofun)).trans ((if_neg (by rw [hstart, hfly, hframes]; nofun)).trans (if_neg (Nat.not_le.mpr hline)))
  case raster =>
    intro t fl tdc i tau s b f hfl hsrc hnow htime hne
    unfold exec execFlLineEdge
    refine evOn_eq (b := b) (decide_eq_true hfl) rfl ?_
    refine (if_pos (by rw [hsrc]; rfl)).trans ?_
    unfold rasterEdge
    dsimp only
    rw [hnow, Option.bind_some, htime]
    exact if_neg (by simpa using hne)
  case fly =>
    intro t fl e s b f hfl hsrc hstart hfly hlast hline hdue tau
    have hon : flyOn fl b = b := if_pos hfly
    unfold exec execFlFlywheelTimeout
    refine evOn_eq (b := b) (decide_eq_true hfl) rfl ?_
    dsimp only
    rw [hlast]
    refine (if_neg ?_).trans ?_
    · rw [hsrc, hstart, hfly, decide_eq_true (p := ite _ _ _) ((if_pos rfl).mpr hdue)]
      nofun
    · have hwrap : ¬ decide (flLines f ≤ f.line + 1) = true := by simpa using hline
      rw [hon]
      exact (if_neg hwrap).trans (congrArg (fun g => routeInternal _ 16 tau (setFl b fl g)) (if_neg hwrap))

end Sys2Proof.Machine
end
